-- ==== Sys2Proof/Word.lean ====
section
/-! DEFINITION. The word types of the UA-460 and the plainest arithmetic on them. -/

namespace Sys2Proof

/-- A word of the Crew Loop and of the Record Space, 16 bits (R164). -/
abbrev Word := BitVec 16

/-- A byte of a cell (R164). -/
abbrev Byte := BitVec 8

/-- The word of a natural number. -/
abbrev Word.ofNat (n : Nat) : Word := BitVec.ofNat 16 n

/-- The word of a signed number, in two's complement (R164). -/
abbrev Word.ofInt (n : Int) : Word := BitVec.ofInt 16 n

end Sys2Proof
end

