-- ==== Sys2Proof/Syntax.lean ====
section
/-! DEFINITION. The commands of the UA-460 as data: the names of its stations, blowers, actuators, doors and
channels, a table type for each, the operands a command carries, and `Instr`, one constructor for each row of
spec/opcode_table.json. What a command does stands in the files under Machine. -/

namespace Sys2Proof


/-- A station of the Crew Loop; station n owns slot n (R1). -/
inductive Station where
  | s1
  | s2
  | s3
  | s4
  | s5
  | s6
  | s7
  | s8
  deriving DecidableEq, Repr

/-- Every value, in the manual's order. -/
def Station.all : List Station :=
  [.s1, .s2, .s3, .s4, .s5, .s6, .s7, .s8]

/-- The number of a station, 1 to 8 (R1). -/
def Station.num : Station → Nat
  | .s1 => 1
  | .s2 => 2
  | .s3 => 3
  | .s4 => 4
  | .s5 => 5
  | .s6 => 6
  | .s7 => 7
  | .s8 => 8

/-- A blower (R135). -/
inductive Blower where
  | intake
  | front
  | rear
  deriving DecidableEq, Repr

/-- Every value, in the manual's order. -/
def Blower.all : List Blower :=
  [.intake, .front, .rear]

/-- An actuator, in the order of the control pairs (R148): Intake Shutter, Relief Flap, Heater Valve, Front Mix, Rear Mix. -/
inductive ActuatorId where
  | shutter
  | relief
  | heater
  | frontMix
  | rearMix
  deriving DecidableEq, Repr

/-- Every value, in the manual's order. -/
def ActuatorId.all : List ActuatorId :=
  [.shutter, .relief, .heater, .frontMix, .rearMix]

/-- The number of an actuator, 1 to 5 (R148). -/
def ActuatorId.num : ActuatorId → Nat
  | .shutter => 1
  | .relief => 2
  | .heater => 3
  | .frontMix => 4
  | .rearMix => 5

/-- A door of the vehicle (R93). -/
inductive Door where
  | d1
  | d2
  | d3
  | d4
  | d5
  | d6
  deriving DecidableEq, Repr

/-- Every value, in the manual's order. -/
def Door.all : List Door :=
  [.d1, .d2, .d3, .d4, .d5, .d6]

/-- The number of a door, 1 to 6 (R93). -/
def Door.num : Door → Nat
  | .d1 => 1
  | .d2 => 2
  | .d3 => 3
  | .d4 => 4
  | .d5 => 5
  | .d6 => 6

/-- A calibrated channel, 0 to 10 in this order (R104). -/
inductive CalChannel where
  | cabPressure
  | intakeFlow
  | filterDrop
  | outsideSmoke
  | outsideCo
  | frontCo
  | rearCo
  | frontTemp
  | rearTemp
  | coolantTemp
  | supply
  deriving DecidableEq, Repr

/-- Every value, in the manual's order. -/
def CalChannel.all : List CalChannel :=
  [.cabPressure, .intakeFlow, .filterDrop, .outsideSmoke, .outsideCo, .frontCo, .rearCo, .frontTemp, .rearTemp, .coolantTemp, .supply]

/-- The number of a calibrated channel (R104). -/
def CalChannel.num : CalChannel → Nat
  | .cabPressure => 0
  | .intakeFlow => 1
  | .filterDrop => 2
  | .outsideSmoke => 3
  | .outsideCo => 4
  | .frontCo => 5
  | .rearCo => 6
  | .frontTemp => 7
  | .rearTemp => 8
  | .coolantTemp => 9
  | .supply => 10

/-- A value for each of the stations 1 to 8. -/
structure PerStation (α : Type) where
  s1 : α
  s2 : α
  s3 : α
  s4 : α
  s5 : α
  s6 : α
  s7 : α
  s8 : α
  deriving DecidableEq, Repr

/-- The value held for `i`. -/
def PerStation.get {α : Type} (t : PerStation α) (i : Station) : α :=
  match i with
  | .s1 => t.s1
  | .s2 => t.s2
  | .s3 => t.s3
  | .s4 => t.s4
  | .s5 => t.s5
  | .s6 => t.s6
  | .s7 => t.s7
  | .s8 => t.s8

/-- The table with `v` for `i`, the rest kept. -/
def PerStation.set {α : Type} (t : PerStation α) (i : Station) (v : α) : PerStation α :=
  match i with
  | .s1 => { t with s1 := v }
  | .s2 => { t with s2 := v }
  | .s3 => { t with s3 := v }
  | .s4 => { t with s4 := v }
  | .s5 => { t with s5 := v }
  | .s6 => { t with s6 := v }
  | .s7 => { t with s7 := v }
  | .s8 => { t with s8 := v }

/-- The table whose value for `i` is `f i`. -/
def PerStation.ofFn {α : Type} (f : Station → α) : PerStation α :=
  ⟨f .s1, f .s2, f .s3, f .s4, f .s5, f .s6, f .s7, f .s8⟩

/-- The values in order. -/
def PerStation.toList {α : Type} (t : PerStation α) : List α :=
  [t.s1, t.s2, t.s3, t.s4, t.s5, t.s6, t.s7, t.s8]

/-- Each value sent through `f`, which also sees whose it is. -/
def PerStation.mapWith {α β : Type} (t : PerStation α) (f : Station → α → β) : PerStation β :=
  PerStation.ofFn fun i => f i (t.get i)

/-- Each value sent through `f`. -/
def PerStation.map {α β : Type} (t : PerStation α) (f : α → β) : PerStation β :=
  t.mapWith fun _ a => f a

/-- A value for each of the three blowers. -/
structure PerBlower (α : Type) where
  intake : α
  front : α
  rear : α
  deriving DecidableEq, Repr

/-- The value held for `i`. -/
def PerBlower.get {α : Type} (t : PerBlower α) (i : Blower) : α :=
  match i with
  | .intake => t.intake
  | .front => t.front
  | .rear => t.rear

/-- The table with `v` for `i`, the rest kept. -/
def PerBlower.set {α : Type} (t : PerBlower α) (i : Blower) (v : α) : PerBlower α :=
  match i with
  | .intake => { t with intake := v }
  | .front => { t with front := v }
  | .rear => { t with rear := v }

/-- The table whose value for `i` is `f i`. -/
def PerBlower.ofFn {α : Type} (f : Blower → α) : PerBlower α :=
  ⟨f .intake, f .front, f .rear⟩

/-- The values in order. -/
def PerBlower.toList {α : Type} (t : PerBlower α) : List α :=
  [t.intake, t.front, t.rear]

/-- Each value sent through `f`, which also sees whose it is. -/
def PerBlower.mapWith {α β : Type} (t : PerBlower α) (f : Blower → α → β) : PerBlower β :=
  PerBlower.ofFn fun i => f i (t.get i)

/-- Each value sent through `f`. -/
def PerBlower.map {α β : Type} (t : PerBlower α) (f : α → β) : PerBlower β :=
  t.mapWith fun _ a => f a

/-- A value for each of the five actuators. -/
structure PerActuator (α : Type) where
  shutter : α
  relief : α
  heater : α
  frontMix : α
  rearMix : α
  deriving DecidableEq, Repr

/-- The value held for `i`. -/
def PerActuator.get {α : Type} (t : PerActuator α) (i : ActuatorId) : α :=
  match i with
  | .shutter => t.shutter
  | .relief => t.relief
  | .heater => t.heater
  | .frontMix => t.frontMix
  | .rearMix => t.rearMix

/-- The table with `v` for `i`, the rest kept. -/
def PerActuator.set {α : Type} (t : PerActuator α) (i : ActuatorId) (v : α) : PerActuator α :=
  match i with
  | .shutter => { t with shutter := v }
  | .relief => { t with relief := v }
  | .heater => { t with heater := v }
  | .frontMix => { t with frontMix := v }
  | .rearMix => { t with rearMix := v }

/-- The table whose value for `i` is `f i`. -/
def PerActuator.ofFn {α : Type} (f : ActuatorId → α) : PerActuator α :=
  ⟨f .shutter, f .relief, f .heater, f .frontMix, f .rearMix⟩

/-- The values in order. -/
def PerActuator.toList {α : Type} (t : PerActuator α) : List α :=
  [t.shutter, t.relief, t.heater, t.frontMix, t.rearMix]

/-- Each value sent through `f`, which also sees whose it is. -/
def PerActuator.mapWith {α β : Type} (t : PerActuator α) (f : ActuatorId → α → β) : PerActuator β :=
  PerActuator.ofFn fun i => f i (t.get i)

/-- Each value sent through `f`. -/
def PerActuator.map {α β : Type} (t : PerActuator α) (f : α → β) : PerActuator β :=
  t.mapWith fun _ a => f a

/-- A value for each of the doors D1 to D6. -/
structure PerDoor (α : Type) where
  d1 : α
  d2 : α
  d3 : α
  d4 : α
  d5 : α
  d6 : α
  deriving DecidableEq, Repr

/-- The value held for `i`. -/
def PerDoor.get {α : Type} (t : PerDoor α) (i : Door) : α :=
  match i with
  | .d1 => t.d1
  | .d2 => t.d2
  | .d3 => t.d3
  | .d4 => t.d4
  | .d5 => t.d5
  | .d6 => t.d6

/-- The table with `v` for `i`, the rest kept. -/
def PerDoor.set {α : Type} (t : PerDoor α) (i : Door) (v : α) : PerDoor α :=
  match i with
  | .d1 => { t with d1 := v }
  | .d2 => { t with d2 := v }
  | .d3 => { t with d3 := v }
  | .d4 => { t with d4 := v }
  | .d5 => { t with d5 := v }
  | .d6 => { t with d6 := v }

/-- The table whose value for `i` is `f i`. -/
def PerDoor.ofFn {α : Type} (f : Door → α) : PerDoor α :=
  ⟨f .d1, f .d2, f .d3, f .d4, f .d5, f .d6⟩

/-- The values in order. -/
def PerDoor.toList {α : Type} (t : PerDoor α) : List α :=
  [t.d1, t.d2, t.d3, t.d4, t.d5, t.d6]

/-- Each value sent through `f`, which also sees whose it is. -/
def PerDoor.mapWith {α β : Type} (t : PerDoor α) (f : Door → α → β) : PerDoor β :=
  PerDoor.ofFn fun i => f i (t.get i)

/-- Each value sent through `f`. -/
def PerDoor.map {α β : Type} (t : PerDoor α) (f : α → β) : PerDoor β :=
  t.mapWith fun _ a => f a

/-- A value for each of the calibrated channels 0 to 10. -/
structure PerCal (α : Type) where
  cabPressure : α
  intakeFlow : α
  filterDrop : α
  outsideSmoke : α
  outsideCo : α
  frontCo : α
  rearCo : α
  frontTemp : α
  rearTemp : α
  coolantTemp : α
  supply : α
  deriving DecidableEq, Repr

/-- The value held for `i`. -/
def PerCal.get {α : Type} (t : PerCal α) (i : CalChannel) : α :=
  match i with
  | .cabPressure => t.cabPressure
  | .intakeFlow => t.intakeFlow
  | .filterDrop => t.filterDrop
  | .outsideSmoke => t.outsideSmoke
  | .outsideCo => t.outsideCo
  | .frontCo => t.frontCo
  | .rearCo => t.rearCo
  | .frontTemp => t.frontTemp
  | .rearTemp => t.rearTemp
  | .coolantTemp => t.coolantTemp
  | .supply => t.supply

/-- The table with `v` for `i`, the rest kept. -/
def PerCal.set {α : Type} (t : PerCal α) (i : CalChannel) (v : α) : PerCal α :=
  match i with
  | .cabPressure => { t with cabPressure := v }
  | .intakeFlow => { t with intakeFlow := v }
  | .filterDrop => { t with filterDrop := v }
  | .outsideSmoke => { t with outsideSmoke := v }
  | .outsideCo => { t with outsideCo := v }
  | .frontCo => { t with frontCo := v }
  | .rearCo => { t with rearCo := v }
  | .frontTemp => { t with frontTemp := v }
  | .rearTemp => { t with rearTemp := v }
  | .coolantTemp => { t with coolantTemp := v }
  | .supply => { t with supply := v }

/-- The table whose value for `i` is `f i`. -/
def PerCal.ofFn {α : Type} (f : CalChannel → α) : PerCal α :=
  ⟨f .cabPressure, f .intakeFlow, f .filterDrop, f .outsideSmoke, f .outsideCo, f .frontCo, f .rearCo, f .frontTemp, f .rearTemp, f .coolantTemp, f .supply⟩

/-- The values in order. -/
def PerCal.toList {α : Type} (t : PerCal α) : List α :=
  [t.cabPressure, t.intakeFlow, t.filterDrop, t.outsideSmoke, t.outsideCo, t.frontCo, t.rearCo, t.frontTemp, t.rearTemp, t.coolantTemp, t.supply]

/-- Each value sent through `f`, which also sees whose it is. -/
def PerCal.mapWith {α β : Type} (t : PerCal α) (f : CalChannel → α → β) : PerCal β :=
  PerCal.ofFn fun i => f i (t.get i)

/-- Each value sent through `f`. -/
def PerCal.map {α β : Type} (t : PerCal α) (f : α → β) : PerCal β :=
  t.mapWith fun _ a => f a

/-- A channel of the scan: a calibrated one, or one of the two converter checks (R104). -/
inductive Channel where
  | cal (c : CalChannel)
  | reference
  | ground
  deriving DecidableEq, Repr

/-- Every channel, 0 to 12 (R104). -/
def Channel.all : List Channel :=
  CalChannel.all.map .cal ++ [.reference, .ground]

/-- The number of a channel, 0 to 12 (R104). -/
def Channel.num : Channel → Nat
  | .cal c => c.num
  | .reference => 11
  | .ground => 12

/-- A value for each of the thirteen channels (R104). -/
structure PerChannel (α : Type) where
  cal : PerCal α
  reference : α
  ground : α
  deriving DecidableEq, Repr

/-- The value held for `c`. -/
def PerChannel.get {α : Type} (t : PerChannel α) (c : Channel) : α :=
  match c with
  | .cal k => t.cal.get k
  | .reference => t.reference
  | .ground => t.ground

/-- The table with `v` for `c`, the rest kept. -/
def PerChannel.set {α : Type} (t : PerChannel α) (c : Channel) (v : α) : PerChannel α :=
  match c with
  | .cal k => { t with cal := t.cal.set k v }
  | .reference => { t with reference := v }
  | .ground => { t with ground := v }

/-- The table whose value for `c` is `f c`. -/
def PerChannel.ofFn {α : Type} (f : Channel → α) : PerChannel α :=
  ⟨PerCal.ofFn fun k => f (.cal k), f .reference, f .ground⟩

/-- The values in channel order. -/
def PerChannel.toList {α : Type} (t : PerChannel α) : List α :=
  t.cal.toList ++ [t.reference, t.ground]

/-- Each value sent through `f`, which also sees whose it is. -/
def PerChannel.mapWith {α β : Type} (t : PerChannel α) (f : Channel → α → β) : PerChannel β :=
  PerChannel.ofFn fun c => f c (t.get c)

/-! ## Operands -/

/-- Which of the Plan Resolver and the Purge Controller takes an event that reaches both. The manual lets either
be first (R25, R89, R124), so the sender of the command says which (log entry 6). -/
inductive Turn where
  | resolverFirst
  | purgeFirst
  deriving DecidableEq, Repr

/-- The blocks whose work in one Frame Mark can meet; the manual lets any of two events be first (R62, R89, R145,
R158), so the sender of FRAME_MARK gives the order (log entry 5). -/
inductive MarkBlock where
  | supervision
  | purge
  | blowers
  | actuators
  deriving DecidableEq, Repr

/-- What the pins show at a reset: the feedback readings in ‰ of VREF (R160), and whether RESETN stays asserted (R134,
log entry 36). -/
structure ResetInput where
  feedback : PerActuator Nat
  held : Bool
  deriving DecidableEq, Repr

/-- What the Loop Port's own receiver heard of a Frame Mark (R171): whether the break was seen, the three bytes,
and whether all three had valid stop bits. -/
structure Readback where
  breakSeen : Bool
  high : Byte
  low : Byte
  check : Byte
  stopsValid : Bool
  deriving DecidableEq, Repr

/-- What the Loop Port received in an uplink window (R165): whether a start bit fell in the first 40 µs, the bytes
received by the end of the window, and whether all of them had valid stop bits. -/
structure Reception where
  started : Bool
  bytes : List Byte
  stopsValid : Bool
  deriving DecidableEq, Repr

/-- The two supervision windows (R7). -/
inductive WindowSetting where
  | quiet
  | lost
  deriving DecidableEq, Repr

/-- The settings the Air Plan uses (section 2.8). -/
inductive PlanSetting where
  | defaultSetpoint
  | autoShelter
  | shelterOnPump
  | shelterTarget
  | shelterBase
  | shelterFloor
  | freshTarget
  | freshBase
  | freshFloor
  deriving DecidableEq, Repr

/-- The two gains of the Hold Regulator (R63). -/
inductive Gain where
  | kp
  | ki
  deriving DecidableEq, Repr

/-- The settings of the Purge Controller (R91). -/
inductive PurgeSetting where
  | frontVolume
  | rearVolume
  | purgeChanges
  | autoPurge
  | fallbackFlush
  deriving DecidableEq, Repr

/-- A field of one position of the scan list (R110). -/
inductive ScanFieldKind where
  | channel
  | timeClass
  | divider
  deriving DecidableEq, Repr

/-- A scan list setting: the length, or one field of one of the twenty positions (R110); position `p` here is
position p + 1 of the manual. -/
inductive ScanField where
  | length
  | position (p : Fin 20) (f : ScanFieldKind)
  deriving DecidableEq, Repr

/-- Gain or offset of a channel's calibration (R113). -/
inductive CalibrationPart where
  | gain
  | offset
  deriving DecidableEq, Repr

/-- The thresholds of the Scene Evaluator (R133). -/
inductive Threshold where
  | smokeRaise
  | smokeClear
  | heavyRaise
  | heavyClear
  | outsideCoRaise
  | outsideCoClear
  | cabCoRaise
  | cabCoClear
  | filterLimit
  | supplyLow
  | supplyRecover
  deriving DecidableEq, Repr

/-- The current levels of blower protection (R146): one Short Level, an Overload Level for each blower. -/
inductive LevelSetting where
  | short
  | overload (b : Blower)
  deriving DecidableEq, Repr

/-- The times of blower protection (R146). -/
inductive TimeSetting where
  | short
  | overload
  deriving DecidableEq, Repr

/-- The two feedback ends of an actuator (R157). -/
inductive FeedbackEnd where
  | closed
  | opened
  deriving DecidableEq, Repr

/-- A setting of the table of section 12.4, as a Settings Write names it. -/
inductive Setting where
  | window (w : WindowSetting)
  | releaseRank
  | slotEnabled (n : Station)
  | slotClass (n : Station)
  | slotRank (n : Station)
  | slotScope (n : Station)
  | plan (p : PlanSetting)
  | gain (g : Gain)
  | doorLevel
  | purge (p : PurgeSetting)
  | doorMap (d : Door)
  | returnTime
  | scan (f : ScanField)
  | calibration (c : CalChannel) (k : CalibrationPart)
  | threshold (t : Threshold)
  | alertMask
  | level (l : LevelSetting)
  | time (t : TimeSetting)
  | feedbackEnd (a : ActuatorId) (e : FeedbackEnd)
  deriving DecidableEq, Repr

/-! ## The commands -/

/-- A command: one constructor for each row of spec/opcode_table.json. A request carries the station whose slot it
arrives in and the words of its cell as R166 lays them out (log entry 23). -/
inductive Instr where
  /-- RESET (R11, R160): power-on or RESETN, with what the pins show at that moment. -/
  | reset (input : ResetInput)
  /-- FRAME_MARK (R162): the next Frame Mark, with the feedback readings taken at it (R149). -/
  | frameMark (feedback : PerActuator Nat) (order : List MarkBlock) (turn : Turn)
  /-- STATION_QUIET (R5). -/
  | stationQuiet (n : Station)
  /-- STATION_LOST (R6). -/
  | stationLost (n : Station) (turn : Turn)
  /-- FRAME_MARK_END (R171). -/
  | frameMarkEnd (heard : Readback)
  /-- LOOP_FAULT_RAISE (R171). -/
  | loopFaultRaise
  /-- LOOP_FAULT_CLEAR (R171). -/
  | loopFaultClear
  /-- UPLINK_WINDOW_END (R165, R167). -/
  | uplinkWindowEnd (n : Station) (rx : Reception) (turn : Turn)
  /-- DOWNLINK_START (R170). -/
  | downlinkStart (n : Station)
  /-- DOWNLINK_END (R169). -/
  | downlinkEnd (n : Station)
  /-- IDLE, kind 00 hex (R4). -/
  | idle (n : Station)
  /-- UNKNOWN_KIND, with the kind code received (R2). -/
  | unknownKind (n : Station) (kind : Byte)
  /-- SET_SETPOINT, kind 01 hex (R15). -/
  | setSetpoint (n : Station) (zone value : Word)
  /-- SET_FAN, kind 02 hex (R16). -/
  | setFan (n : Station) (zone level : Word)
  /-- SET_MODE, kind 03 hex (R17). -/
  | setMode (n : Station) (mode : Word)
  /-- SET_SHELTER, kind 04 hex (R17). -/
  | setShelter (n : Station) (code : Word)
  /-- WITHDRAW, kind 05 hex (R19). -/
  | withdraw (n : Station) (kind zone : Word)
  /-- WITHDRAW_ALL, kind 06 hex (R19). -/
  | withdrawAll (n : Station)
  /-- SHELTER_RELEASE, kind 09 hex (R20). -/
  | shelterRelease (n : Station)
  /-- PURGE, kind 07 hex (R73). -/
  | purge (n : Station) (scope : Word)
  /-- PURGE_CANCEL, kind 08 hex (R81). -/
  | purgeCancel (n : Station)
  /-- CLEAR_LATCHES, kind 0A hex (R143, R155). -/
  | clearLatches (n : Station)
  /-- READOUT, kind 0B hex (R173). -/
  | readout (n : Station) (start count : Word)
  /-- JOIN_STREAM, kind 0C hex (R175). -/
  | joinStream (n : Station) (mask decimation : Word)
  /-- LEAVE_STREAM, kind 0D hex (R176). -/
  | leaveStream (n : Station)
  /-- VEHICLE_REPORT, kind 0E hex (R94). -/
  | vehicleReport (n : Station) (fields doors : Word) (turn : Turn)
  /-- STATION_RESTART, kind 11 hex (R8). -/
  | stationRestart (n : Station)
  /-- SETTINGS_STORE, kind 10 hex (R183). -/
  | settingsStore (n : Station)
  /-- STORE_COMPLETE (R183). -/
  | storeComplete
  /-- SETTINGS_WRITE, kind 0F hex (R182): any index; the row's own use is the Release Rank and an index that
  names no setting (log entry 24). -/
  | settingsWrite (n : Station) (index value : Word)
  /-- SUPERVISION_WINDOW_WRITE (R7). -/
  | supervisionWindowWrite (n : Station) (w : WindowSetting) (value : Word)
  /-- SLOT_ENABLE_WRITE (R9). -/
  | slotEnableWrite (n slot : Station) (value : Word)
  /-- SLOT_CLASS_WRITE (R10). -/
  | slotClassWrite (n slot : Station) (value : Word)
  /-- SLOT_RANK_WRITE (R10). -/
  | slotRankWrite (n slot : Station) (value : Word)
  /-- SLOT_SCOPE_WRITE (R10). -/
  | slotScopeWrite (n slot : Station) (value : Word)
  /-- PLAN_SETTING_WRITE (R48). -/
  | planSettingWrite (n : Station) (p : PlanSetting) (value : Word)
  /-- REGULATOR_GAIN_WRITE (R63). -/
  | regulatorGainWrite (n : Station) (g : Gain) (value : Word)
  /-- DOOR_LEVEL_WRITE (R63). -/
  | doorLevelWrite (n : Station) (value : Word)
  /-- PURGE_SETTING_WRITE (R91). -/
  | purgeSettingWrite (n : Station) (p : PurgeSetting) (value : Word)
  /-- DOOR_MAP_WRITE (R95). -/
  | doorMapWrite (n : Station) (d : Door) (value : Word)
  /-- RETURN_TIME_WRITE (R103). -/
  | returnTimeWrite (n : Station) (value : Word)
  /-- SCAN_LIST_WRITE (R110). -/
  | scanListWrite (n : Station) (f : ScanField) (value : Word)
  /-- CALIBRATION_WRITE (R114). -/
  | calibrationWrite (n : Station) (c : CalChannel) (k : CalibrationPart) (value : Word)
  /-- THRESHOLD_WRITE (R133). -/
  | thresholdWrite (n : Station) (t : Threshold) (value : Word)
  /-- ALERT_MASK_WRITE (R134). -/
  | alertMaskWrite (n : Station) (value : Word)
  /-- PROTECTION_LEVEL_WRITE (R146). -/
  | protectionLevelWrite (n : Station) (l : LevelSetting) (value : Word)
  /-- PROTECTION_TIME_WRITE (R146). -/
  | protectionTimeWrite (n : Station) (t : TimeSetting) (value : Word)
  /-- FEEDBACK_END_WRITE (R157). -/
  | feedbackEndWrite (n : Station) (a : ActuatorId) (e : FeedbackEnd) (value : Word)
  /-- CONVERSION_END, with the 14-bit raw code of the conversion in progress (R109, R117). -/
  | conversionEnd (raw : BitVec 14) (turn : Turn)
  /-- EMPTY_PASS_END (R108). -/
  | emptyPassEnd (turn : Turn)
  /-- TREND_CAPTURE (R177). -/
  | trendCapture
  /-- PURGE_ARMED_LIMIT (R80). -/
  | purgeArmedLimit
  /-- PURGE_DEFERRED_LIMIT (R80). -/
  | purgeDeferredLimit
  /-- PURGE_FLUSHING_LIMIT (R80). -/
  | purgeFlushingLimit
  /-- FALLBACK_FLUSH_EXPIRY (R88). -/
  | fallbackFlushExpiry
  /-- BLOWER_CURRENT_CHANGE (R138, R139), with the current in 0.1 A. -/
  | blowerCurrentChange (b : Blower) (current : Nat)
  /-- SHORT_TRIP (R138). -/
  | shortTrip (b : Blower)
  /-- OVERLOAD_TRIP (R139). -/
  | overloadTrip (b : Blower)
  /-- COOLDOWN_END (R141). -/
  | cooldownEnd (b : Blower)
  /-- TRIP_WINDOW_EXPIRY (R142). -/
  | tripWindowExpiry (b : Blower)
  /-- ACTUATOR_STALL (R152). -/
  | actuatorStall (a : ActuatorId)
  /-- REVERSAL_END (R153). -/
  | reversalEnd (a : ActuatorId)
  /-- STALL_WAIT_END (R154). -/
  | stallWaitEnd (a : ActuatorId)
  /-- POWER_LOSS (R183). -/
  | powerLoss
  deriving DecidableEq, Repr

end Sys2Proof
end

