-- ==== Sys2Proof/Decode.lean ====
section
/-! DEFINITION. The command a table word spells. No row of spec/opcode_table.json gives bits, so no word spells a
command; the decoding of a cell's bytes into a request (R164 to R166) stands in Machine/Cells.lean. -/

namespace Sys2Proof

/-- The command that the word `w` of `nbits` bits spells by the bits of spec/opcode_table.json: none, since none
of its rows gives bits. -/
def decodeTableWord (_nbits _w : Nat) : Option Instr :=
  none

end Sys2Proof
end

