-- ==== Sys2Proof/Config.lean ====
section
/-! DEFINITION. The settings of the UA-460: the record of every setting of the table of section 12.4, with the
factory defaults, as a part holds them in its working copy. The manual leaves no value open that an opaque constant
would stand for: orders it leaves open are operands of the commands (log entries 5 and 6). -/

namespace Sys2Proof

/-- The class of a station (R1). -/
inductive StationClass where
  | frontPanel
  | crewPanel
  | pumpPanel
  | auxiliaryPanel
  | vehicle
  | service
  deriving DecidableEq, Repr

/-- The zones a station may address (R1). -/
inductive Scope where
  | front
  | rear
  | both
  deriving DecidableEq, Repr

/-- The slot settings of a station (R1). -/
structure SlotSettings where
  enabled : Bool
  cls : StationClass
  rank : Nat
  scope : Scope
  deriving DecidableEq, Repr

/-- The zone the door map gives a door (R95). -/
inductive DoorZone where
  | front
  | rear
  | unused
  deriving DecidableEq, Repr

/-- An entry of a scan list (R106): the channel, the time class in ms, the divider. -/
structure ScanEntry where
  channel : Channel
  timeClass : Nat
  divider : Nat
  deriving DecidableEq, Repr

/-- The thresholds of the Scene Evaluator (R133). -/
structure Thresholds where
  smokeRaise : Nat
  smokeClear : Nat
  heavyRaise : Nat
  heavyClear : Nat
  outsideCoRaise : Nat
  outsideCoClear : Nat
  cabCoRaise : Nat
  cabCoClear : Nat
  filterLimit : Nat
  supplyLow : Nat
  supplyRecover : Nat
  deriving DecidableEq, Repr

/-- The settings a part holds (section 12.4), in the units of the table. The scan list positions are the twenty of
R110; the first `scanLength` of them form the staged list. -/
structure Settings where
  quietWindow : Nat
  lostWindow : Nat
  releaseRank : Nat
  slots : PerStation SlotSettings
  defaultSetpoint : Int
  autoShelter : Bool
  shelterOnPump : Bool
  shelterTarget : Nat
  shelterBase : Nat
  shelterFloor : Nat
  freshTarget : Nat
  freshBase : Nat
  freshFloor : Nat
  kp : Nat
  ki : Nat
  doorLevel : Nat
  frontVolume : Nat
  rearVolume : Nat
  purgeChanges : Nat
  autoPurge : Bool
  fallbackFlush : Nat
  doorMap : PerDoor DoorZone
  returnTime : Nat
  scanLength : Nat
  scanPositions : List ScanEntry
  gain : PerCal Int
  offset : PerCal Int
  thresholds : Thresholds
  alertMask : Word
  shortLevel : Nat
  shortTime : Nat
  overloadLevel : PerBlower Nat
  overloadTime : Nat
  closedEnd : PerActuator Nat
  openEnd : PerActuator Nat
  deriving DecidableEq, Repr

namespace Config

/-- The factory slot settings (R1). -/
def factorySlots : PerStation SlotSettings where
  s1 := ⟨true, .frontPanel, 5, .both⟩
  s2 := ⟨true, .crewPanel, 3, .rear⟩
  s3 := ⟨true, .pumpPanel, 6, .both⟩
  s4 := ⟨true, .vehicle, 7, .both⟩
  s5 := ⟨true, .service, 4, .both⟩
  s6 := ⟨false, .frontPanel, 0, .both⟩
  s7 := ⟨false, .frontPanel, 0, .both⟩
  s8 := ⟨false, .frontPanel, 0, .both⟩

/-- The fourteen places of the factory scan list (R107). -/
def factoryScanList : List ScanEntry :=
  [⟨.cal .cabPressure, 3, 1⟩, ⟨.cal .intakeFlow, 3, 1⟩, ⟨.cal .outsideSmoke, 5, 2⟩, ⟨.cal .outsideCo, 5, 2⟩,
   ⟨.cal .cabPressure, 3, 1⟩, ⟨.cal .frontCo, 5, 2⟩, ⟨.cal .rearCo, 5, 2⟩, ⟨.cal .filterDrop, 3, 4⟩,
   ⟨.cal .frontTemp, 10, 4⟩, ⟨.cal .rearTemp, 10, 4⟩, ⟨.cal .coolantTemp, 10, 4⟩, ⟨.cal .supply, 2, 2⟩,
   ⟨.reference, 2, 8⟩, ⟨.ground, 2, 8⟩]

/-- A scan list position beyond the factory list (section 12.4). -/
def spareScanEntry : ScanEntry := ⟨.cal .cabPressure, 2, 1⟩

/-- The factory gains (R114). -/
def factoryGain : PerCal Int :=
  ⟨10000, 2000, 5000, 1000, 1000, 1000, 1000, 1650, 1650, 1650, 400⟩

/-- The factory offsets (R114). -/
def factoryOffset : PerCal Int :=
  ⟨-5000, 0, 0, 0, 0, 0, 0, -400, -400, -400, 0⟩

/-- The factory thresholds (R133). -/
def factoryThresholds : Thresholds :=
  ⟨300, 150, 700, 550, 50, 35, 35, 25, 2500, 110, 120⟩

/-- The factory defaults of every setting (section 12.4). -/
def factory : Settings where
  quietWindow := 25
  lostWindow := 200
  releaseRank := 6
  slots := factorySlots
  defaultSetpoint := 210
  autoShelter := true
  shelterOnPump := false
  shelterTarget := 400
  shelterBase := 300
  shelterFloor := 200
  freshTarget := 100
  freshBase := 150
  freshFloor := 0
  kp := 40
  ki := 6
  doorLevel := 600
  frontVolume := 2400
  rearVolume := 3600
  purgeChanges := 3
  autoPurge := true
  fallbackFlush := 240
  doorMap := ⟨.front, .front, .rear, .rear, .unused, .unused⟩
  returnTime := 10
  scanLength := 14
  scanPositions := factoryScanList ++ List.replicate 6 spareScanEntry
  gain := factoryGain
  offset := factoryOffset
  thresholds := factoryThresholds
  alertMask := 0x119A#16
  shortLevel := 300
  shortTime := 5
  overloadLevel := ⟨150, 120, 120⟩
  overloadTime := 30
  closedEnd := ⟨100, 100, 100, 100, 100⟩
  openEnd := ⟨900, 900, 900, 900, 900⟩

end Config
end Sys2Proof
end

