-- ==== Sys2Proof/Machine/State.lean ====
section
/-! DEFINITION. The state of the UA-460 as plain data: a record for each block of section Block overview, the queue
of waiting commands, and `State.reset`, the part right after reset as it leaves the factory. One setter per part of
the state, so that an update names what it changes. -/

namespace Sys2Proof.Machine

/-- Why the part stops. Nothing in the manual stops it, so there is no fault and nothing raises one. -/
inductive Fault where
  deriving DecidableEq, Repr

/-- Why a command has no meaning here. -/
inductive Refusal where
  /-- Raised by an arm of `exec` for a row that has no meaning yet; safe, since nothing is then claimed of it. -/
  | notModelled (mnemonic : String)
  deriving DecidableEq, Repr

/-! ## Stations and the Request Table -/

/-- The state Station Supervision keeps for a station (R1). -/
inductive StationMode where
  | disabled
  | absent
  | live
  | quiet
  | lost
  deriving DecidableEq, Repr

/-- The supervision part of a station record (R1, R3). -/
structure StationState where
  mode : StationMode
  silence : Nat
  deriving DecidableEq, Repr

/-- A zone of the cab. -/
inductive Zone where
  | front
  | rear
  deriving DecidableEq, Repr

/-- A fan choice (R12). -/
inductive FanChoice where
  | auto
  | level (n : Nat)
  deriving DecidableEq, Repr

/-- A requested cab mode (R12). -/
inductive RequestedMode where
  | auto
  | fresh
  | recirc
  | defog
  | off
  deriving DecidableEq, Repr

/-- The kind and zone of a demand, the part of an entry's key beside its station (R12). -/
inductive Key where
  | setpoint (z : Zone)
  | fan (z : Zone)
  | mode
  | shelter
  deriving DecidableEq, Repr

/-- A standing demand: kind, zone and value together (R12). -/
inductive Demand where
  | setpoint (z : Zone) (tenths : Int)
  | fan (z : Zone) (c : FanChoice)
  | mode (m : RequestedMode)
  | shelter
  deriving DecidableEq, Repr

/-- An entry of the Request Table (R12). -/
structure Entry where
  station : Station
  demand : Demand
  held : Bool
  deriving DecidableEq, Repr

/-! ## The Air Plan -/

/-- The shelter state (R31). -/
inductive Shelter where
  | inactive
  | pressurize
  | sealed
  deriving DecidableEq, Repr

/-- The phase of the Purge Controller (R70). -/
inductive PurgePhase where
  | idle
  | armed
  | flushing
  | deferred
  deriving DecidableEq, Repr

/-- The scope of a purge (R71). -/
inductive PurgeScope where
  | rear
  | whole
  deriving DecidableEq, Repr

/-- The cab mode effective (R35). -/
inductive CabMode where
  | off
  | recirc
  | fresh
  | defog
  deriving DecidableEq, Repr

/-- The intake mode with the values that go with it (R22, R34). -/
inductive Intake where
  | off
  | fixed (level : Nat)
  | regulated (target base floor : Nat)
  deriving DecidableEq, Repr

/-- Every field of the Air Plan but its version (R22). A source is a station, or none for Default. -/
structure PlanBody where
  shelter : Shelter
  sourceRequest : Bool
  sourceAuto : Bool
  sourcePump : Bool
  phase : PurgePhase
  scope : Option PurgeScope
  cabMode : CabMode
  modeSource : Option Station
  frontSetpoint : Int
  rearSetpoint : Int
  frontSetpointSource : Option Station
  rearSetpointSource : Option Station
  frontFan : FanChoice
  rearFan : FanChoice
  frontFanSource : Option Station
  rearFanSource : Option Station
  frontBlower : Nat
  rearBlower : Nat
  intake : Intake
  cap : Nat
  shutter : Nat
  relief : Nat
  heaterValve : Nat
  frontMix : Nat
  rearMix : Nat
  shed : Bool
  heaterUnavailable : Bool
  coFlush : Bool
  ignitionOff : Bool
  deriving DecidableEq, Repr

/-- The Air Plan (R22). -/
structure Plan where
  version : Word
  body : PlanBody
  deriving DecidableEq, Repr

/-- The Plan Resolver's two latches (R30, R45). -/
structure Resolver where
  autoLatch : Bool
  heater : Bool
  deriving DecidableEq, Repr

/-! ## Hold Regulator and Purge Controller -/

/-- The mode of the Hold Regulator (R50). -/
inductive HoldMode where
  | off
  | regulating
  | doorHold
  | frozen
  deriving DecidableEq, Repr

/-- The Hold Regulator (R50); a timer holds the frames since it started, none when idle (log entry 20). -/
structure Regulator where
  mode : HoldMode
  integral : Int
  windup : Bool
  lastError : Int
  output : Nat
  target : Option Nat
  base : Option Nat
  floor : Option Nat
  cap : Nat
  raiseTimer : Option Nat
  clearTimer : Option Nat
  deriving DecidableEq, Repr

/-- Who started a purge (R70). -/
inductive Originator where
  | station (n : Station)
  | auto
  deriving DecidableEq, Repr

/-- How a purge ended (R83). -/
inductive PurgeResult where
  | none
  | done
  | doneTimed
  | cancelled
  | abortedDoors
  | abortedSmoke
  | abortedTime
  deriving DecidableEq, Repr

/-- The last-result record (R83). -/
structure LastResult where
  result : PurgeResult
  scope : Option PurgeScope
  originator : Option Originator
  litres : Nat
  flushingSeconds : Nat
  deferredSeconds : Nat
  shelter : Shelter
  deriving DecidableEq, Repr

/-- The Purge Controller (R70). -/
structure Purge where
  phase : PurgePhase
  scope : Option PurgeScope
  originator : Option Originator
  target : Option Nat
  litres : Nat
  remainder : Nat
  flushing : Nat
  deferred : Nat
  armed : Nat
  last : LastResult
  deriving DecidableEq, Repr

/-! ## Vehicle State -/

/-- The Vehicle Record (R93); a door field is true when the door is open. -/
structure VehicleRecord where
  ignition : Bool
  engine : Bool
  pump : Bool
  brake : Bool
  doors : PerDoor Bool
  verified : Bool
  deriving DecidableEq, Repr

/-- The record with the open timers, none when idle, and the Crew Return count (R93). -/
structure Vehicle where
  record : VehicleRecord
  timers : PerDoor (Option Nat)
  crewReturns : BitVec 8
  deriving DecidableEq, Repr

/-! ## Scan Sequencer -/

/-- The part's clock: the millisecond count (R105) and the tenths of a millisecond past it, the model's own field
(log entry 1). -/
structure Clock where
  ms : BitVec 32
  tenths : Nat
  deriving DecidableEq, Repr

/-- Where the scan stands: the entry being converted, the places still to walk and the millisecond count of the
conversion's start (R108, R109); an empty pass and its start (R108); or the stop (R112). -/
inductive Walk where
  | converting (entry : ScanEntry) (rest : List ScanEntry) (since : BitVec 32)
  | empty (since : BitVec 32)
  | stopped
  deriving DecidableEq, Repr

/-- The Scan Sequencer beside the Cab Air Record (R106, R108, R115). -/
structure Scan where
  pass : BitVec 8
  working : List ScanEntry
  walk : Walk
  checkSeen : Bool
  checkBad : Bool
  deriving DecidableEq, Repr

/-- The status of a channel (R104). -/
inductive ChannelStatus where
  | unsampled
  | fresh
  | held
  | failed
  deriving DecidableEq, Repr

/-- An entry of the Cab Air Record (R104). -/
structure ChannelRecord where
  status : ChannelStatus
  value : Option Int
  sampleTime : Option (BitVec 32)
  bad : Nat
  deriving DecidableEq, Repr

/-! ## Conditions -/

/-- The sixteen conditions, in their order by number (R123). -/
inductive Condition where
  | smokeOutside
  | heavySmoke
  | outsideCoHigh
  | cabCoHigh
  | coUnderSeal
  | filterLoaded
  | supplyLow
  | holdShortfall
  | purgeIncomplete
  | vehicleUnverified
  | sensorFailed
  | converterDrift
  | motorFault
  | actuatorStuck
  | loopFault
  | settingsDefaulted
  deriving DecidableEq, Repr

/-- The condition set (R123); true is Raised. -/
structure Conditions where
  smokeOutside : Bool
  heavySmoke : Bool
  outsideCoHigh : Bool
  cabCoHigh : Bool
  coUnderSeal : Bool
  filterLoaded : Bool
  supplyLow : Bool
  holdShortfall : Bool
  purgeIncomplete : Bool
  vehicleUnverified : Bool
  sensorFailed : Bool
  converterDrift : Bool
  motorFault : Bool
  actuatorStuck : Bool
  loopFault : Bool
  settingsDefaulted : Bool
  deriving DecidableEq, Repr

/-- The raise and clear timers of a sample-driven condition (R125), in frames, none when idle. -/
structure TimerPair where
  raise : Option Nat
  clear : Option Nat
  deriving DecidableEq, Repr

/-- The timers of the Scene Evaluator (R125, R129). -/
structure SceneTimers where
  smoke : TimerPair
  heavy : TimerPair
  outsideCo : TimerPair
  frontCo : TimerPair
  rearCo : TimerPair
  filter : TimerPair
  supply : TimerPair
  deriving DecidableEq, Repr

/-! ## Blowers and actuators -/

/-- The protection state of a blower (R135). -/
inductive Protection where
  | running
  | tripped
  | latched
  deriving DecidableEq, Repr

/-- The kind of a trip (R135). -/
inductive TripKind where
  | none
  | short
  | overload
  deriving DecidableEq, Repr

/-- A blower (R135): the short timer in 0.1 ms, the others in frames, none when idle; and the present motor current
on its sense pin, in 0.1 A (R138). -/
structure BlowerState where
  target : Nat
  output : Nat
  protection : Protection
  shortTimer : Option Nat
  overloadTimer : Option Nat
  cooldown : Option Nat
  trips : Nat
  window : Option Nat
  lastTrip : TripKind
  current : Nat
  deriving DecidableEq, Repr

/-- The motion state of an actuator (R148). -/
inductive Motion where
  | still
  | moving
  | reversing
  | stalled
  | stuck
  deriving DecidableEq, Repr

/-- The drive of an actuator (R148). -/
inductive Drive where
  | off
  | opening
  | closing
  deriving DecidableEq, Repr

/-- The last fault kind of an actuator (R148). -/
inductive FaultKind where
  | none
  | stall
  | feedback
  deriving DecidableEq, Repr

/-- An actuator (R148), with the mark of R160 that it waits for its first Frame Mark and the last reading taken on
its feedback pin. -/
structure ActuatorState where
  target : Nat
  position : Nat
  motion : Motion
  drive : Drive
  stallRef : Nat
  stallTimer : Nat
  reversal : Option Nat
  stallWait : Option Nat
  retryUsed : Bool
  lastFault : FaultKind
  waiting : Bool
  feedback : Nat
  deriving DecidableEq, Repr

/-! ## Loop Port -/

/-- An answer code (R168). -/
inductive AnswerCode where
  | done
  | clamped
  | busy
  | full
  | scope
  | cls
  | denied
  | range
  | blocked
  | unknown
  | garbled
  deriving DecidableEq, Repr

/-- An answer: its code and words 1 to 3 (R168). -/
structure Answer where
  code : AnswerCode
  w1 : Word
  w2 : Word
  w3 : Word
  deriving DecidableEq, Repr

/-- A cell of the loop before its check byte: station, kind and words (R164). -/
structure Cell where
  station : Station
  kind : Byte
  w0 : Word
  w1 : Word
  w2 : Word
  w3 : Word
  deriving DecidableEq, Repr

/-- What a slot's uplink window has held in the present frame (R165); a taken cell keeps its kind and, but for
Idle, the answer to it. -/
inductive Window where
  | nothing
  | silent
  | garbled
  | taken (kind : Byte) (answer : Option Answer)
  deriving DecidableEq, Repr

/-- The downlink chosen for a slot (R167). -/
inductive Downlink where
  | none
  | answer (kind : Byte) (a : Answer)
  | data
  | status
  deriving DecidableEq, Repr

/-- The kind of a run of Data cells (R169). -/
inductive RunKind where
  | readout
  | stream
  deriving DecidableEq, Repr

/-- A downlink on the line: its cell and, for a Data cell, the run it advances when it ends; a run discarded
meanwhile is advanced no more (R169, R174). -/
structure OnAir where
  cell : Cell
  run : Option RunKind
  deriving DecidableEq, Repr

/-- The line state of a slot in the present frame: its window, whether the slot was disabled in this frame (R163),
the downlink chosen and the downlink on the line. -/
structure Line where
  window : Window
  cut : Bool
  choice : Downlink
  onAir : Option OnAir
  deriving DecidableEq, Repr

/-- The Loop Port (R162, R171); `markSent` tells whether the first Frame Mark since reset has been sent (log
entry 9). -/
structure Loop where
  frame : Word
  markSent : Bool
  slotPlan : List Station
  lines : PerStation Line
  mismatchRun : Nat
  goodRun : Nat
  deriving DecidableEq, Repr

/-! ## Readout Unit -/

/-- A readout in flight: its words and how many of its cells are sent (R174). -/
structure ReadoutBuffer where
  words : List Word
  sent : Nat
  deriving DecidableEq, Repr

/-- The six change marks of a station (R179). -/
structure Marks where
  plan : Bool
  conditions : Bool
  purge : Bool
  vehicle : Bool
  movers : Bool
  settings : Bool
  deriving DecidableEq, Repr

/-- A change-mark group (R179). -/
inductive Group where
  | plan
  | conditions
  | purge
  | vehicle
  | movers
  | settings
  deriving DecidableEq, Repr

/-- Who holds the trend stream, and how (R175). -/
structure Hold where
  station : Station
  mask : Word
  decimation : Nat
  deriving DecidableEq, Repr

/-- A trend record (R177): an entry is the Held flag and the value, or none where the channel shows no value. -/
structure TrendRecord where
  pass : BitVec 8
  frame : Word
  overrun : Bool
  entries : List (Option (Bool × Int))
  deriving DecidableEq, Repr

/-- The trend stream and its queue, the oldest record first; `begun` and `sent` follow the run of the oldest record
(R175, R177, R178). -/
structure Trend where
  hold : Option Hold
  passCounter : Nat
  queue : List TrendRecord
  begun : Bool
  sent : Nat
  deriving DecidableEq, Repr

/-! ## Settings Store -/

/-- The stored copy (R180): a whole one with its check word, held as the settings its place words spell, or a torn
one, whose check fails (R183, log entry 13). -/
inductive StoredCopy where
  | whole (image : Settings) (check : Word)
  | torn
  deriving DecidableEq, Repr

/-- A store in progress: the snapshot, and the millisecond count of its acceptance (R183). -/
structure Writing where
  snapshot : Settings
  since : BitVec 32
  deriving DecidableEq, Repr

/-- The Settings Store beside the working copy (R180, R183). -/
structure Store where
  stored : StoredCopy
  shownCheck : Word
  writing : Option Writing
  deriving DecidableEq, Repr

/-! ## The whole state -/

/-- The state of the part, with the queue of commands that wait. -/
structure State where
  /-- the commands that wait, first in first out. -/
  pending : List Instr
  /-- the working copy (R180). -/
  settings : Settings
  /-- the stored copy and the store in progress (R180, R183). -/
  store : Store
  /-- the Loop Port (R162, R171). -/
  loop : Loop
  /-- Station Supervision (R1). -/
  stations : PerStation StationState
  /-- the Request Table, oldest first (R12). -/
  table : List Entry
  /-- the Air Plan (R22). -/
  plan : Plan
  /-- the Shelter auto latch and the heater availability (R30, R45). -/
  resolver : Resolver
  /-- the Hold Regulator (R50). -/
  reg : Regulator
  /-- the Purge Controller (R70). -/
  purge : Purge
  /-- Vehicle State (R93). -/
  vehicle : Vehicle
  /-- the millisecond count (R105). -/
  clock : Clock
  /-- the Scan Sequencer (R106 to R115). -/
  scan : Scan
  /-- the Cab Air Record (R104). -/
  record : PerChannel ChannelRecord
  /-- the timers of the Scene Evaluator (R125). -/
  scene : SceneTimers
  /-- the condition set (R123). -/
  conditions : Conditions
  /-- whether the ALERT pin is driven (R134). -/
  alert : Bool
  /-- the Blower Drives (R135). -/
  blowers : PerBlower BlowerState
  /-- the Actuator Drives (R148). -/
  actuators : PerActuator ActuatorState
  /-- the readout buffers (R174). -/
  buffers : PerStation (Option ReadoutBuffer)
  /-- the change marks (R179). -/
  marks : PerStation Marks
  /-- the Detached indications (R175). -/
  detached : PerStation Bool
  /-- the trend stream and the Trend Queue (R175 to R178). -/
  trend : Trend
  /-- whether the RESETN pin is asserted and holds the part in reset (R134, R135, R160). -/
  resetHeld : Bool
  deriving DecidableEq, Repr

/-- `s` with `v` for its field `pending`. -/
def State.setPending (s : State) (v : List Instr) : State := { s with pending := v }

/-- `s` with `v` for its field `settings`. -/
def State.setSettings (s : State) (v : Settings) : State := { s with settings := v }

/-- `s` with `v` for its field `store`. -/
def State.setStore (s : State) (v : Store) : State := { s with store := v }

/-- `s` with `v` for its field `loop`. -/
def State.setLoop (s : State) (v : Loop) : State := { s with loop := v }

/-- `s` with `v` for its field `stations`. -/
def State.setStations (s : State) (v : PerStation StationState) : State := { s with stations := v }

/-- `s` with `v` for its field `table`. -/
def State.setTable (s : State) (v : List Entry) : State := { s with table := v }

/-- `s` with `v` for its field `plan`. -/
def State.setPlan (s : State) (v : Plan) : State := { s with plan := v }

/-- `s` with `v` for its field `resolver`. -/
def State.setResolver (s : State) (v : Resolver) : State := { s with resolver := v }

/-- `s` with `v` for its field `reg`. -/
def State.setReg (s : State) (v : Regulator) : State := { s with reg := v }

/-- `s` with `v` for its field `purge`. -/
def State.setPurge (s : State) (v : Purge) : State := { s with purge := v }

/-- `s` with `v` for its field `vehicle`. -/
def State.setVehicle (s : State) (v : Vehicle) : State := { s with vehicle := v }

/-- `s` with `v` for its field `clock`. -/
def State.setClock (s : State) (v : Clock) : State := { s with clock := v }

/-- `s` with `v` for its field `scan`. -/
def State.setScan (s : State) (v : Scan) : State := { s with scan := v }

/-- `s` with `v` for its field `record`. -/
def State.setRecord (s : State) (v : PerChannel ChannelRecord) : State := { s with record := v }

/-- `s` with `v` for its field `scene`. -/
def State.setScene (s : State) (v : SceneTimers) : State := { s with scene := v }

/-- `s` with `v` for its field `conditions`. -/
def State.setConditions (s : State) (v : Conditions) : State := { s with conditions := v }

/-- `s` with `v` for its field `alert`. -/
def State.setAlert (s : State) (v : Bool) : State := { s with alert := v }

/-- `s` with `v` for its field `blowers`. -/
def State.setBlowers (s : State) (v : PerBlower BlowerState) : State := { s with blowers := v }

/-- `s` with `v` for its field `actuators`. -/
def State.setActuators (s : State) (v : PerActuator ActuatorState) : State := { s with actuators := v }

/-- `s` with `v` for its field `buffers`. -/
def State.setBuffers (s : State) (v : PerStation (Option ReadoutBuffer)) : State := { s with buffers := v }

/-- `s` with `v` for its field `marks`. -/
def State.setMarks (s : State) (v : PerStation Marks) : State := { s with marks := v }

/-- `s` with `v` for its field `detached`. -/
def State.setDetached (s : State) (v : PerStation Bool) : State := { s with detached := v }

/-- `s` with `v` for its field `trend`. -/
def State.setTrend (s : State) (v : Trend) : State := { s with trend := v }

/-- `s` with `v` for its field `resetHeld`. -/
def State.setResetHeld (s : State) (v : Bool) : State := { s with resetHeld := v }

/-! ## Reset -/

/-- A line on which nothing has passed. -/
def Line.blank : Line := ⟨.nothing, false, .none, none⟩

/-- The marks of R179, all set. -/
def Marks.all : Marks := ⟨true, true, true, true, true, true⟩

/-- An idle pair of timers (R125). -/
def TimerPair.idle : TimerPair := ⟨none, none⟩

/-- A channel not sampled (R104). -/
def ChannelRecord.blank : ChannelRecord := ⟨.unsampled, none, none, 0⟩

/-- The last-result record at reset (R83). -/
def LastResult.none : LastResult := ⟨.none, Option.none, Option.none, 0, 0, 0, .inactive⟩

/-- The Purge Controller with no purge under way and `l` as its last result (R70, R82). -/
def Purge.idleWith (l : LastResult) : Purge := ⟨.idle, none, none, none, 0, 0, 0, 0, 0, l⟩

/-- The first Air Plan, under the factory settings (R49). -/
def PlanBody.first : PlanBody where
  shelter := .inactive
  sourceRequest := false
  sourceAuto := false
  sourcePump := false
  phase := .idle
  scope := none
  cabMode := .off
  modeSource := none
  frontSetpoint := 210
  rearSetpoint := 210
  frontSetpointSource := none
  rearSetpointSource := none
  frontFan := .auto
  rearFan := .auto
  frontFanSource := none
  rearFanSource := none
  frontBlower := 0
  rearBlower := 0
  intake := .off
  cap := 500
  shutter := 0
  relief := 0
  heaterValve := 0
  frontMix := 50
  rearMix := 50
  shed := true
  heaterUnavailable := true
  coFlush := false
  ignitionOff := true

/-- The Hold Regulator at reset (R50). -/
def Regulator.reset : Regulator := ⟨.off, 0, false, 0, 0, none, none, none, 500, none, none⟩

/-- The Vehicle State at reset (R93). -/
def Vehicle.reset : Vehicle where
  record := ⟨false, false, false, false, PerDoor.ofFn fun _ => false, false⟩
  timers := PerDoor.ofFn fun _ => none
  crewReturns := 0#8

/-- The conditions at reset of a part whose stored settings pass their check (R123): Vehicle Unverified alone. -/
def Conditions.reset : Conditions :=
  ⟨false, false, false, false, false, false, false, false, false, true, false, false, false, false, false, false⟩

/-- A blower at reset, its motor current as the sense pin gives it (R135). -/
def BlowerState.reset (current : Nat) : BlowerState :=
  ⟨0, 0, .running, none, none, none, 0, none, .none, current⟩

/-- An actuator at reset with feedback reading 100 ‰, the factory Closed End (log entry 10), Still at its first
target (R160). -/
def ActuatorState.resetStill (target : Nat) : ActuatorState :=
  ⟨target, 0, .still, .off, 0, 0, none, none, false, .none, false, 100⟩

/-- The same with a first target that its position does not meet, so that a move toward open begins (R160). -/
def ActuatorState.resetMoving (target : Nat) : ActuatorState :=
  ⟨target, 0, .moving, .opening, 0, 0, none, none, false, .none, false, 100⟩

/-- The check word of the factory settings, by R180. -/
def factoryCheck : Word := 0x0D38#16

/-- The state right after reset of a part as it leaves the factory, with every motor current 0 and every feedback
reading 100 ‰ (log entries 10 and 11), and an empty queue. -/
def State.reset : State where
  pending := []
  settings := Config.factory
  store := ⟨.whole Config.factory factoryCheck, factoryCheck, none⟩
  loop := ⟨0#16, false, [.s1, .s2, .s3, .s4, .s5], PerStation.ofFn fun _ => Line.blank, 0, 0⟩
  stations := ⟨⟨.absent, 0⟩, ⟨.absent, 0⟩, ⟨.absent, 0⟩, ⟨.absent, 0⟩, ⟨.absent, 0⟩, ⟨.disabled, 0⟩,
    ⟨.disabled, 0⟩, ⟨.disabled, 0⟩⟩
  table := []
  plan := ⟨0#16, PlanBody.first⟩
  resolver := ⟨false, false⟩
  reg := Regulator.reset
  purge := Purge.idleWith LastResult.none
  vehicle := Vehicle.reset
  clock := ⟨0#32, 0⟩
  scan := ⟨0#8, Config.factoryScanList,
    .converting ⟨.cal .cabPressure, 3, 1⟩ (Config.factoryScanList.drop 1) 0#32, false, false⟩
  record := PerChannel.ofFn fun _ => ChannelRecord.blank
  scene := ⟨TimerPair.idle, TimerPair.idle, TimerPair.idle, TimerPair.idle, TimerPair.idle, TimerPair.idle,
    TimerPair.idle⟩
  conditions := Conditions.reset
  alert := false
  blowers := ⟨BlowerState.reset 0, BlowerState.reset 0, BlowerState.reset 0⟩
  actuators := ⟨ActuatorState.resetStill 0, ActuatorState.resetStill 0, ActuatorState.resetStill 0,
    ActuatorState.resetMoving 50, ActuatorState.resetMoving 50⟩
  buffers := PerStation.ofFn fun _ => none
  marks := PerStation.ofFn fun _ => Marks.all
  detached := PerStation.ofFn fun _ => false
  trend := ⟨none, 0, [], false, 0⟩
  resetHeld := false

end Sys2Proof.Machine
end

