-- ==== Sys2Proof/Machine/Operands.lean ====
section
/-! DEFINITION. The arithmetic and the codes the commands share: clamping and rounding as the rules state them, the
codes of R166 and R168, the cyclic check of R165, and the small readings of a record that several blocks use. -/

namespace Sys2Proof.Machine

/-! ## Arithmetic -/

/-- `v` clamped to `lo` to `hi` (section Conventions, Arithmetic). -/
def clampInt (lo hi v : Int) : Int :=
  if v < lo then lo else if hi < v then hi else v

/-- `v` clamped to `lo` to `hi`, for unsigned values. -/
def clampNat (lo hi v : Nat) : Nat :=
  if v < lo then lo else if hi < v then hi else v

/-- `n` divided by `d`, rounded to the nearest whole number, halves away from zero (R113, R149). -/
def roundHalfAway (n : Int) (d : Nat) : Int :=
  if n < 0 then -((2 * (-n) + d) / (2 * d)) else (2 * n + d) / (2 * d)

/-- `v` rounded to a multiple of 5 by its remainder on division by 5 (R15). -/
def roundFive (v : Int) : Int :=
  if v % 5 ≤ 2 then v - v % 5 else v + (5 - v % 5)

/-- One shift of the check register of R165, generator 07 hex. -/
def crcShift (r : Byte) : Byte :=
  if r.msb then (r <<< 1) ^^^ 0x07#8 else r <<< 1

/-- `n` shifts of the check register. -/
def crcShifts : Nat → Byte → Byte
  | 0, r => r
  | n + 1, r => crcShifts n (crcShift r)

/-- The check byte of R165 over bytes in order, the register starting at FF hex. -/
def crc8 (bytes : List Byte) : Byte :=
  bytes.foldl (fun r b => crcShifts 8 (r ^^^ b)) 0xFF#8

/-- The high byte of a word. -/
def highByte (w : Word) : Byte := BitVec.extractLsb' 8 8 w

/-- The low byte of a word. -/
def lowByte (w : Word) : Byte := BitVec.extractLsb' 0 8 w

/-- The word whose high byte is `h` and whose low byte is `l`. -/
def joinBytes (h l : Byte) : Word := h ++ l

/-- The word with 1 in bit `i` where `b`, else 0. -/
def bitAt (i : Nat) (b : Bool) : Nat := if b then 2 ^ i else 0

/-! ## Timers -/

/-- A timer that a qualifying sample starts, a non-qualifying one idles, and that fires at a qualifying sample taken
`limit` frames or more after its start (R65, R126). -/
def runTimer (t : Option Nat) (qualifies : Bool) (limit : Nat) : Option Nat × Bool :=
  if qualifies then
    match t with
    | none => (some 0, false)
    | some n => if limit ≤ n then (none, true) else (some n, false)
  else (none, false)

/-- A running timer one frame on. -/
def tickTimer (t : Option Nat) : Option Nat := t.map (· + 1)

/-- A running timer one frame on, saturating at `limit`. -/
def tickTimerTo (limit : Nat) (t : Option Nat) : Option Nat := t.map fun n => min limit (n + 1)

/-! ## Codes -/

/-- Zone codes: 1 Front, 2 Rear (R166). -/
def Zone.ofCode (w : Word) : Option Zone :=
  if w = 1#16 then some .front else if w = 2#16 then some .rear else none

/-- The code of a zone (R166). -/
def Zone.code : Zone → Nat
  | .front => 1
  | .rear => 2

/-- Mode codes: 0 Auto, 1 Fresh, 2 Recirc, 3 Defog, 4 Off (R166). -/
def RequestedMode.ofCode (w : Word) : Option RequestedMode :=
  match w.toNat with
  | 0 => some .auto
  | 1 => some .fresh
  | 2 => some .recirc
  | 3 => some .defog
  | 4 => some .off
  | _ => none

/-- The code of a requested mode (R166). -/
def RequestedMode.code : RequestedMode → Nat
  | .auto => 0
  | .fresh => 1
  | .recirc => 2
  | .defog => 3
  | .off => 4

/-- The code of a cab mode, by the mode codes of R166 (R172). -/
def CabMode.code : CabMode → Nat
  | .fresh => 1
  | .recirc => 2
  | .defog => 3
  | .off => 4

/-- The code of a fan choice: FFFF hex for Auto, else the level (R168). -/
def FanChoice.code : FanChoice → Word
  | .auto => 0xFFFF#16
  | .level n => Word.ofNat n

/-- The fan choice of a Set Fan level word, brought into range by R16, and whether it was moved. -/
def FanChoice.ofWord (w : Word) : FanChoice × Bool :=
  if w = 0xFFFF#16 then (.auto, false)
  else (.level (clampNat 1 8 w.toNat), decide (clampNat 1 8 w.toNat ≠ w.toNat))

/-- Purge scope codes: 1 Rear, 2 Whole (R166). -/
def PurgeScope.ofCode (w : Word) : Option PurgeScope :=
  if w = 1#16 then some .rear else if w = 2#16 then some .whole else none

/-- The code of a purge scope, 0 when absent (R168, R172). -/
def PurgeScope.code : Option PurgeScope → Nat
  | none => 0
  | some .rear => 1
  | some .whole => 2

/-- The code of a purge phase (R168). -/
def PurgePhase.code : PurgePhase → Nat
  | .idle => 0
  | .armed => 1
  | .flushing => 2
  | .deferred => 3

/-- The code of a purge result (R168). -/
def PurgeResult.code : PurgeResult → Nat
  | .none => 0
  | .done => 1
  | .doneTimed => 2
  | .cancelled => 3
  | .abortedDoors => 4
  | .abortedSmoke => 5
  | .abortedTime => 6

/-- The code of a shelter state (R170). -/
def Shelter.code : Shelter → Nat
  | .inactive => 0
  | .pressurize => 1
  | .sealed => 2

/-- The code of an answer (R168). -/
def AnswerCode.num : AnswerCode → Nat
  | .done => 0
  | .clamped => 1
  | .busy => 2
  | .full => 3
  | .scope => 4
  | .cls => 5
  | .denied => 6
  | .range => 7
  | .blocked => 8
  | .unknown => 9
  | .garbled => 10

/-- The code of a station, 0 for none (R172). -/
def stationCode : Option Station → Nat
  | none => 0
  | some n => n.num

/-- The code of an originator: a station, 9 for Auto, 0 when absent (R172). -/
def Originator.code : Option Originator → Nat
  | none => 0
  | some (.station n) => n.num
  | some .auto => 9

/-- On and off codes: 1 and 0 (section 12.4, R166). -/
def switchOfCode (w : Word) : Option Bool :=
  if w = 1#16 then some true else if w = 0#16 then some false else none

/-- A kind code with a zone code names a key (R19); the zone of Mode and Shelter is ignored. -/
def Key.ofCodes (kind zone : Word) : Option Key :=
  match kind.toNat with
  | 1 => (Zone.ofCode zone).map .setpoint
  | 2 => (Zone.ofCode zone).map .fan
  | 3 => some .mode
  | 4 => some .shelter
  | _ => none

end Sys2Proof.Machine

namespace Sys2Proof

/-! ## Codes of the slot and door settings -/

/-- Class codes (section 12.4). -/
def StationClass.ofCode (w : Word) : Option StationClass :=
  match w.toNat with
  | 0 => some .frontPanel
  | 1 => some .crewPanel
  | 2 => some .pumpPanel
  | 3 => some .auxiliaryPanel
  | 4 => some .vehicle
  | 5 => some .service
  | _ => none

/-- The code of a class (section 12.4). -/
def StationClass.code : StationClass → Nat
  | .frontPanel => 0
  | .crewPanel => 1
  | .pumpPanel => 2
  | .auxiliaryPanel => 3
  | .vehicle => 4
  | .service => 5

/-- Scope codes (section 12.4). -/
def Scope.ofCode (w : Word) : Option Scope :=
  match w.toNat with
  | 0 => some .front
  | 1 => some .rear
  | 2 => some .both
  | _ => none

/-- The code of a station scope (section 12.4). -/
def Scope.code : Scope → Nat
  | .front => 0
  | .rear => 1
  | .both => 2

/-- Door zone codes (section 12.4). -/
def DoorZone.ofCode (w : Word) : Option DoorZone :=
  match w.toNat with
  | 0 => some .front
  | 1 => some .rear
  | 2 => some .unused
  | _ => none

/-- The code of a door zone (section 12.4). -/
def DoorZone.code : DoorZone → Nat
  | .front => 0
  | .rear => 1
  | .unused => 2

/-- Whether a station's scope covers a zone (R14). -/
def Scope.covers : Scope → Machine.Zone → Bool
  | .both, _ => true
  | .front, .front => true
  | .rear, .rear => true
  | .front, .rear => false
  | .rear, .front => false

/-- Whether a station's scope covers a purge scope (R73). -/
def Scope.coversPurge : Scope → Machine.PurgeScope → Bool
  | .both, _ => true
  | .rear, .rear => true
  | .rear, .whole => false
  | .front, _ => false

end Sys2Proof

namespace Sys2Proof.Machine

/-! ## Small readings of records -/

/-- The kind and zone of a demand (R12). -/
def Demand.key : Demand → Key
  | .setpoint z _ => .setpoint z
  | .fan z _ => .fan z
  | .mode _ => .mode
  | .shelter => .shelter

/-- The value of a demand as an Answer to its set request and the Record Space show it (R168, R172). -/
def Demand.word : Demand → Word
  | .setpoint _ t => Word.ofInt t
  | .fan _ c => c.code
  | .mode m => Word.ofNat m.code
  | .shelter => 1#16

/-- Whether a purge scope takes in the doors of a zone (R72). -/
def PurgeScope.coversDoor : PurgeScope → DoorZone → Bool
  | .rear, .rear => true
  | .whole, .front => true
  | .whole, .rear => true
  | _, _ => false

/-- The value a channel shows: present exactly under Fresh and Held (R117). -/
def ChannelRecord.shown (r : ChannelRecord) : Option Int :=
  match r.status with
  | .fresh => r.value
  | .held => r.value
  | .unsampled => none
  | .failed => none

/-- The slot settings of a station (R1). -/
def State.slot (s : State) (n : Station) : SlotSettings := s.settings.slots.get n

/-- The state of a station (R1). -/
def State.modeOf (s : State) (n : Station) : StationMode := (s.stations.get n).mode

/-- The Cab Air Record entry of a channel (R104). -/
def State.channel (s : State) (c : CalChannel) : ChannelRecord := s.record.cal.get c

/-- The staged scan list: the first list-length positions of the settings (R110). -/
def stagedList (g : Settings) : List ScanEntry := g.scanPositions.take g.scanLength

/-- Cab pressure is available: its channel is Fresh or Held (R51). -/
def State.pressureAvailable (s : State) : Bool :=
  decide ((s.channel .cabPressure).status = .fresh) || decide ((s.channel .cabPressure).status = .held)

/-- A door is open, among those whose map is Front or Rear (R51). -/
def State.doorOpen (s : State) : Bool :=
  Door.all.any fun d => s.vehicle.record.doors.get d && decide (s.settings.doorMap.get d ≠ .unused)

/-- The answer of a refusal: words 1 to 3 are 0 (R168). -/
def Answer.refuse (c : AnswerCode) : Answer := ⟨c, 0#16, 0#16, 0#16⟩

end Sys2Proof.Machine
end

