-- ==== Sys2Proof/Machine/Drives.lean ====
section
/-! DEFINITION. One blower on its own record (chapter 8) and one actuator on its own record (chapter 9). What their
changes do to the rest of the part stands in Blowers.lean and Actuators.lean. -/

namespace Sys2Proof.Machine

/-! ## A blower -/

/-- A new target; a value equal to the present one changes nothing (R136). -/
def BlowerState.takeTarget (b : BlowerState) (t : Nat) : BlowerState := { b with target := t }

/-- The output one ramp step nearer its target (R137). -/
def rampStep (output target : Nat) : Nat :=
  if output < target then min (output + 20) target else max (output - 20) target

/-- A trip (R140). -/
def BlowerState.trip (b : BlowerState) (k : TripKind) : BlowerState :=
  if 4 ≤ b.trips + 1 then
    { b with output := 0, protection := .latched, shortTimer := none, overloadTimer := none, cooldown := none,
             trips := 4, window := none, lastTrip := k }
  else
    { b with output := 0, protection := .tripped, shortTimer := none, overloadTimer := none, cooldown := some 0,
             trips := b.trips + 1, window := some (b.window.getD 0), lastTrip := k }

/-- A detector's timer after the current was compared with its level: it runs on or starts at 0 at or above the
level, and is idle below it (R138, R139, R146). -/
def watchTimer (current level : Nat) (t : Option Nat) : Option Nat :=
  if level ≤ current then some (t.getD 0) else none

/-- Both detectors' comparison, made while Running only (R138, R139). -/
def BlowerState.watch (b : BlowerState) (short overload : Nat) : BlowerState :=
  if b.protection = .running then
    { b with shortTimer := watchTimer b.current short b.shortTimer
             overloadTimer := watchTimer b.current overload b.overloadTimer }
  else b

/-- The return to Running with both timers judged afresh (R141, R143). -/
def BlowerState.resume (b : BlowerState) (short overload : Nat) : BlowerState :=
  { b with protection := .running, cooldown := none
           shortTimer := watchTimer b.current short none
           overloadTimer := watchTimer b.current overload none }

/-- A Latched blower cleared by Clear Latches (R143). -/
def BlowerState.clearLatch (b : BlowerState) (short overload : Nat) : BlowerState :=
  if b.protection = .latched then { b.resume short overload with trips := 0, window := none } else b

/-- The overload timer has reached the Overload Time, counted as 10 frames per unit (R139, R146). -/
def BlowerState.overloadDue (b : BlowerState) (overloadTime : Nat) : Bool :=
  decide (b.protection = .running) && (b.overloadTimer.any fun t => decide (10 * overloadTime ≤ t))

/-- The cooldown timer has reached 200 frames (R141). -/
def BlowerState.cooldownDue (b : BlowerState) : Bool :=
  decide (b.protection = .tripped) && (b.cooldown.any fun t => decide (200 ≤ t))

/-- The trip window has reached 6000 frames (R142). -/
def BlowerState.windowDue (b : BlowerState) : Bool :=
  b.window.any fun t => decide (6000 ≤ t)

/-- A trip by overload where the timer is due. -/
def BlowerState.overloadStep (b : BlowerState) (overloadTime : Nat) : BlowerState :=
  if b.overloadDue overloadTime then b.trip .overload else b

/-- The window's end where it is due: idle, and the trip count 0 (R142). -/
def BlowerState.windowStep (b : BlowerState) : BlowerState :=
  if b.windowDue then { b with window := none, trips := 0 } else b

/-- The cooldown's end where it is due (R141). -/
def BlowerState.cooldownStep (b : BlowerState) (short overload : Nat) : BlowerState :=
  if b.cooldownDue then b.resume short overload else b

/-- The ramp step, taken while Running (R137). -/
def BlowerState.ramp (b : BlowerState) : BlowerState :=
  if b.protection = .running then { b with output := rampStep b.output b.target } else b

/-- Step 1 of a Frame Mark: the overload timer (R137, R139). -/
def BlowerState.markOverload (b : BlowerState) (overloadTime : Nat) : BlowerState :=
  { b with overloadTimer := tickTimer b.overloadTimer }.overloadStep overloadTime

/-- Step 2: a window that was running before step 1 is advanced (R137, R142). -/
def BlowerState.markWindow (b : BlowerState) (wasRunning : Bool) : BlowerState :=
  if wasRunning then { b with window := tickTimer b.window }.windowStep else b

/-- Step 3: a cooldown that was running before step 1 is advanced (R137, R141). -/
def BlowerState.markCooldown (b : BlowerState) (wasRunning : Bool) (short overload : Nat) : BlowerState :=
  if wasRunning then { b with cooldown := tickTimer b.cooldown }.cooldownStep short overload else b

/-- The work of one Frame Mark at a blower, in the order of R137. -/
def BlowerState.mark (b : BlowerState) (short overload overloadTime : Nat) : BlowerState :=
  (((b.markOverload overloadTime).markWindow b.window.isSome).markCooldown b.cooldown.isSome short overload).ramp

/-- Whether an event at a blower sets the Movers mark: a trip, a return to Running, a window expiry, a clearing
(R147). -/
def BlowerState.reported (before after : BlowerState) : Bool :=
  decide (before.protection ≠ after.protection) || decide (before.trips ≠ after.trips) ||
  (before.window.isSome && after.window.isNone)

/-- The high time of the PWM pin in thousandths of its period (R137). -/
def BlowerState.pwmHighTime (b : BlowerState) : Nat := b.output

/-! ## An actuator -/

/-- A reading in range: 20 to 980 ‰ (R149). -/
def readingInRange (r : Nat) : Bool := decide (20 ≤ r) && decide (r ≤ 980)

/-- The position an in-range reading gives (R149). -/
def positionOf (reading closedEnd openEnd : Nat) : Nat :=
  (clampInt 0 100 (roundHalfAway (((reading : Int) - closedEnd) * 100) (openEnd - closedEnd))).toNat

/-- Target and position within ±2 (R151). -/
def nearTarget (target position : Nat) : Bool :=
  decide (target ≤ position + 2) && decide (position ≤ target + 2)

/-- The drive toward a target (R148). -/
def driveToward (target position : Nat) : Drive :=
  if position < target then .opening else .closing

/-- The control pair MAn, MBn of a drive (R148). -/
def controlPair : Drive → Bool × Bool
  | .off => (false, false)
  | .opening => (true, false)
  | .closing => (false, true)

/-- The entry to Still: the drive off; the stall timer stops (R151 to R154, log entry 19). -/
def ActuatorState.rest (a : ActuatorState) : ActuatorState :=
  { a with motion := .still, drive := .off, stallTimer := 0, reversal := none, stallWait := none }

/-- The entry to Moving toward the target in force, progress judged from here (R151, R153, R154). -/
def ActuatorState.start (a : ActuatorState) : ActuatorState :=
  { a with motion := .moving, drive := driveToward a.target a.position, stallRef := a.position, stallTimer := 0,
           reversal := none, stallWait := none }

/-- The target in force taken as a new target from Still (R151): a move begins where it lies outside the band. -/
def ActuatorState.fromStill (a : ActuatorState) : ActuatorState :=
  if nearTarget a.target a.position then a else { a.start with retryUsed := false }

/-- The entry to Reversing (R151, R152). -/
def ActuatorState.reverse (a : ActuatorState) : ActuatorState :=
  { a with motion := .reversing, drive := .off, stallTimer := 0, reversal := some 0 }

/-- The entry to Stuck with a fault kind (R150, R152). Retry used stays as it was, also from Still, as R150 does not name
it (DESIGN CHOICE, log entry 38); the stall timer is 0 outside Moving (log entry 19). -/
def ActuatorState.stick (a : ActuatorState) (k : FaultKind) : ActuatorState :=
  { a with motion := .stuck, drive := .off, stallTimer := 0, reversal := none, stallWait := none, lastFault := k,
           waiting := false }

/-- A new target of a plan (R151); one equal to the target in force gives the actuator nothing, and an actuator
waiting for its first Frame Mark records it (R160). -/
def ActuatorState.takeTarget (a : ActuatorState) (t : Nat) : ActuatorState :=
  if a.target = t then a
  else if a.waiting then { a with target := t }
  else
    match a.motion with
    | .still => { a with target := t }.fromStill
    | .moving =>
      if nearTarget t a.position then { a with target := t }.rest
      else if driveToward t a.position = a.drive then { a with target := t }
      else { a with target := t }.reverse
    | .reversing => { a with target := t }
    | .stalled => { a with target := t }
    | .stuck => { a with target := t }

/-- The stall timer has reached 150 frames (R152). -/
def ActuatorState.stallDue (a : ActuatorState) : Bool :=
  decide (a.motion = .moving) && decide (150 ≤ a.stallTimer)

/-- A stall where it is due: Stalled, or Stuck after the retry (R152). -/
def ActuatorState.stallStep (a : ActuatorState) : ActuatorState :=
  if a.stallDue then
    if a.retryUsed then a.stick .stall
    else { a with motion := .stalled, drive := .off, stallTimer := 0, stallWait := some 0, lastFault := .stall }
  else a

/-- The three tests of a Moving actuator: arrival, overshoot, progress (R152). -/
def ActuatorState.motionTests (a : ActuatorState) : ActuatorState :=
  if nearTarget a.target a.position then a.rest
  else if driveToward a.target a.position ≠ a.drive then a.reverse
  else if a.position ≠ a.stallRef then { a with stallRef := a.position, stallTimer := 0 }
  else { a with stallTimer := a.stallTimer + 1 }.stallStep

/-- The end of a reversal where its timer has reached 10 frames (R153). -/
def ActuatorState.reversalStep (a : ActuatorState) : ActuatorState :=
  if a.motion = .reversing ∧ (a.reversal.any fun t => decide (10 ≤ t)) then
    if nearTarget a.target a.position then a.rest else a.start
  else a

/-- The end of a stall wait where its timer has reached 500 frames (R154). -/
def ActuatorState.waitStep (a : ActuatorState) : ActuatorState :=
  if a.motion = .stalled ∧ (a.stallWait.any fun t => decide (500 ≤ t)) then
    if nearTarget a.target a.position then a.rest else { a.start with retryUsed := true }
  else a

/-- The rest of a Frame Mark once the position has been read in range (R152 to R154). -/
def ActuatorState.markMotion (a : ActuatorState) : ActuatorState :=
  match a.motion with
  | .still => a
  | .moving => a.motionTests
  | .reversing => { a with reversal := tickTimer a.reversal }.reversalStep
  | .stalled => { a with stallWait := tickTimer a.stallWait }.waitStep
  | .stuck => a

/-- The position taken from an in-range reading. -/
def ActuatorState.readFeedback (a : ActuatorState) (reading closedEnd openEnd : Nat) : ActuatorState :=
  { a with feedback := reading, position := positionOf reading closedEnd openEnd }

/-- The work of one Frame Mark at an actuator (R149, R150, R152 to R154); one that waited for its first Frame Mark
is settled by R160, and its stall reference takes the position formed, also where no move begins (DESIGN CHOICE, log
entry 39). -/
def ActuatorState.mark (a : ActuatorState) (reading closedEnd openEnd : Nat) : ActuatorState :=
  if readingInRange reading then
    if a.waiting then
      { a.readFeedback reading closedEnd openEnd with
        waiting := false, stallRef := positionOf reading closedEnd openEnd }.fromStill
    else (a.readFeedback reading closedEnd openEnd).markMotion
  else if a.motion = .stuck then { a with feedback := reading }
  else { a with feedback := reading }.stick .feedback

/-- A Stuck actuator cleared by Clear Latches (R155). -/
def ActuatorState.clearStuck (a : ActuatorState) : ActuatorState :=
  if a.motion = .stuck then
    { a with motion := .still, drive := .off, retryUsed := false, stallTimer := 0, reversal := none, stallWait := none,
             stallRef := a.position }.fromStill
  else a

/-- Whether an event at an actuator sets the Movers mark: an entry to Stalled or Stuck, a retry (R159). -/
def ActuatorState.reported (before after : ActuatorState) : Bool :=
  (decide (before.motion ≠ after.motion) && (decide (after.motion = .stalled) || decide (after.motion = .stuck))) ||
  (decide (before.motion = .stalled) && decide (after.motion = .moving))

end Sys2Proof.Machine
end

