-- ==== Sys2Proof/Machine/Flags.lean ====
section
/-! DEFINITION. The status flags of the part: the condition set and the ALERT pin (R123, R124, R134) and the change
marks (R179). -/

namespace Sys2Proof.Machine

/-- Every condition, in order by number (R123). -/
def Condition.all : List Condition :=
  [.smokeOutside, .heavySmoke, .outsideCoHigh, .cabCoHigh, .coUnderSeal, .filterLoaded, .supplyLow, .holdShortfall,
   .purgeIncomplete, .vehicleUnverified, .sensorFailed, .converterDrift, .motorFault, .actuatorStuck, .loopFault,
   .settingsDefaulted]

/-- The number of a condition (R123). -/
def Condition.num : Condition → Nat
  | .smokeOutside => 0
  | .heavySmoke => 1
  | .outsideCoHigh => 2
  | .cabCoHigh => 3
  | .coUnderSeal => 4
  | .filterLoaded => 5
  | .supplyLow => 6
  | .holdShortfall => 7
  | .purgeIncomplete => 8
  | .vehicleUnverified => 9
  | .sensorFailed => 10
  | .converterDrift => 11
  | .motorFault => 12
  | .actuatorStuck => 13
  | .loopFault => 14
  | .settingsDefaulted => 15

/-- Whether a condition is Raised. -/
def Conditions.get (cs : Conditions) : Condition → Bool
  | .smokeOutside => cs.smokeOutside
  | .heavySmoke => cs.heavySmoke
  | .outsideCoHigh => cs.outsideCoHigh
  | .cabCoHigh => cs.cabCoHigh
  | .coUnderSeal => cs.coUnderSeal
  | .filterLoaded => cs.filterLoaded
  | .supplyLow => cs.supplyLow
  | .holdShortfall => cs.holdShortfall
  | .purgeIncomplete => cs.purgeIncomplete
  | .vehicleUnverified => cs.vehicleUnverified
  | .sensorFailed => cs.sensorFailed
  | .converterDrift => cs.converterDrift
  | .motorFault => cs.motorFault
  | .actuatorStuck => cs.actuatorStuck
  | .loopFault => cs.loopFault
  | .settingsDefaulted => cs.settingsDefaulted

/-- The set with a condition Raised or Clear. -/
def Conditions.set (cs : Conditions) (c : Condition) (v : Bool) : Conditions :=
  match c with
  | .smokeOutside => { cs with smokeOutside := v }
  | .heavySmoke => { cs with heavySmoke := v }
  | .outsideCoHigh => { cs with outsideCoHigh := v }
  | .cabCoHigh => { cs with cabCoHigh := v }
  | .coUnderSeal => { cs with coUnderSeal := v }
  | .filterLoaded => { cs with filterLoaded := v }
  | .supplyLow => { cs with supplyLow := v }
  | .holdShortfall => { cs with holdShortfall := v }
  | .purgeIncomplete => { cs with purgeIncomplete := v }
  | .vehicleUnverified => { cs with vehicleUnverified := v }
  | .sensorFailed => { cs with sensorFailed := v }
  | .converterDrift => { cs with converterDrift := v }
  | .motorFault => { cs with motorFault := v }
  | .actuatorStuck => { cs with actuatorStuck := v }
  | .loopFault => { cs with loopFault := v }
  | .settingsDefaulted => { cs with settingsDefaulted := v }

/-- The condition word: bit n for condition n (R172). -/
def Conditions.word (cs : Conditions) : Nat :=
  (Condition.all.map fun c => bitAt c.num (cs.get c)).sum

/-- Whether a condition of the mask is Raised (R134). -/
def alertOf (mask : Word) (cs : Conditions) : Bool :=
  Condition.all.any fun c => mask.getLsbD c.num && cs.get c

/-- Whether the ALERT pin is to be driven: a condition of the mask is Raised and RESETN is not asserted (R134). -/
def State.alertDue (s : State) : Bool := !s.resetHeld && alertOf s.settings.alertMask s.conditions

/-- A mark of a station. -/
def Marks.get (m : Marks) : Group → Bool
  | .plan => m.plan
  | .conditions => m.conditions
  | .purge => m.purge
  | .vehicle => m.vehicle
  | .movers => m.movers
  | .settings => m.settings

/-- The marks with that of one group set or cleared. -/
def Marks.put (m : Marks) (g : Group) (v : Bool) : Marks :=
  match g with
  | .plan => { m with plan := v }
  | .conditions => { m with conditions := v }
  | .purge => { m with purge := v }
  | .vehicle => { m with vehicle := v }
  | .movers => { m with movers := v }
  | .settings => { m with settings := v }

/-- A group's mark set for every station that is not Disabled (R179). -/
def markAll (g : Group) (s : State) : State :=
  s.setMarks (s.marks.mapWith fun n m => if s.modeOf n = .disabled then m else m.put g true)

/-- `markAll` where `b`. -/
def markAllIf (b : Bool) (g : Group) (s : State) : State :=
  if b then markAll g s else s

/-- A condition brought to Raised or Clear, with the effects of R124 but the trigger: the Conditions marks and the
ALERT pin. A condition that already stands so changes nothing. -/
def setCondition (c : Condition) (v : Bool) (s : State) : State :=
  if s.conditions.get c = v then s
  else
    markAll .conditions ((s.setConditions (s.conditions.set c v)).setAlert
      (s.setConditions (s.conditions.set c v)).alertDue)

end Sys2Proof.Machine
end

