-- ==== Sys2Proof/Machine/Planning.lean ====
section
/-! DEFINITION. The Air Plan as a function of the state (chapter 2): the winners of the key groups, the shelter, the
limits in force, the cab mode effective and the eight precedence layers. -/

namespace Sys2Proof.Machine

/-! ## Winner selection -/

/-- Whether an entry takes part in a key group: its key is the group's and its station's scope covers the zone, where
the group has one (R27). -/
def State.eligible (s : State) (k : Key) (e : Entry) : Bool :=
  decide (e.demand.key = k) &&
    match k with
    | .setpoint z => (s.slot e.station).scope.covers z
    | .fan z => (s.slot e.station).scope.covers z
    | .mode => true
    | .shelter => true

/-- Whether a later entry of the table wins over an earlier one: by rank, then Active before Held, then recency
(R28). -/
def State.beats (s : State) (later earlier : Entry) : Bool :=
  decide ((s.slot earlier.station).rank < (s.slot later.station).rank) ||
    (decide ((s.slot earlier.station).rank = (s.slot later.station).rank) && (!later.held || earlier.held))

/-- The better of the winner so far and the next entry of the table. -/
def State.keepBest (s : State) (best : Option Entry) (e : Entry) : Option Entry :=
  match best with
  | none => some e
  | some o => if s.beats e o then some e else some o

/-- The winner of a key group (R27, R28). -/
def State.winner (s : State) (k : Key) : Option Entry :=
  (s.table.filter (s.eligible k)).foldl s.keepBest none

/-- The setpoint an entry gives, or the Default Setpoint (R28). -/
def setpointOf (g : Settings) (w : Option Entry) : Int :=
  match w with
  | some ⟨_, .setpoint _ t, _⟩ => t
  | _ => g.defaultSetpoint

/-- The fan choice an entry gives, or Auto (R28). -/
def fanOf (w : Option Entry) : FanChoice :=
  match w with
  | some ⟨_, .fan _ c, _⟩ => c
  | _ => .auto

/-- The mode an entry gives, or Auto (R28). -/
def modeOfWinner (w : Option Entry) : RequestedMode :=
  match w with
  | some ⟨_, .mode m, _⟩ => m
  | _ => .auto

/-- The source of a choice: the winner's station, or none for Default (R28). -/
def sourceOf (w : Option Entry) : Option Station := w.map (·.station)

/-! ## Shelter and limits -/

/-- The Request source of shelter (R29). -/
def State.requestSource (s : State) : Bool := s.table.any fun e => decide (e.demand = .shelter)

/-- The Pump source of shelter (R29). -/
def State.pumpSource (s : State) : Bool := s.settings.shelterOnPump && s.vehicle.record.pump

/-- The shelter state of the plan (R31). -/
def State.shelterNow (s : State) : Shelter :=
  if s.requestSource || s.resolver.autoLatch || s.pumpSource then
    if s.conditions.heavySmoke then .sealed else .pressurize
  else .inactive

/-- CO Flush in force (R33). -/
def State.coFlushNow (s : State) : Bool :=
  s.conditions.cabCoHigh && decide (s.shelterNow = .inactive)

/-- Ignition Off in force (R33). -/
def State.ignitionOffNow (s : State) : Bool :=
  !s.vehicle.record.ignition && decide (s.shelterNow = .inactive) && decide (s.purge.phase = .idle)

/-- Shed in force (R33). -/
def State.shedNow (s : State) : Bool := !s.vehicle.record.engine || s.conditions.supplyLow

/-- The heater availability after a resolution (R45). -/
def State.heaterNext (s : State) : Bool :=
  match (s.channel .coolantTemp).shown with
  | some v => if 400 ≤ v then true else if v < 350 then false else s.resolver.heater
  | none => s.vehicle.record.engine

/-- The requested mode with Auto taken by Outside CO High: step 3 of R35. -/
def State.takenMode (s : State) : CabMode :=
  match modeOfWinner (s.winner .mode) with
  | .auto => if s.conditions.outsideCoHigh then .recirc else .fresh
  | .fresh => .fresh
  | .recirc => .recirc
  | .defog => .defog
  | .off => .off

/-- Outside air is in use whatever mode was asked: step 4 of R35. -/
def State.outsideAirNow (s : State) : Bool :=
  decide (s.purge.phase = .flushing) || decide (s.shelterNow = .pressurize) || s.coFlushNow

/-- The cab mode effective (R35). -/
def State.cabModeNow (s : State) : CabMode :=
  if s.shelterNow = .sealed then .recirc
  else if s.ignitionOffNow then .off
  else if s.outsideAirNow && (decide (s.takenMode = .off) || decide (s.takenMode = .recirc)) then .fresh
  else s.takenMode

/-! ## Comfort -/

/-- The zone temperature: the value the channel shows (R42). -/
def State.zoneTemp (s : State) : Zone → Option Int
  | .front => (s.channel .frontTemp).shown
  | .rear => (s.channel .rearTemp).shown

/-- The mix target of layer 7 (R42). -/
def comfortMix (setpoint : Int) (temp : Option Int) : Nat :=
  match temp with
  | some t => (clampInt 0 100 (50 + (setpoint - t).tdiv 2)).toNat
  | none => 50

/-- The fan level of layer 7 (R43). -/
def fanLevel (choice : FanChoice) (setpoint : Int) (temp : Option Int) : Nat :=
  match choice with
  | .level n => n
  | .auto =>
    match temp with
    | some t => clampNat 2 8 (2 + (setpoint - t).natAbs / 10)
    | none => 4

/-- The zone blower target of layer 7, raised to the zone's floor, 0 for none (R43). -/
def comfortBlower (choice : FanChoice) (setpoint : Int) (temp : Option Int) (floor : Nat) : Nat :=
  max (125 * fanLevel choice setpoint temp) floor

/-! ## The precedence layers -/

/-- The drive fields while the layers are taken: none where still open; a floor of 0 is no floor (R34). -/
structure Draft where
  shutter : Option Nat
  relief : Option Nat
  intake : Option Intake
  front : Option Nat
  rear : Option Nat
  heaterValve : Option Nat
  frontMix : Option Nat
  rearMix : Option Nat
  frontFloor : Nat
  rearFloor : Nat
  deriving DecidableEq, Repr

/-- A field set where still open (R34). -/
def fill {α : Type} (field : Option α) (v : α) : Option α := some (field.getD v)

/-- Every field open. -/
def Draft.blank : Draft := ⟨none, none, none, none, none, none, none, none, 0, 0⟩

/-- The air path set where still open. -/
def Draft.fillPath (d : Draft) (shutter relief : Nat) (intake : Intake) : Draft :=
  { d with shutter := fill d.shutter shutter, relief := fill d.relief relief, intake := fill d.intake intake }

/-- The fields of Ignition Off and of the cab mode Off set where still open (R40, R41). -/
def Draft.fillOff (d : Draft) : Draft :=
  { d.fillPath 0 0 .off with
    front := fill d.front 0
    rear := fill d.rear 0
    heaterValve := fill d.heaterValve 0
    frontMix := fill d.frontMix 50
    rearMix := fill d.rearMix 50 }

/-- Layer 1, Sealed (R36). -/
def State.layer1 (s : State) (d : Draft) : Draft :=
  if s.shelterNow = .sealed then d.fillPath 0 0 .off else d

/-- Layer 2, Purge Flushing (R37). -/
def State.layer2 (s : State) (d : Draft) : Draft :=
  if s.purge.phase = .flushing ∧ s.shelterNow ≠ .sealed then
    { d.fillPath 100 100 (.fixed 1000) with
      rear := fill d.rear 1000
      front := if s.purge.scope = some .whole then fill d.front 1000 else d.front }
  else d

/-- Layer 3, Pressurize (R38). -/
def State.layer3 (s : State) (d : Draft) : Draft :=
  if s.shelterNow = .pressurize then
    { d.fillPath 100 (if s.conditions.cabCoHigh then 25 else 0)
        (.regulated s.settings.shelterTarget s.settings.shelterBase s.settings.shelterFloor) with
      frontFloor := max d.frontFloor 250
      rearFloor := max d.rearFloor 250 }
  else d

/-- Layer 4, CO Flush (R39). -/
def State.layer4 (s : State) (d : Draft) : Draft :=
  if s.coFlushNow then d.fillPath 100 100 (.fixed 800) else d

/-- Layer 5, Ignition Off (R40). -/
def State.layer5 (s : State) (d : Draft) : Draft :=
  if s.ignitionOffNow then d.fillOff else d

/-- The air path of Fresh and Defog (R41). -/
def State.fillFresh (s : State) (d : Draft) : Draft :=
  d.fillPath 100 25 (.regulated s.settings.freshTarget s.settings.freshBase s.settings.freshFloor)

/-- What Defog sets beside Fresh (R41). -/
def Draft.fillDefog (d : Draft) (heater : Bool) : Draft :=
  { d with
    frontMix := fill d.frontMix 100
    heaterValve := if heater then fill d.heaterValve 100 else d.heaterValve
    frontFloor := max d.frontFloor 750 }

/-- Layer 6, the cab mode effective (R41). -/
def State.layer6 (s : State) (d : Draft) : Draft :=
  match s.cabModeNow with
  | .off => d.fillOff
  | .recirc => d.fillPath 0 0 .off
  | .fresh => s.fillFresh d
  | .defog => (s.fillFresh d).fillDefog s.heaterNext

/-- The Heater Valve target of layer 7 (R44). -/
def heaterValveFor (heater : Bool) (frontMix rearMix : Nat) : Nat :=
  if heater && (decide (50 < frontMix) || decide (50 < rearMix)) then 100 else 0

/-- A blower target under Shed or not (R46). -/
def shedBlower (shed : Bool) (t : Nat) : Nat := if shed then min t 375 else t

/-- The intake under Shed or not (R46). -/
def shedIntake (shed : Bool) : Intake → Intake
  | .fixed n => .fixed (if shed then min n 500 else n)
  | .off => .off
  | .regulated t b f => .regulated t b f

/-- The drive fields as layers 1 to 6 leave them (R34). -/
def State.layered (s : State) : Draft :=
  s.layer6 (s.layer5 (s.layer4 (s.layer3 (s.layer2 (s.layer1 Draft.blank)))))

/-- The setpoint of a zone (R28). -/
def State.setpointNow (s : State) (z : Zone) : Int := setpointOf s.settings (s.winner (.setpoint z))

/-- The fan choice of a zone (R28). -/
def State.fanNow (s : State) (z : Zone) : FanChoice := fanOf (s.winner (.fan z))

/-- The mix target of a zone: as set, else by comfort (R42). -/
def State.mixNow (s : State) (z : Zone) : Nat :=
  match z with
  | .front => s.layered.frontMix.getD (comfortMix (s.setpointNow .front) (s.zoneTemp .front))
  | .rear => s.layered.rearMix.getD (comfortMix (s.setpointNow .rear) (s.zoneTemp .rear))

/-- The blower target of a zone before layer 8: as set, else by comfort (R43). -/
def State.zoneBlowerNow (s : State) (z : Zone) : Nat :=
  match z with
  | .front =>
    s.layered.front.getD
      (comfortBlower (s.fanNow .front) (s.setpointNow .front) (s.zoneTemp .front) s.layered.frontFloor)
  | .rear =>
    s.layered.rear.getD
      (comfortBlower (s.fanNow .rear) (s.setpointNow .rear) (s.zoneTemp .rear) s.layered.rearFloor)

/-- The Heater Valve target: layers 5 to 7, then 0 under Heater Unavailable (R44, R47). -/
def State.heaterValveNow (s : State) : Nat :=
  if s.heaterNext then
    s.layered.heaterValve.getD (heaterValveFor s.heaterNext (s.mixNow .front) (s.mixNow .rear))
  else 0

/-- Every field of the Air Plan but the version, formed from the state (R22, R25). -/
def formPlan (s : State) : PlanBody where
  shelter := s.shelterNow
  sourceRequest := s.requestSource
  sourceAuto := s.resolver.autoLatch
  sourcePump := s.pumpSource
  phase := s.purge.phase
  scope := if s.purge.phase = .idle then none else s.purge.scope
  cabMode := s.cabModeNow
  modeSource := sourceOf (s.winner .mode)
  frontSetpoint := s.setpointNow .front
  rearSetpoint := s.setpointNow .rear
  frontSetpointSource := sourceOf (s.winner (.setpoint .front))
  rearSetpointSource := sourceOf (s.winner (.setpoint .rear))
  frontFan := s.fanNow .front
  rearFan := s.fanNow .rear
  frontFanSource := sourceOf (s.winner (.fan .front))
  rearFanSource := sourceOf (s.winner (.fan .rear))
  frontBlower := shedBlower s.shedNow (s.zoneBlowerNow .front)
  rearBlower := shedBlower s.shedNow (s.zoneBlowerNow .rear)
  intake := shedIntake s.shedNow (s.layered.intake.getD .off)
  cap := if s.shedNow then 500 else 1000
  shutter := s.layered.shutter.getD 0
  relief := s.layered.relief.getD 0
  heaterValve := s.heaterValveNow
  frontMix := s.mixNow .front
  rearMix := s.mixNow .rear
  shed := s.shedNow
  heaterUnavailable := !s.heaterNext
  coFlush := s.coFlushNow
  ignitionOff := s.ignitionOffNow

end Sys2Proof.Machine
end

