-- ==== Sys2Proof/Machine/Regulation.lean ====
section
/-! DEFINITION. The Hold Regulator on its own record (chapter 3): entries, plan changes, doors, samples and the
update. What its changes do to the rest of the part stands in Ops.lean. -/

namespace Sys2Proof.Machine

/-- Step 5 of the update: a level brought into the range from the floor to the cap, the cap winning (R60). -/
def limitOutput (u : Int) (floor cap : Nat) : Nat :=
  if cap < floor then cap
  else if u < floor then floor
  else if (cap : Int) < u then cap
  else u.toNat

/-- The output of Door Hold: the Door Level, lowered to the cap (R54). -/
def doorHoldOutput (doorLevel cap : Nat) : Nat :=
  if cap < doorLevel then cap else doorLevel

/-- The mode of a regulator whose plan is Regulated, by doors and cab pressure (section 3.2). -/
def holdModeFor (doorOpen available : Bool) : HoldMode :=
  if doorOpen then .doorHold else if available then .regulating else .frozen

/-- Entry from Off by a Regulated plan (R52). -/
def Regulator.enter (r : Regulator) (target base floor cap : Nat) (doorOpen available : Bool) (doorLevel : Nat) :
    Regulator :=
  { r with
    mode := holdModeFor doorOpen available
    integral := 0
    windup := false
    lastError := 0
    output := if doorOpen then doorHoldOutput doorLevel cap else limitOutput base floor cap
    target := some target
    base := some base
    floor := some floor
    cap := cap }

/-- A Regulated plan taken while Regulated stands (R56): T and base act later; a changed floor or cap re-limits the
output in Regulating and Frozen, a changed cap limits the Door Level in Door Hold. -/
def Regulator.retarget (r : Regulator) (target base floor cap : Nat) (doorLevel : Nat) : Regulator :=
  { r with
    output :=
      if r.mode = .doorHold then
        if r.cap = cap then r.output else doorHoldOutput doorLevel cap
      else if r.floor = some floor ∧ r.cap = cap then r.output
      else limitOutput r.output floor cap
    target := some target
    base := some base
    floor := some floor
    cap := cap }

/-- A plan whose intake is Off or Fixed (R53): Off, the plan's level, nothing else changed but T, base, floor and
cap. -/
def Regulator.leave (r : Regulator) (level cap : Nat) : Regulator :=
  { r with mode := .off, output := level, target := none, base := none, floor := none, cap := cap }

/-- A plan handed on to the Hold Regulator (R26, R52, R53, R56). -/
def Regulator.takePlan (r : Regulator) (b : PlanBody) (doorOpen available : Bool) (doorLevel : Nat) : Regulator :=
  match b.intake with
  | .off => r.leave 0 b.cap
  | .fixed level => r.leave level b.cap
  | .regulated t base floor =>
    if r.mode = .off then r.enter t base floor b.cap doorOpen available doorLevel
    else r.retarget t base floor b.cap doorLevel

/-- A change of the doors (R54). -/
def Regulator.takeDoors (r : Regulator) (doorOpen available : Bool) (doorLevel : Nat) : Regulator :=
  match r.mode with
  | .off => r
  | .regulating => if doorOpen then { r with mode := .doorHold, output := doorHoldOutput doorLevel r.cap } else r
  | .frozen => if doorOpen then { r with mode := .doorHold, output := doorHoldOutput doorLevel r.cap } else r
  | .doorHold => if doorOpen then r else { r with mode := holdModeFor false available }

/-- A write of the Door Level (R63). -/
def Regulator.takeDoorLevel (r : Regulator) (doorLevel : Nat) : Regulator :=
  if r.mode = .doorHold then { r with output := doorHoldOutput doorLevel r.cap } else r

/-- Cab Pressure becomes Failed or Unsampled (R55). -/
def Regulator.losePressure (r : Regulator) : Regulator :=
  if r.mode = .regulating then { r with mode := .frozen } else r

/-- The error of an update (R58, step 1). -/
def Regulator.errorOf (r : Regulator) (p : Int) : Int :=
  clampInt (-2000) 2000 ((r.target.getD 0 : Int) - p)

/-- The integral before its clamp (R58, step 2). -/
def Regulator.rawIntegral (r : Regulator) (ki : Nat) (p : Int) : Int :=
  r.integral + (ki : Int) * r.errorOf p

/-- The integral after the update (R58, step 2). -/
def Regulator.nextIntegral (r : Regulator) (ki : Nat) (p : Int) : Int :=
  clampInt (-256000) 256000 (r.rawIntegral ki p)

/-- The raw correction: the floor of the sum plus 128, divided by 256 (R59); `/` on a positive divisor is the floor. -/
def Regulator.rawCorrection (r : Regulator) (kp ki : Nat) (p : Int) : Int :=
  ((kp : Int) * r.errorOf p + r.nextIntegral ki p + 128) / 256

/-- One update at a Fresh sample of value `p` (R57 to R60). -/
def Regulator.update (r : Regulator) (kp ki : Nat) (p : Int) : Regulator :=
  { r with
    lastError := r.errorOf p
    integral := r.nextIntegral ki p
    windup := decide (r.nextIntegral ki p ≠ r.rawIntegral ki p)
    output := limitOutput ((r.base.getD 0 : Int) + r.rawCorrection kp ki p) (r.floor.getD 0) r.cap }

/-- A Fresh Cab Pressure sample (table of R57): an update in Regulating; Frozen first enters Regulating. -/
def Regulator.takeFresh (r : Regulator) (kp ki : Nat) (p : Int) : Regulator :=
  match r.mode with
  | .regulating => r.update kp ki p
  | .frozen => { r.update kp ki p with mode := .regulating }
  | .doorHold => r
  | .off => r

/-- The Shortfall timers after a Fresh sample taken in Regulating under Pressurize, and whether Hold Shortfall is
Raised after it (R64, R65). -/
def Regulator.judgeShortfall (r : Regulator) (raised : Bool) (p : Int) : Regulator × Bool :=
  if raised then
    match runTimer r.clearTimer (decide ((r.target.getD 0 : Int) - 50 ≤ p)) 500 with
    | (t, fired) => ({ r with raiseTimer := none, clearTimer := t }, !fired)
  else
    match runTimer r.raiseTimer (decide (p < (r.target.getD 0 : Int) - 100)) 2000 with
    | (t, fired) => ({ r with raiseTimer := t, clearTimer := none }, fired)

/-- Both Shortfall timers idle (R66). -/
def Regulator.idleTimers (r : Regulator) : Regulator := { r with raiseTimer := none, clearTimer := none }

end Sys2Proof.Machine
end

