-- ==== Sys2Proof/Machine/Ops.lean ====
section
/-! DEFINITION. The operations that join the blocks: a resolution with its installing and handing on (R23, R25, R26),
the clock (R105), and the order of two blocks in a shared event (R25, R89). -/

namespace Sys2Proof.Machine

/-- The outcome of a command. -/
abbrev Result := Host.Outcome State Fault Refusal

/-! ## Handing on -/

/-- The evaluation of Hold Shortfall applies (R64). -/
def State.shortfallApplies (s : State) : Bool :=
  decide (s.plan.body.shelter = .pressurize) && decide (s.reg.mode = .regulating)

/-- Hold Shortfall cleared and its timers idle where its evaluation applies no longer (R66). -/
def checkShortfall (s : State) : State :=
  if s.shortfallApplies then s
  else setCondition .holdShortfall false (s.setReg s.reg.idleTimers)

/-- The regulator's output as the Intake Blower's target (R61, R136): R53 makes it the plan's level outside
Regulated. -/
def syncIntake (s : State) : State :=
  s.setBlowers { s.blowers with intake := s.blowers.intake.takeTarget s.reg.output }

/-- A changed regulator with what follows from its mode and output (R61, R66). -/
def withRegulator (r : Regulator) (s : State) : State :=
  checkShortfall (syncIntake (s.setReg r))

/-- CO Under Seal brought up to date (R130). -/
def updateCoUnderSeal (s : State) : State :=
  setCondition .coUnderSeal (s.conditions.cabCoHigh && decide (s.plan.body.shelter = .sealed)) s

/-- The five actuator targets of a plan. -/
def PlanBody.actuatorTargets (b : PlanBody) : PerActuator Nat :=
  ⟨b.shutter, b.relief, b.heaterValve, b.frontMix, b.rearMix⟩

/-- The zone blower targets of the installed plan taken (R136). -/
def takeZoneBlowers (s : State) : State :=
  s.setBlowers { s.blowers with
    front := s.blowers.front.takeTarget s.plan.body.frontBlower
    rear := s.blowers.rear.takeTarget s.plan.body.rearBlower }

/-- The actuator targets of the installed plan taken (R151). -/
def takeActuatorTargets (s : State) : State :=
  s.setActuators (s.actuators.mapWith fun a r => r.takeTarget (s.plan.body.actuatorTargets.get a))

/-- The installed plan handed on to the blocks that act on it (R26). -/
def handOver (s : State) : State :=
  updateCoUnderSeal (takeActuatorTargets (takeZoneBlowers
    (withRegulator (s.reg.takePlan s.plan.body s.doorOpen s.pressureAvailable s.settings.doorLevel)
      (markAll .plan s))))

/-! ## A resolution -/

/-- The heater availability brought up to date (R45). -/
def updateHeater (s : State) : State := s.setResolver { s.resolver with heater := s.heaterNext }

/-- A changed plan installed with the next version (R23). -/
def install (b : PlanBody) (s : State) : State := s.setPlan ⟨s.plan.version + 1#16, b⟩

/-- One resolution (R23, R25, R26). -/
def resolve (s : State) : State :=
  if formPlan (updateHeater s) = s.plan.body then updateHeater s
  else handOver (install (formPlan (updateHeater s)) (updateHeater s))

/-- A resolution where a trigger was given. -/
def resolveIf (trigger : Bool) (s : State) : State := if trigger then resolve s else s

/-- The Shelter auto latch after a raise or clear of Smoke Outside (R30). -/
def setLatch (v : Bool) (s : State) : State := s.setResolver { s.resolver with autoLatch := v }

/-- An event that reaches the Plan Resolver and the Purge Controller, taken in the order given (R25, R89, R124). -/
def shareEvent (turn : Turn) (resolver purge : State → State) (s : State) : State :=
  match turn with
  | .resolverFirst => purge (resolver s)
  | .purgeFirst => resolver (purge s)

/-! ## The reset pin -/

/-- What the part does of itself, left undone while RESETN holds it in reset (R134, R135, R160, log entry 36). -/
def unlessHeld (f : State → State) (s : State) : State := if s.resetHeld then s else f s

/-! ## The clock -/

/-- The clock `n` tenths of a millisecond on (R105). -/
def Clock.advance (c : Clock) (n : Nat) : Clock :=
  ⟨c.ms + BitVec.ofNat 32 ((c.tenths + n) / 10), (c.tenths + n) % 10⟩

/-- A running short timer `n` tenths of a millisecond on (R138). -/
def BlowerState.elapse (b : BlowerState) (n : Nat) : BlowerState :=
  { b with shortTimer := b.shortTimer.map (· + n) }

/-- `n` tenths of a millisecond pass (R105, R138). -/
def elapse (n : Nat) (s : State) : State :=
  (s.setClock (s.clock.advance n)).setBlowers (s.blowers.map (·.elapse n))

/-- The tenths of a millisecond from now to a millisecond count not more than half its range ahead, 0 where it has
passed (log entry 2). -/
def Clock.tenthsTo (c : Clock) (due : BitVec 32) : Nat :=
  if (due - c.ms).toNat < 2 ^ 31 then 10 * (due - c.ms).toNat - c.tenths else 0

/-- The clock brought to a millisecond count (log entry 2). -/
def advanceTo (due : BitVec 32) (s : State) : State := elapse (s.clock.tenthsTo due) s

/-! ## Stations and their downlinks -/

/-- The line of a slot changed. -/
def setLine (n : Station) (l : Line) (s : State) : State :=
  s.setLoop { s.loop with lines := s.loop.lines.set n l }

/-- A cell on the line of a discarded run advances that run no more (R169, R174). -/
def cutRun (n : Station) (k : RunKind) (s : State) : State :=
  match (s.loop.lines.get n).onAir with
  | none => s
  | some a =>
    if a.run = some k then setLine n { s.loop.lines.get n with onAir := some { a with run := none } } s else s

/-- A station's readout buffer discarded (R174). -/
def discardBuffer (n : Station) (s : State) : State :=
  cutRun n .readout (s.setBuffers (s.buffers.set n none))

/-- The Trend Queue emptied, with a run part-way sent (R175, R176). -/
def emptyQueue (s : State) : State :=
  let s' := s.setTrend { s.trend with queue := [], begun := false, sent := 0 }
  match s.trend.hold with
  | none => s'
  | some h => cutRun h.station .stream s'

/-- Whether a station holds the trend stream (R175). -/
def State.holdsStream (s : State) (n : Station) : Bool :=
  s.trend.hold.any fun h => decide (h.station = n)

/-- The trend stream released where the station holds it (R176). -/
def releaseStream (n : Station) (s : State) : State :=
  if s.holdsStream n then (emptyQueue s).setTrend { (emptyQueue s).trend with hold := none } else s

/-- A station's Detached indication (R175, R176). -/
def setDetached (n : Station) (v : Bool) (s : State) : State := s.setDetached (s.detached.set n v)

/-- All six marks of a station set (R179). -/
def markStation (n : Station) (s : State) : State := s.setMarks (s.marks.set n Marks.all)

/-- The entries of a station removed, the order of the rest kept (R6, R19). -/
def removeEntries (n : Station) (s : State) : State :=
  s.setTable (s.table.filter fun e => decide (e.station ≠ n))

/-- The number of entries of a station. -/
def State.entriesOf (s : State) (n : Station) : Nat :=
  (s.table.filter fun e => decide (e.station = n)).length

/-- A station's entries brought to Held or Active (R4, R5). -/
def holdEntries (n : Station) (held : Bool) (s : State) : State :=
  s.setTable (s.table.map fun e => if e.station = n then { e with held := held } else e)

/-- A station's supervision record changed. -/
def setStation (n : Station) (r : StationState) (s : State) : State :=
  s.setStations (s.stations.set n r)

end Sys2Proof.Machine
end

