-- ==== Sys2Proof/Machine/Blowers.lean ====
section
/-! DEFINITION. The Blower Drives in the whole part (chapter 8): an event at the blowers with its mark and Motor
Fault, the work of a Frame Mark, and the blower rows. -/

namespace Sys2Proof.Machine

/-- Some blower is Latched (R144). -/
def State.anyLatched (s : State) : Bool := Blower.all.any fun b => decide ((s.blowers.get b).protection = .latched)

/-- Motor Fault brought up to date (R144). -/
def updateMotorFault (s : State) : State := setCondition .motorFault s.anyLatched s

/-- An event at the blowers: their new records, the Movers mark where one reports, Motor Fault, and its trigger (R144,
R147). -/
def blowerEvent (bs : PerBlower BlowerState) (s : State) : State :=
  let reported := Blower.all.any fun b => BlowerState.reported (s.blowers.get b) (bs.get b)
  let s' := updateMotorFault (markAllIf reported .movers (s.setBlowers bs))
  resolveIf (decide (s'.conditions ≠ s.conditions)) s'

/-- An event at one blower. -/
def oneBlower (b : Blower) (r : BlowerState) (s : State) : State := blowerEvent (s.blowers.set b r) s

/-- The work of a Frame Mark at the blowers (R137). -/
def markBlowers (s : State) : State :=
  blowerEvent (s.blowers.mapWith fun b r =>
    r.mark s.settings.shortLevel (s.settings.overloadLevel.get b) s.settings.overloadTime) s

/-- A short trip where the timer has reached the Short Time (R138, R146). -/
def BlowerState.shortStep (b : BlowerState) (shortTime : Nat) : BlowerState :=
  if b.protection = .running ∧ (b.shortTimer.any fun t => decide (shortTime ≤ t)) then b.trip .short else b

/-- The tenths of a millisecond left of the Short Time of a running short timer (R138). -/
def BlowerState.shortLeft (b : BlowerState) (shortTime : Nat) : Nat :=
  match b.shortTimer with
  | some t => shortTime - t
  | none => 0

/-- A short trip of a blower: the rest of the Short Time passes, and it trips (R138, log entry 2). -/
def shortTrip (b : Blower) (s : State) : State :=
  let s' := elapse ((s.blowers.get b).shortLeft s.settings.shortTime) s
  oneBlower b ((s'.blowers.get b).shortStep s.settings.shortTime) s'

/-- A new motor current, compared at once (R138, R139), but while RESETN holds the part in reset. -/
def changeCurrent (b : Blower) (current : Nat) (s : State) : State :=
  let r := { s.blowers.get b with current := current }
  s.setBlowers (s.blowers.set b
    (if s.resetHeld then r else r.watch s.settings.shortLevel (s.settings.overloadLevel.get b)))

/-- BLOWER_CURRENT_CHANGE (R138, R139). -/
def execBlowerCurrentChange (b : Blower) (current : Nat) (s : State) : Result := .next (changeCurrent b current s)

/-- SHORT_TRIP (R138). -/
def execShortTrip (b : Blower) (s : State) : Result :=
  if (s.blowers.get b).protection = .running ∧ (s.blowers.get b).shortTimer.isSome then .next (shortTrip b s)
  else .next s

/-- OVERLOAD_TRIP (R139). -/
def execOverloadTrip (b : Blower) (s : State) : Result :=
  .next (oneBlower b ((s.blowers.get b).overloadStep s.settings.overloadTime) s)

/-- COOLDOWN_END (R141). -/
def execCooldownEnd (b : Blower) (s : State) : Result :=
  .next (oneBlower b ((s.blowers.get b).cooldownStep s.settings.shortLevel (s.settings.overloadLevel.get b)) s)

/-- TRIP_WINDOW_EXPIRY (R142). -/
def execTripWindowExpiry (b : Blower) (s : State) : Result :=
  .next (oneBlower b (s.blowers.get b).windowStep s)

end Sys2Proof.Machine
end

