-- ==== Sys2Proof/Machine/PurgeControl.lean ====
section
/-! DEFINITION. The Purge Controller (chapter 4): starts, widening, phase moves, limits, ends, the Air-Change Counter,
and the four limit rows. The requests PURGE and PURGE_CANCEL come to it from PurgeRequests.lean. -/

namespace Sys2Proof.Machine

/-! ## Doors and targets -/

/-- Whether a door in the scope of the purge is open, in given doors (R72). -/
def State.scopeOpenIn (s : State) (doors : PerDoor Bool) : Bool :=
  Door.all.any fun d =>
    doors.get d && (s.purge.scope.any fun sc => sc.coversDoor (s.settings.doorMap.get d))

/-- Whether a door in the scope of the purge is open in the record (R72). -/
def State.scopeOpen (s : State) : Bool := s.scopeOpenIn s.vehicle.record.doors

/-- The volume of a scope in litres (R71). -/
def purgeVolume (g : Settings) : PurgeScope → Nat
  | .rear => g.rearVolume
  | .whole => g.frontVolume + g.rearVolume

/-- The target of a purge in litres (R71). -/
def purgeTarget (g : Settings) (sc : PurgeScope) : Nat := min 65535 (g.purgeChanges * purgeVolume g sc)

/-- The value Intake Flow shows (R85, R88). -/
def State.flowShown (s : State) : Option Int := (s.channel .intakeFlow).shown

/-! ## Events of the purge -/

/-- A step of the Purge Controller with what each change of its phase or scope gives: the Purge mark and one trigger
(R32, R79, R90). -/
def purgeEvent (f : State → State) (s : State) : State :=
  if (f s).purge.phase = s.purge.phase ∧ (f s).purge.scope = s.purge.scope then f s
  else resolve (markAll .purge (f s))

/-- Whether a result is an abort (R84). -/
def PurgeResult.aborted : PurgeResult → Bool
  | .abortedDoors => true
  | .abortedSmoke => true
  | .abortedTime => true
  | .none => false
  | .done => false
  | .doneTimed => false
  | .cancelled => false

/-- The last-result record of a purge that ends (R83). -/
def State.purgeRecord (s : State) (r : PurgeResult) : LastResult where
  result := r
  scope := s.purge.scope
  originator := s.purge.originator
  litres := s.purge.litres
  flushingSeconds := s.purge.flushing / 100
  deferredSeconds := s.purge.deferred / 100
  shelter := s.plan.body.shelter

/-- The end of a purge, steps 1 to 3 (R82, R84). -/
def endPurge (r : PurgeResult) (s : State) : State :=
  (if r.aborted then setCondition .purgeIncomplete true s else s).setPurge (Purge.idleWith (s.purgeRecord r))

/-- A purge in Flushing without a flow value ends where the flushing time has met the Fallback Flush (R88). -/
def fallbackTest (s : State) : State :=
  if s.purge.phase = .flushing ∧ s.flowShown = none ∧ 100 * s.settings.fallbackFlush ≤ s.purge.flushing then
    endPurge .doneTimed s
  else s

/-- A phase entered; Armed starts its time from 0 (R77, R78, R79), and Flushing meets the fallback (R88). -/
def enterPhase (p : PurgePhase) (s : State) : State :=
  fallbackTest (s.setPurge { s.purge with phase := p, armed := 0 })

/-- The phase a start or a close of the doors leads to (R74, R77). -/
def State.phaseFor (s : State) : PurgePhase :=
  if s.conditions.heavySmoke then .deferred else if s.scopeOpen then .armed else .flushing

/-- The record of a purge that starts, before its phase is chosen (R74). -/
def startRecord (sc : PurgeScope) (o : Originator) (s : State) : State :=
  s.setPurge { phase := .idle, scope := some sc, originator := some o, target := some (purgeTarget s.settings sc),
               litres := 0, remainder := 0, flushing := 0, deferred := 0, armed := 0, last := s.purge.last }

/-- A purge starts from Idle (R74, R84). -/
def startPurge (sc : PurgeScope) (o : Originator) (s : State) : State :=
  let s' := startRecord sc o (setCondition .purgeIncomplete false s)
  enterPhase s'.phaseFor s'

/-- A purge widened to Whole (R76). -/
def widenPurge (s : State) : State :=
  s.setPurge { s.purge with scope := some .whole, target := some (purgeTarget s.settings .whole) }

/-- A change of the doors, seen from the doors before it (R72, R77, R78, R79). -/
def purgeDoors (before : PerDoor Bool) (s : State) : State :=
  match s.purge.phase with
  | .armed => if s.scopeOpenIn before && !s.scopeOpen then enterPhase s.phaseFor s else s
  | .flushing => if !s.scopeOpenIn before && s.scopeOpen then enterPhase .armed s else s
  | .deferred => s
  | .idle => s

/-- A raise or clear of Heavy Smoke (R77, R78, R79). -/
def purgeHeavy (s : State) : State :=
  match s.purge.phase with
  | .flushing => if s.conditions.heavySmoke then enterPhase .deferred s else s
  | .deferred => if s.conditions.heavySmoke then s else enterPhase s.phaseFor s
  | .armed => s
  | .idle => s

/-- A Crew Return (R75). -/
def crewReturn (s : State) : State :=
  if s.purge.phase = .idle ∧ s.settings.autoPurge = true then startPurge .rear .auto s else s

/-! ## Time limits -/

/-- The armed time has reached its limit (R80). -/
def armedLimit (s : State) : State :=
  if s.purge.phase = .armed ∧ 30000 ≤ s.purge.armed then endPurge .abortedDoors s else s

/-- The deferred time has reached its limit (R80). -/
def deferredLimit (s : State) : State :=
  if s.purge.phase = .deferred ∧ 90000 ≤ s.purge.deferred then endPurge .abortedSmoke s else s

/-- The flushing time has reached its limit (R80, test 2). -/
def flushingLimit (s : State) : State :=
  if s.purge.phase = .flushing ∧ 60000 ≤ s.purge.flushing then endPurge .abortedTime s else s

/-- The timer of the present phase one frame on (R80). -/
def Purge.tick (p : Purge) : Purge :=
  match p.phase with
  | .armed => { p with armed := p.armed + 1 }
  | .deferred => { p with deferred := p.deferred + 1 }
  | .flushing => { p with flushing := p.flushing + 1 }
  | .idle => p

/-- The limits in the order of R80. -/
def purgeLimits (s : State) : State := flushingLimit (fallbackTest (deferredLimit (armedLimit s)))

/-- The work of a Frame Mark at the Purge Controller (R80). -/
def markPurge (s : State) : State :=
  purgeEvent purgeLimits (s.setPurge s.purge.tick)

/-! ## The Air-Change Counter -/

/-- The interval of a sample in ms: 0 without an earlier conversion, else the difference capped at 100 (R86). -/
def sampleInterval (previous : Option (BitVec 32)) (time : BitVec 32) : Nat :=
  match previous with
  | none => 0
  | some p => min 100 (time - p).toNat

/-- The units of a sample, in 0.1 mL (R85, steps 1 and 2). -/
def flowUnits (q : Int) (dt : Nat) : Nat := q.toNat * dt

/-- The count after a sample (R85, steps 3 to 5). -/
def Purge.count (p : Purge) (units : Nat) : Purge :=
  { p with
    litres := min 65535 (p.litres + (p.remainder + units) / 10000)
    remainder := (p.remainder + units) % 10000 }

/-- The purge has reached its target (R87). -/
def Purge.reached (p : Purge) : Bool := p.target.any fun t => decide (t ≤ p.litres)

/-- A counted sample and the test of the target (R85, R87). -/
def countSample (units : Nat) (s : State) : State :=
  if (s.purge.count units).reached then endPurge .done (s.setPurge (s.purge.count units))
  else s.setPurge (s.purge.count units)

/-- The end of an Intake Flow conversion, with the sample time before it (R85 to R88). -/
def flowSample (previous : Option (BitVec 32)) (time : BitVec 32) (s : State) : State :=
  if s.purge.phase = .flushing then
    match s.flowShown with
    | some q => countSample (flowUnits q (sampleInterval previous time)) s
    | none => fallbackTest s
  else s

/-! ## The limit rows -/

/-- PURGE_ARMED_LIMIT (R80). -/
def execPurgeArmedLimit (s : State) : Result := .next (purgeEvent armedLimit s)

/-- PURGE_DEFERRED_LIMIT (R80). -/
def execPurgeDeferredLimit (s : State) : Result := .next (purgeEvent deferredLimit s)

/-- PURGE_FLUSHING_LIMIT (R80): test 2, which is made only where test 1 gives no end. -/
def execPurgeFlushingLimit (s : State) : Result := .next (purgeEvent (fun t => flushingLimit (fallbackTest t)) s)

/-- FALLBACK_FLUSH_EXPIRY (R88). -/
def execFallbackFlushExpiry (s : State) : Result := .next (purgeEvent fallbackTest s)

end Sys2Proof.Machine
end

