-- ==== Sys2Proof/Machine/VehicleState.lean ====
section
/-! DEFINITION. Vehicle State (chapter 5): the view of the Vehicle-class station, forced closes, the report, the door
timers, Crew Return, and the handing on of a changed record. -/

namespace Sys2Proof.Machine

/-- The enabled slot of Vehicle class (R96); R1 allows at most one. -/
def State.vehicleStation (s : State) : Option Station :=
  Station.all.find? fun n => (s.slot n).enabled && decide ((s.slot n).cls = .vehicle)

/-- The state of the Vehicle-class station, none where no enabled slot has the class (R96). -/
def State.vehicleView (s : State) : Option StationMode := s.vehicleStation.map s.modeOf

/-- A vehicle with every door taken closed, its timers idle unread (R97). -/
def Vehicle.forceClose (v : Vehicle) : Vehicle :=
  { v with record := { v.record with doors := PerDoor.ofFn fun _ => false }
           timers := PerDoor.ofFn fun _ => none }

/-- A vehicle with its verification changed. -/
def Vehicle.verify (v : Vehicle) (b : Bool) : Vehicle := { v with record := { v.record with verified := b } }

/-- The vehicle brought into line with the state of the Vehicle-class station (R96, R97). -/
def Vehicle.follow (v : Vehicle) (view : Option StationMode) : Vehicle :=
  match view with
  | some .live => v.verify true
  | some .quiet => v.verify false
  | some .lost => (v.verify false).forceClose
  | some .absent => (v.verify false).forceClose
  | some .disabled => (v.verify false).forceClose
  | none => (v.verify false).forceClose

/-- A changed vehicle taken into the state, with the Vehicle mark and Vehicle Unverified (R98, R99). -/
def putVehicle (v : Vehicle) (s : State) : State :=
  setCondition .vehicleUnverified (!v.record.verified) (markAll .vehicle (s.setVehicle v))

/-- The doors handed to the Hold Regulator (R54, R99). -/
def handDoors (s : State) : State :=
  withRegulator (s.reg.takeDoors s.doorOpen s.pressureAvailable s.settings.doorLevel) s

/-- The door changes and a Crew Return at the Purge Controller (R75, R77, R78, R102). The Crew Return is taken on the
phase at the report, as the table of R102 gives it (log entry 33). -/
def handPurge (before : PerDoor Bool) (crew : Bool) (s : State) : State :=
  purgeEvent (fun t => purgeDoors before (if crew then crewReturn t else t)) s

/-- A vehicle brought up to date in one event and handed on (R99, R102): `trigger` where the same event changed the
Request Table, `crew` where it is a Crew Return. The plan reaches the Hold Regulator before the doors exactly where
the resolver is first (R62, log entry 6). -/
def handOnVehicle (turn : Turn) (trigger crew : Bool) (v : Vehicle) (s : State) : State :=
  if v.record = s.vehicle.record then resolveIf trigger (s.setVehicle v)
  else
    shareEvent turn resolve (fun t => handPurge s.vehicle.record.doors crew (handDoors t)) (putVehicle v s)

/-- The end of an event that may have changed the Vehicle-class station, from the state `before` it (R96, R99). -/
def settleVehicle (turn : Turn) (trigger : Bool) (before s : State) : State :=
  if s.vehicleView = before.vehicleView then resolveIf trigger s
  else handOnVehicle turn trigger false (s.vehicle.follow s.vehicleView) s

/-! ## The report -/

/-- The door fields of a report as the record takes them (R94, step 2). -/
def reportedDoors (g : Settings) (doors : Word) : PerDoor Bool :=
  PerDoor.ofFn fun d => doors.getLsbD (d.num - 1) && decide (g.doorMap.get d ≠ .unused)

/-- The record after a report (R94, steps 1 to 3). -/
def reportedRecord (g : Settings) (fields doors : Word) : VehicleRecord where
  ignition := fields.getLsbD 0
  engine := fields.getLsbD 1
  pump := fields.getLsbD 2
  brake := fields.getLsbD 3
  doors := reportedDoors g doors
  verified := true

/-- An open timer after a report (R100). -/
def reportedTimer (was now : Bool) (t : Option Nat) : Option Nat :=
  if now then (if was then t else some 0) else none

/-- A report closes a Rear door whose timer had reached the Return Time (R101, condition 1). -/
def State.closesReturn (s : State) (doors : PerDoor Bool) : Bool :=
  Door.all.any fun d =>
    decide (s.settings.doorMap.get d = .rear) && s.vehicle.record.doors.get d && !doors.get d &&
      ((s.vehicle.timers.get d).any fun t => decide (100 * s.settings.returnTime ≤ t))

/-- Every door mapped Rear is closed (R101, condition 2). -/
def rearClosed (g : Settings) (doors : PerDoor Bool) : Bool :=
  Door.all.all fun d => decide (g.doorMap.get d ≠ .rear) || !doors.get d

/-- A report gives a Crew Return (R101). -/
def State.crewReturnAt (s : State) (r : VehicleRecord) : Bool :=
  s.closesReturn r.doors && rearClosed s.settings r.doors && decide (s.plan.body.shelter ≠ .inactive) && r.verified

/-- The vehicle after a report (R94, R100, R102). -/
def State.reportedVehicle (s : State) (r : VehicleRecord) : Vehicle where
  record := r
  timers := PerDoor.ofFn fun d => reportedTimer (s.vehicle.record.doors.get d) (r.doors.get d) (s.vehicle.timers.get d)
  crewReturns := if s.crewReturnAt r then s.vehicle.crewReturns + 1#8 else s.vehicle.crewReturns

/-- The vehicle fields in the bits of a report's word 0 (R166). -/
def VehicleRecord.fieldsWord (r : VehicleRecord) : Nat :=
  bitAt 0 r.ignition + bitAt 1 r.engine + bitAt 2 r.pump + bitAt 3 r.brake

/-- The doors in the bits of a report's word 1 (R166). -/
def VehicleRecord.doorsWord (r : VehicleRecord) : Nat :=
  (Door.all.map fun d => bitAt (d.num - 1) (r.doors.get d)).sum

/-- A report taken (R94, R99, R102). -/
def takeReport (fields doors : Word) (turn : Turn) (trigger : Bool) (s : State) : State :=
  handOnVehicle turn trigger (s.crewReturnAt (reportedRecord s.settings fields doors))
    (s.reportedVehicle (reportedRecord s.settings fields doors)) s

/-- The Answer to a report (R94, R168). -/
def State.reportAnswer (s : State) : Answer :=
  ⟨.done, Word.ofNat s.vehicle.record.fieldsWord, Word.ofNat s.vehicle.record.doorsWord, 0#16⟩

/-! ## The door timers -/

/-- The open timers one frame on, saturating at 6000 (R100). -/
def tickDoors (s : State) : State :=
  s.setVehicle { s.vehicle with timers := s.vehicle.timers.map (tickTimerTo 6000) }

end Sys2Proof.Machine
end

