-- ==== Sys2Proof/Machine/Supervision.lean ====
section
/-! DEFINITION. Station Supervision and the taking of a cell (sections 1.1 to 1.3): the refresh of R4, the moves of R5
and R6 at a Frame Mark, the kind and class checks of R2, and the rows STATION_QUIET, STATION_LOST, IDLE, UNKNOWN_KIND
and STATION_RESTART. -/

namespace Sys2Proof.Machine

/-! ## The arrival of a valid cell -/

/-- A station refreshed by a valid cell, with the state it held before (R4). -/
def refresh (n : Station) (s : State) : State :=
  match s.modeOf n with
  | .disabled => s
  | .live => setStation n ⟨.live, 0⟩ s
  | .quiet => holdEntries n false (setStation n ⟨.live, 0⟩ s)
  | .absent => markStation n (setStation n ⟨.live, 0⟩ s)
  | .lost => markStation n (setStation n ⟨.live, 0⟩ s)

/-- The refresh with its trigger and its change of verification: one event (R4, R96, R99). -/
def arrive (n : Station) (s : State) : State :=
  settleVehicle .resolverFirst (decide (s.modeOf n = .quiet)) s (refresh n s)

/-! ## Quiet and Lost -/

/-- The silence count of a Live or Quiet station one frame on (R3). -/
def StationState.advance (r : StationState) : StationState :=
  match r.mode with
  | .live => { r with silence := r.silence + 1 }
  | .quiet => { r with silence := r.silence + 1 }
  | .disabled => r
  | .absent => r
  | .lost => r

/-- A Live station has met the Quiet Window (R5). -/
def State.quietDue (s : State) (n : Station) : Bool :=
  decide (s.modeOf n = .live) && decide (s.settings.quietWindow ≤ (s.stations.get n).silence)

/-- A Quiet station has met the Lost Window (R6). -/
def State.lostDue (s : State) (n : Station) : Bool :=
  decide (s.modeOf n = .quiet) && decide (s.settings.lostWindow ≤ (s.stations.get n).silence)

/-- The entry to Quiet (R5). -/
def enterQuiet (n : Station) (s : State) : State :=
  holdEntries n true (setStation n { s.stations.get n with mode := .quiet } s)

/-- What a station loses at its entry to Lost, at its disabling and at its restart (R6, R8, R9). -/
def dropStation (n : Station) (s : State) : State :=
  releaseStream n (discardBuffer n (removeEntries n s))

/-- The entry to Lost (R6). -/
def enterLost (n : Station) (s : State) : State :=
  dropStation n (setStation n ⟨.lost, 0⟩ s)

/-- The entry to Quiet where it is due. -/
def quietStep (n : Station) (s : State) : State := if s.quietDue n then enterQuiet n s else s

/-- The entry to Lost where it is due. -/
def lostStep (n : Station) (s : State) : State := if s.lostDue n then enterLost n s else s

/-- R5 at one station. Where R6 takes the station on at the same mark, the one trigger and the change of the vehicle
come with its entry to Lost (R6, log entry 7). -/
def quietOne (turn : Turn) (s : State) (n : Station) : State :=
  if (quietStep n s).lostDue n then quietStep n s else settleVehicle turn (s.quietDue n) s (quietStep n s)

/-- R6 at one station. -/
def lostOne (turn : Turn) (s : State) (n : Station) : State :=
  settleVehicle turn (s.lostDue n) s (lostStep n s)

/-- Every silence count one frame on (R3). -/
def advanceCounts (s : State) : State := s.setStations (s.stations.map StationState.advance)

/-- The work of a Frame Mark at Station Supervision: the counts, then R5 at every station, then R6 at every station
(R3, R5, R6). -/
def superviseMark (turn : Turn) (s : State) : State :=
  Station.all.foldl (lostOne turn) (Station.all.foldl (quietOne turn) (advanceCounts s))

/-! ## The taking of a cell -/

/-- The class permissions of R2 that several kinds share. -/
inductive Permission where
  | anyClass
  | panelOrService
  | vehicleOnly
  | serviceOnly
  deriving DecidableEq, Repr

/-- Whether a class may send a kind (R2). -/
def Permission.allows : Permission → StationClass → Bool
  | .anyClass, _ => true
  | .panelOrService, .vehicle => false
  | .panelOrService, _ => true
  | .vehicleOnly, .vehicle => true
  | .vehicleOnly, _ => false
  | .serviceOnly, .service => true
  | .serviceOnly, _ => false

/-- A cell of the slot can be taken: the slot is in the plan of the frame, was not disabled in it, its station is not
Disabled (R162, R163), and the part is not held in reset (log entry 36). -/
def State.receives (s : State) (n : Station) : Bool :=
  decide (n ∈ s.loop.slotPlan) && !(s.loop.lines.get n).cut && decide (s.modeOf n ≠ .disabled) && !s.resetHeld

/-- What the slot's window has held (R165). -/
def setWindow (n : Station) (w : Window) (s : State) : State :=
  setLine n { s.loop.lines.get n with window := w } s

/-- A request handled by its own rules: the state after it, and its Answer. -/
structure Served where
  state : State
  answer : Answer

/-- A request refused: nothing is changed (R2, R168). -/
def Served.refuse (c : AnswerCode) (s : State) : Served := ⟨s, Answer.refuse c⟩

/-- A refreshed station's request: the class check of R2, then the kind's own rules, and the Answer kept for the
slot's downlink. A request refused Class does nothing more, by R2, so a Join or Leave Stream so refused does not come to
R175 or R176 and keeps the Detached indication, whose clearing R170 lays to its arrival (DESIGN CHOICE, log entry
35). -/
def serveCell (n : Station) (kind : Byte) (perm : Permission) (serve : State → Served) (s : State) : State :=
  if perm.allows (s.slot n).cls then
    setWindow n (.taken kind (some (serve s).answer)) (serve s).state
  else setWindow n (.taken kind (some (Answer.refuse .cls))) s

/-- A valid cell of a known kind but Idle taken in slot `n` (R2, R4, R165). -/
def takeCell (n : Station) (kind : Byte) (perm : Permission) (serve : State → Served) (s : State) : State :=
  if s.receives n then serveCell n kind perm serve (arrive n s) else s

/-- A valid Idle cell taken (R4). -/
def takeIdle (n : Station) (s : State) : State :=
  if s.receives n then setWindow n (.taken 0x00#8 none) (arrive n s) else s

/-- A valid cell of a kind code that names no kind taken (R2). -/
def takeUnknown (n : Station) (kind : Byte) (s : State) : State :=
  if s.receives n then setWindow n (.taken kind (some (Answer.refuse .unknown))) (arrive n s) else s

/-! ## Station Restart -/

/-- Station Restart (R8). -/
def serveRestart (n : Station) (s : State) : Served :=
  ⟨resolveIf (decide (0 < s.entriesOf n)) (markStation n (setDetached n false (dropStation n s))),
   ⟨.done, 0#16, 0#16, 0#16⟩⟩

/-- A Station Restart cell taken. -/
def takeRestart (n : Station) : State → State := takeCell n 0x11#8 .anyClass (serveRestart n)

/-! ## The rows -/

/-- STATION_QUIET (R5). -/
def execStationQuiet (n : Station) (s : State) : Result :=
  .next (settleVehicle .resolverFirst (s.quietDue n) s (quietStep n s))

/-- STATION_LOST (R6). -/
def execStationLost (n : Station) (turn : Turn) (s : State) : Result := .next (lostOne turn s n)

/-- IDLE (R4). -/
def execIdle (n : Station) (s : State) : Result := .next (takeIdle n s)

/-- STATION_RESTART (R8). -/
def execStationRestart (n : Station) (s : State) : Result := .next (takeRestart n s)

end Sys2Proof.Machine
end

