-- ==== Sys2Proof/Machine/Actuators.lean ====
section
/-! DEFINITION. The Actuator Drives in the whole part (chapter 9): an event at the actuators with its mark and Actuator
Stuck, the work of a Frame Mark, the actuator rows, and CLEAR_LATCHES, which serves both drives. -/

namespace Sys2Proof.Machine

/-- Some actuator is Stuck (R156). -/
def State.anyStuck (s : State) : Bool := ActuatorId.all.any fun a => decide ((s.actuators.get a).motion = .stuck)

/-- Actuator Stuck brought up to date (R156). -/
def updateActuatorStuck (s : State) : State := setCondition .actuatorStuck s.anyStuck s

/-- An event at the actuators: their new records, the Movers mark where one reports, Actuator Stuck, and its trigger
(R156, R159). -/
def actuatorEvent (as : PerActuator ActuatorState) (s : State) : State :=
  let reported := ActuatorId.all.any fun a => ActuatorState.reported (s.actuators.get a) (as.get a)
  let s' := updateActuatorStuck (markAllIf reported .movers (s.setActuators as))
  resolveIf (decide (s'.conditions ≠ s.conditions)) s'

/-- An event at one actuator. -/
def oneActuator (a : ActuatorId) (r : ActuatorState) (s : State) : State := actuatorEvent (s.actuators.set a r) s

/-- The work of a Frame Mark at the actuators, with the readings taken at it (R149, R150, R152 to R154). -/
def markActuators (feedback : PerActuator Nat) (s : State) : State :=
  actuatorEvent (s.actuators.mapWith fun a r =>
    r.mark (feedback.get a) (s.settings.closedEnd.get a) (s.settings.openEnd.get a)) s

/-! ## Clear Latches -/

/-- The number of Latched blowers (R143). -/
def State.latchedCount (s : State) : Nat :=
  (Blower.all.filter fun b => decide ((s.blowers.get b).protection = .latched)).length

/-- The number of Stuck actuators (R155). -/
def State.stuckCount (s : State) : Nat :=
  (ActuatorId.all.filter fun a => decide ((s.actuators.get a).motion = .stuck)).length

/-- Every Latched blower and every Stuck actuator cleared (R143, R155). -/
def clearMovers (s : State) : State :=
  (s.setBlowers (s.blowers.mapWith fun b r =>
    r.clearLatch s.settings.shortLevel (s.settings.overloadLevel.get b))).setActuators
    (s.actuators.map ActuatorState.clearStuck)

/-- The clearing with its mark, its conditions and their one trigger (R143, R144, R155, R156). -/
def clearLatches (s : State) : State :=
  let s' := updateActuatorStuck (updateMotorFault
    (markAllIf (decide (0 < s.latchedCount + s.stuckCount)) .movers (clearMovers s)))
  resolveIf (decide (s'.conditions ≠ s.conditions)) s'

/-- Clear Latches (R143, R155). -/
def serveClearLatches (n : Station) (s : State) : Served :=
  if (s.slot n).rank < 4 then Served.refuse .denied s
  else ⟨clearLatches s, ⟨.done, Word.ofNat s.latchedCount, Word.ofNat s.stuckCount, 0#16⟩⟩

/-- A Clear Latches cell taken. -/
def takeClearLatches (n : Station) : State → State :=
  takeCell n 0x0A#8 .panelOrService (serveClearLatches n)

/-! ## The rows -/

/-- CLEAR_LATCHES (R143, R155). -/
def execClearLatches (n : Station) (s : State) : Result := .next (takeClearLatches n s)

/-- ACTUATOR_STALL (R152). -/
def execActuatorStall (a : ActuatorId) (s : State) : Result :=
  .next (oneActuator a (s.actuators.get a).stallStep s)

/-- REVERSAL_END (R153). -/
def execReversalEnd (a : ActuatorId) (s : State) : Result :=
  .next (oneActuator a (s.actuators.get a).reversalStep s)

/-- STALL_WAIT_END (R154). -/
def execStallWaitEnd (a : ActuatorId) (s : State) : Result :=
  .next (oneActuator a (s.actuators.get a).waitStep s)

end Sys2Proof.Machine
end

