-- ==== Sys2Proof/Machine/PurgeRequests.lean ====
section
/-! DEFINITION. The requests PURGE and PURGE_CANCEL (R73, R76, R81), and VEHICLE_REPORT as a cell (R94). -/

namespace Sys2Proof.Machine

/-- The Answer to a Purge request (R73, R168). -/
def State.purgeAnswer (s : State) : Answer :=
  ⟨.done, Word.ofNat s.purge.phase.code, Word.ofNat (PurgeScope.code s.purge.scope),
   Word.ofNat (s.purge.target.getD 0)⟩

/-- What an accepted Purge request does (R73). -/
def requestPurge (n : Station) (sc : PurgeScope) (s : State) : State :=
  if s.purge.phase = .idle then startPurge sc (.station n) s
  else if s.purge.scope = some .rear ∧ sc = .whole then widenPurge s
  else s

/-- Purge (R73, R74, R76). -/
def servePurge (n : Station) (scope : Word) (s : State) : Served :=
  match PurgeScope.ofCode scope with
  | none => Served.refuse .range s
  | some sc =>
    if (s.slot n).scope.coversPurge sc then
      ⟨purgeEvent (requestPurge n sc) s, (purgeEvent (requestPurge n sc) s).purgeAnswer⟩
    else Served.refuse .scope s

/-- The sender may cancel the purge under way (R81). -/
def State.mayCancel (s : State) (n : Station) : Bool :=
  match s.purge.originator with
  | some (.station m) => decide (n = m) || decide ((s.slot m).rank ≤ (s.slot n).rank)
  | some .auto => decide (4 ≤ (s.slot n).rank)
  | none => decide (4 ≤ (s.slot n).rank)

/-- Purge Cancel (R81). -/
def serveCancel (n : Station) (s : State) : Served :=
  if s.purge.phase = .idle then ⟨s, ⟨.done, 0#16, 0#16, 0#16⟩⟩
  else if s.mayCancel n then
    ⟨purgeEvent (endPurge .cancelled) s, ⟨.done, 0#16, Word.ofNat PurgeResult.cancelled.code, 0#16⟩⟩
  else Served.refuse .denied s

/-- A Purge cell taken. -/
def takePurge (n : Station) (scope : Word) : State → State :=
  takeCell n 0x07#8 .panelOrService (servePurge n scope)

/-- A Purge Cancel cell taken. -/
def takeCancel (n : Station) : State → State :=
  takeCell n 0x08#8 .panelOrService (serveCancel n)

/-- A report from the Vehicle-class station, refreshed and taken in one event (R94, R99). -/
def serveReport (n : Station) (fields doors : Word) (turn : Turn) (s : State) : State :=
  let s' := takeReport fields doors turn (decide (s.modeOf n = .quiet)) (refresh n s)
  setWindow n (.taken 0x0E#8 (some s'.reportAnswer)) s'

/-- A Vehicle Report cell taken; from another class it is answered Class (R2, R94). -/
def takeVehicleReport (n : Station) (fields doors : Word) (turn : Turn) (s : State) : State :=
  if s.receives n then
    if Permission.vehicleOnly.allows (s.slot n).cls then serveReport n fields doors turn s
    else setWindow n (.taken 0x0E#8 (some (Answer.refuse .cls))) (arrive n s)
  else s

/-- PURGE (R73). -/
def execPurge (n : Station) (scope : Word) (s : State) : Result := .next (takePurge n scope s)

/-- PURGE_CANCEL (R81). -/
def execPurgeCancel (n : Station) (s : State) : Result := .next (takeCancel n s)

/-- VEHICLE_REPORT (R94). -/
def execVehicleReport (n : Station) (fields doors : Word) (turn : Turn) (s : State) : Result :=
  .next (takeVehicleReport n fields doors turn s)

end Sys2Proof.Machine
end

