-- ==== Sys2Proof/Machine/RecordSpace.lean ====
section
/-! DEFINITION. The Record Space of 362 words as a function of the state (R172), the 160 place words of the settings
(section 12.4) and their check word (R180). -/

namespace Sys2Proof.Machine

/-! ## The place words of the settings -/

/-- A place with no setting. -/
def emptyPlaces (n : Nat) : List Word := List.replicate n 0#16

/-- The packed word of a slot (section 12.4). -/
def slotWord (t : SlotSettings) : Word :=
  Word.ofNat (bitAt 0 t.enabled + t.cls.code * 2 + t.rank * 16 + t.scope.code * 256)

/-- The packed word of a scan list position (section 12.4). -/
def scanWord (e : ScanEntry) : Word :=
  Word.ofNat (e.channel.num + e.timeClass * 16 + e.divider * 256)

/-- Places 0 to 15: windows, Release Rank and slots. -/
def stationPlaces (g : Settings) : List Word :=
  [Word.ofNat g.quietWindow, Word.ofNat g.lostWindow, Word.ofNat g.releaseRank, 0#16] ++ g.slots.toList.map slotWord ++
    emptyPlaces 4

/-- Places 16 to 31: the settings of the plan and of the regulator. -/
def planPlaces (g : Settings) : List Word :=
  [Word.ofInt g.defaultSetpoint, Word.ofNat (bitAt 0 g.autoShelter), Word.ofNat (bitAt 0 g.shelterOnPump),
   Word.ofNat g.shelterTarget, Word.ofNat g.shelterBase, Word.ofNat g.shelterFloor, Word.ofNat g.freshTarget,
   Word.ofNat g.freshBase, Word.ofNat g.freshFloor, 0#16, 0#16, 0#16, Word.ofNat g.kp, Word.ofNat g.ki,
   Word.ofNat g.doorLevel, 0#16]

/-- Places 32 to 47: the purge, the door map and the Return Time. -/
def purgePlaces (g : Settings) : List Word :=
  [Word.ofNat g.frontVolume, Word.ofNat g.rearVolume, Word.ofNat g.purgeChanges, Word.ofNat (bitAt 0 g.autoPurge),
   Word.ofNat g.fallbackFlush, 0#16, 0#16, 0#16] ++ g.doorMap.toList.map (fun z => Word.ofNat z.code) ++
    [Word.ofNat g.returnTime, 0#16]

/-- Places 48 to 71: the scan list; a record of fewer than twenty positions is filled with 0. -/
def scanPlaces (g : Settings) : List Word :=
  [Word.ofNat g.scanLength] ++ (g.scanPositions.map scanWord ++ emptyPlaces 20).take 20 ++ emptyPlaces 3

/-- Places 72 to 103: gains and offsets. -/
def calibrationPlaces (g : Settings) : List Word :=
  g.gain.toList.map Word.ofInt ++ emptyPlaces 5 ++ g.offset.toList.map Word.ofInt ++ emptyPlaces 5

/-- Places 104 to 119: thresholds and the Alert Mask. -/
def thresholdPlaces (g : Settings) : List Word :=
  [g.thresholds.smokeRaise, g.thresholds.smokeClear, g.thresholds.heavyRaise, g.thresholds.heavyClear,
   g.thresholds.outsideCoRaise, g.thresholds.outsideCoClear, g.thresholds.cabCoRaise, g.thresholds.cabCoClear,
   g.thresholds.filterLimit, g.thresholds.supplyLow, g.thresholds.supplyRecover].map Word.ofNat ++
    [g.alertMask] ++ emptyPlaces 4

/-- Places 120 to 159: blower protection and feedback ends. -/
def drivePlaces (g : Settings) : List Word :=
  [Word.ofNat g.shortLevel, Word.ofNat g.shortTime] ++ g.overloadLevel.toList.map Word.ofNat ++
    [Word.ofNat g.overloadTime, 0#16, 0#16] ++ g.closedEnd.toList.map Word.ofNat ++ emptyPlaces 3 ++
    g.openEnd.toList.map Word.ofNat ++ emptyPlaces 19

end Sys2Proof.Machine

namespace Sys2Proof

/-- The 160 place words of the settings (section 12.4). -/
def Settings.toWords (g : Settings) : List Word :=
  Machine.stationPlaces g ++ Machine.planPlaces g ++ Machine.purgePlaces g ++ Machine.scanPlaces g ++
    Machine.calibrationPlaces g ++ Machine.thresholdPlaces g ++ Machine.drivePlaces g

/-- The check word: the ones' complement of the wrapping sum of the place words (R180). -/
def Settings.checkWord (g : Settings) : Word := ~~~(g.toWords.foldl (· + ·) 0#16)

end Sys2Proof

namespace Sys2Proof.Machine

/-! ## Regions -/

/-- A field shown as 8000 hex where it is absent (R172, Presence). -/
def presentWord (v : Option Int) : Word :=
  match v with
  | none => 0x8000#16
  | some n => Word.ofInt n

/-- The Identity region (R172). -/
def State.identityWords (s : State) : List Word := [0x4846#16, 0x0460#16, 0x0001#16, s.store.shownCheck]

/-- The code of a station state in the Stations region (R172). -/
def StationMode.code : StationMode → Nat
  | .absent => 0
  | .live => 1
  | .quiet => 2
  | .lost => 3
  | .disabled => 4

/-- The Stations region (R172). -/
def State.stationWords (s : State) : List Word :=
  Station.all.flatMap fun n =>
    [slotWord (s.slot n), Word.ofNat ((s.stations.get n).silence + (s.modeOf n).code * 4096)]

/-- The kind code of a demand in the Request Table region (R172). -/
def Demand.kindCode : Demand → Nat
  | .setpoint _ _ => 1
  | .fan _ _ => 2
  | .mode _ => 3
  | .shelter => 4

/-- The zone code of a demand, 0 where it has none (R172). -/
def Demand.zoneCode : Demand → Nat
  | .setpoint z _ => z.code
  | .fan z _ => z.code
  | .mode _ => 0
  | .shelter => 0

/-- The source of a demand's key group in a plan, with Shelter apart (R172). -/
def PlanBody.sourceFor (b : PlanBody) : Demand → Option Station
  | .setpoint .front _ => b.frontSetpointSource
  | .setpoint .rear _ => b.rearSetpointSource
  | .fan .front _ => b.frontFanSource
  | .fan .rear _ => b.rearFanSource
  | .mode _ => b.modeSource
  | .shelter => none

/-- An entry is the winner of its key group, or a Shelter entry, in the plan last installed (R172, log entry 27). -/
def State.entryWins (s : State) (e : Entry) : Bool :=
  decide (e.demand = .shelter) || decide (s.plan.body.sourceFor e.demand = some e.station)

/-- The three words of a place of the Request Table (R172). -/
def State.entryWords (s : State) (e : Entry) : List Word :=
  [Word.ofNat (e.station.num + e.demand.kindCode * 16 + e.demand.zoneCode * 256 + bitAt 12 e.held), e.demand.word,
   Word.ofNat (bitAt 0 (s.entryWins e))]

/-- The Request Table region: 24 places of three words (R172). -/
def State.tableWords (s : State) : List Word := (s.table.flatMap s.entryWords ++ emptyPlaces 72).take 72

/-- The code of the intake mode (R172). -/
def Intake.code : Intake → Nat
  | .off => 0
  | .fixed _ => 1
  | .regulated _ _ _ => 2

/-- The intake level, present under Fixed (R22). -/
def Intake.level : Intake → Option Int
  | .fixed n => some n
  | .off => none
  | .regulated _ _ _ => none

/-- The intake target, present under Regulated (R22). -/
def Intake.target : Intake → Option Int
  | .regulated t _ _ => some t
  | .off => none
  | .fixed _ => none

/-- The intake base, present under Regulated (R22). -/
def Intake.base : Intake → Option Int
  | .regulated _ b _ => some b
  | .off => none
  | .fixed _ => none

/-- The intake floor, present under Regulated (R22). -/
def Intake.floor : Intake → Option Int
  | .regulated _ _ f => some f
  | .off => none
  | .fixed _ => none

/-- Two sources in one word (R172). -/
def sourceWord (front rear : Option Station) : Word := Word.ofNat (stationCode front + stationCode rear * 256)

/-- The shelter word of the Air Plan (R172). -/
def PlanBody.shelterWord (b : PlanBody) : Word :=
  Word.ofNat (b.shelter.code + bitAt 4 b.sourceRequest + bitAt 5 b.sourceAuto + bitAt 6 b.sourcePump)

/-- The limits word of the Air Plan (R172). -/
def PlanBody.limitsWord (b : PlanBody) : Word :=
  Word.ofNat (bitAt 0 b.shed + bitAt 1 b.heaterUnavailable + bitAt 2 b.coFlush + bitAt 3 b.ignitionOff)

/-- The Air Plan region (R172). -/
def Plan.words (p : Plan) : List Word :=
  [p.version, p.body.shelterWord, Word.ofNat (p.body.phase.code + PurgeScope.code p.body.scope * 16),
   Word.ofNat (p.body.cabMode.code + stationCode p.body.modeSource * 256), Word.ofInt p.body.frontSetpoint,
   Word.ofInt p.body.rearSetpoint, sourceWord p.body.frontSetpointSource p.body.rearSetpointSource,
   p.body.frontFan.code, p.body.rearFan.code, sourceWord p.body.frontFanSource p.body.rearFanSource,
   Word.ofNat p.body.frontBlower, Word.ofNat p.body.rearBlower, Word.ofNat p.body.intake.code,
   presentWord p.body.intake.level, presentWord p.body.intake.target, presentWord p.body.intake.base,
   presentWord p.body.intake.floor, Word.ofNat p.body.cap, Word.ofNat p.body.shutter, Word.ofNat p.body.relief,
   Word.ofNat p.body.heaterValve, Word.ofNat p.body.frontMix, Word.ofNat p.body.rearMix, p.body.limitsWord]

/-- The code of a channel status (R172). -/
def ChannelStatus.code : ChannelStatus → Nat
  | .unsampled => 0
  | .fresh => 1
  | .held => 2
  | .failed => 3

/-- The age of a channel in ms, saturating at 32767 (R104). -/
def ChannelRecord.age (r : ChannelRecord) (now : BitVec 32) : Option Int :=
  r.sampleTime.map fun t => ((min 32767 (now - t).toNat : Nat) : Int)

/-- The Cab Air Record region (R172). -/
def State.airWords (s : State) : List Word :=
  s.record.toList.flatMap fun r =>
    [presentWord r.shown, Word.ofNat (r.bad + r.status.code * 4096), presentWord (r.age s.clock.ms)]

/-- The Conditions region (R172). -/
def State.conditionWords (s : State) : List Word := [Word.ofNat s.conditions.word, Word.ofNat (bitAt 0 s.alert)]

/-- The Vehicle Record region (R172). -/
def State.vehicleWords (s : State) : List Word :=
  [Word.ofNat s.vehicle.record.fieldsWord, Word.ofNat s.vehicle.record.doorsWord,
   Word.ofNat (bitAt 0 s.vehicle.record.verified), Word.ofNat s.vehicle.crewReturns.toNat]

/-- The Purge region (R172). -/
def Purge.words (p : Purge) : List Word :=
  [Word.ofNat (p.phase.code + PurgeScope.code p.scope * 16 + Originator.code p.originator * 256),
   Word.ofNat (p.target.getD 0), Word.ofNat p.litres, Word.ofNat p.remainder, Word.ofNat (p.flushing / 10),
   Word.ofNat (p.deferred / 10), Word.ofNat (p.armed / 10),
   Word.ofNat (p.last.result.code + PurgeScope.code p.last.scope * 16 + Originator.code p.last.originator * 256 +
     p.last.shelter.code * 4096),
   Word.ofNat p.last.litres, Word.ofNat p.last.flushingSeconds, Word.ofNat p.last.deferredSeconds]

/-- The code of a hold mode (R172). -/
def HoldMode.code : HoldMode → Nat
  | .off => 0
  | .regulating => 1
  | .doorHold => 2
  | .frozen => 3

/-- The Regulator region (R172). -/
def Regulator.words (r : Regulator) : List Word :=
  [Word.ofNat (r.mode.code + bitAt 4 r.windup), BitVec.extractLsb' 16 16 (BitVec.ofInt 32 r.integral),
   BitVec.extractLsb' 0 16 (BitVec.ofInt 32 r.integral), Word.ofInt r.lastError, Word.ofNat r.output,
   presentWord (r.target.map Int.ofNat)]

/-- The code of a protection state (R172). -/
def Protection.code : Protection → Nat
  | .running => 0
  | .tripped => 1
  | .latched => 2

/-- The code of a trip kind (R172). -/
def TripKind.code : TripKind → Nat
  | .none => 0
  | .short => 1
  | .overload => 2

/-- The three words of a blower (R147, R172). -/
def BlowerState.words (b : BlowerState) : List Word :=
  [Word.ofNat b.target, Word.ofNat b.output,
   Word.ofNat (b.protection.code + b.trips * 16 + b.lastTrip.code * 256)]

/-- The code of a motion state (R172). -/
def Motion.code : Motion → Nat
  | .still => 0
  | .moving => 1
  | .reversing => 2
  | .stalled => 3
  | .stuck => 4

/-- The code of a fault kind (R172). -/
def FaultKind.code : FaultKind → Nat
  | .none => 0
  | .stall => 1
  | .feedback => 2

/-- The three words of an actuator (R159, R172). -/
def ActuatorState.words (a : ActuatorState) : List Word :=
  [Word.ofNat a.target, Word.ofNat a.position,
   Word.ofNat (a.motion.code + bitAt 4 a.retryUsed + a.lastFault.code * 256)]

/-- The Movers region (R172). -/
def State.moverWords (s : State) : List Word :=
  s.blowers.toList.flatMap BlowerState.words ++ s.actuators.toList.flatMap ActuatorState.words

/-- The Record Space (R172). -/
def State.recordSpace (s : State) : List Word :=
  s.identityWords ++ s.stationWords ++ s.tableWords ++ s.plan.words ++ s.airWords ++ s.conditionWords ++
    s.vehicleWords ++ s.purge.words ++ s.reg.words ++ s.moverWords ++ s.settings.toWords

/-- The first word of a group's region and the first word after it (R172, R179). -/
def Group.region : Group → Nat × Nat
  | .plan => (92, 116)
  | .conditions => (155, 157)
  | .purge => (161, 172)
  | .vehicle => (157, 161)
  | .movers => (178, 202)
  | .settings => (202, 362)

end Sys2Proof.Machine
end

