-- ==== Sys2Proof/Machine/Scene.lean ====
section
/-! DEFINITION. The Scene Evaluator (chapter 7): the timing convention of sample-driven conditions and each
condition's judgement of a sample. The handing on of a sample to it stands in ScanSequencer.lean. -/

namespace Sys2Proof.Machine

/-! ## One condition with one pair of timers -/

/-- A Fresh sample judged by a pair of timers (R125, R126): the pair after it and whether the condition is Raised. -/
def judgeFresh (raised : Bool) (t : TimerPair) (forRaise forClear : Bool) (raiseTime clearTime : Nat) :
    TimerPair × Bool :=
  if raised then
    (⟨none, (runTimer t.clear forClear clearTime).1⟩, !(runTimer t.clear forClear clearTime).2)
  else (⟨(runTimer t.raise forRaise raiseTime).1, none⟩, (runTimer t.raise forRaise raiseTime).2)

/-- A sample judged by the status its conversion leaves (R126); `v` is the value of a Fresh one. -/
def judgeSample (r : ChannelRecord) (raised : Bool) (t : TimerPair) (forRaise forClear : Int → Bool)
    (raiseTime clearTime : Nat) : TimerPair × Bool :=
  match r.status with
  | .fresh => judgeFresh raised t (forRaise (r.value.getD 0)) (forClear (r.value.getD 0)) raiseTime clearTime
  | .held => (t, raised)
  | .failed => (TimerPair.idle, raised)
  | .unsampled => (TimerPair.idle, raised)

/-! ## Smoke, outside CO, filter and supply -/

/-- Smoke Outside (R127). -/
def judgeSmoke (s : State) : State :=
  let j := judgeSample (s.channel .outsideSmoke) s.conditions.smokeOutside s.scene.smoke
    (fun v => decide ((s.settings.thresholds.smokeRaise : Int) ≤ v))
    (fun v => decide (v < (s.settings.thresholds.smokeClear : Int))) 200 6000
  setCondition .smokeOutside j.2 (s.setScene { s.scene with smoke := j.1 })

/-- Heavy Smoke (R127). -/
def judgeHeavy (s : State) : State :=
  let j := judgeSample (s.channel .outsideSmoke) s.conditions.heavySmoke s.scene.heavy
    (fun v => decide ((s.settings.thresholds.heavyRaise : Int) ≤ v))
    (fun v => decide (v < (s.settings.thresholds.heavyClear : Int))) 100 1000
  setCondition .heavySmoke j.2 (s.setScene { s.scene with heavy := j.1 })

/-- Outside CO High (R128). -/
def judgeOutsideCo (s : State) : State :=
  let j := judgeSample (s.channel .outsideCo) s.conditions.outsideCoHigh s.scene.outsideCo
    (fun v => decide ((s.settings.thresholds.outsideCoRaise : Int) ≤ v))
    (fun v => decide (v < (s.settings.thresholds.outsideCoClear : Int))) 500 3000
  setCondition .outsideCoHigh j.2 (s.setScene { s.scene with outsideCo := j.1 })

/-- Intake Flow shows 1000 or above (R131). -/
def State.flowStrong (s : State) : Bool :=
  ((s.channel .intakeFlow).shown).any fun q => decide (1000 ≤ q)

/-- Filter Loaded (R131). -/
def judgeFilter (s : State) : State :=
  let j := judgeSample (s.channel .filterDrop) s.conditions.filterLoaded s.scene.filter
    (fun v => s.flowStrong && decide ((s.settings.thresholds.filterLimit : Int) ≤ v))
    (fun v => s.flowStrong && decide (v * 10 < (s.settings.thresholds.filterLimit : Int) * 8)) 3000 3000
  setCondition .filterLoaded j.2 (s.setScene { s.scene with filter := j.1 })

/-- Supply Low (R132). -/
def judgeSupply (s : State) : State :=
  let j := judgeSample (s.channel .supply) s.conditions.supplyLow s.scene.supply
    (fun v => decide (v < (s.settings.thresholds.supplyLow : Int)))
    (fun v => decide ((s.settings.thresholds.supplyRecover : Int) ≤ v)) 200 500
  setCondition .supplyLow j.2 (s.setScene { s.scene with supply := j.1 })

/-! ## Cab CO -/

/-- A clear timer that has reached 3000 frames (R129). -/
def coClearMet (t : TimerPair) : Bool := t.clear.any fun n => decide (3000 ≤ n)

/-- A Fresh sample of one CO channel (R129): its own pair and the other's, and whether Cab CO High is Raised. -/
def judgeCo (raised : Bool) (own other : TimerPair) (forRaise forClear : Bool) : TimerPair × TimerPair × Bool :=
  if raised then
    if forClear then
      if coClearMet own && coClearMet other then (TimerPair.idle, TimerPair.idle, false)
      else (⟨none, some (own.clear.getD 0)⟩, other, true)
    else (TimerPair.idle, other, true)
  else if (runTimer own.raise forRaise 500).2 then (TimerPair.idle, TimerPair.idle, true)
  else (⟨(runTimer own.raise forRaise 500).1, none⟩, other, false)

/-- A sample of one CO channel by the status its conversion leaves (R126, R129). -/
def judgeCoSample (g : Thresholds) (r : ChannelRecord) (raised : Bool) (own other : TimerPair) :
    TimerPair × TimerPair × Bool :=
  match r.status with
  | .fresh =>
    judgeCo raised own other (decide ((g.cabCoRaise : Int) ≤ r.value.getD 0))
      (decide (r.value.getD 0 < (g.cabCoClear : Int)))
  | .held => (own, other, raised)
  | .failed => (TimerPair.idle, other, raised)
  | .unsampled => (TimerPair.idle, other, raised)

/-- Cab CO High with CO Under Seal, which follows it (R129, R130). -/
def putCabCo (front rear : TimerPair) (raised : Bool) (s : State) : State :=
  updateCoUnderSeal (setCondition .cabCoHigh raised (s.setScene { s.scene with frontCo := front, rearCo := rear }))

/-- A Front CO sample (R129). -/
def judgeFrontCo (s : State) : State :=
  let j := judgeCoSample s.settings.thresholds (s.channel .frontCo) s.conditions.cabCoHigh s.scene.frontCo s.scene.rearCo
  putCabCo j.1 j.2.1 j.2.2 s

/-- A Rear CO sample (R129). -/
def judgeRearCo (s : State) : State :=
  let j := judgeCoSample s.settings.thresholds (s.channel .rearCo) s.conditions.cabCoHigh s.scene.rearCo s.scene.frontCo
  putCabCo j.2.1 j.1 j.2.2 s

/-! ## All channels -/

/-- A sample, or a change to Unsampled, taken by the conditions that use its channel (R120, R126). -/
def evaluateScene (c : CalChannel) (s : State) : State :=
  match c with
  | .outsideSmoke => judgeHeavy (judgeSmoke s)
  | .outsideCo => judgeOutsideCo s
  | .frontCo => judgeFrontCo s
  | .rearCo => judgeRearCo s
  | .filterDrop => judgeFilter s
  | .supply => judgeSupply s
  | .cabPressure => s
  | .intakeFlow => s
  | .frontTemp => s
  | .rearTemp => s
  | .coolantTemp => s

/-- A pair of timers one frame on (R125). -/
def TimerPair.tick (t : TimerPair) : TimerPair := ⟨tickTimerTo 65535 t.raise, tickTimerTo 65535 t.clear⟩

/-- Every running timer of the Scene Evaluator one frame on (R125). -/
def SceneTimers.tick (t : SceneTimers) : SceneTimers :=
  ⟨t.smoke.tick, t.heavy.tick, t.outsideCo.tick, t.frontCo.tick, t.rearCo.tick, t.filter.tick, t.supply.tick⟩

end Sys2Proof.Machine
end

