-- ==== Sys2Proof/Machine/ScanSequencer.lean ====
section
/-! DEFINITION. The Scan Sequencer (chapter 6): the walk of the list, the sample's judgement and calibration, its
handing on, the pass ends with the trend capture (R177), and the rows CONVERSION_END, EMPTY_PASS_END and
TREND_CAPTURE. -/

namespace Sys2Proof.Machine

/-! ## Samples -/

/-- The range of a calibrated channel (R104). -/
def CalChannel.range : CalChannel → Int × Int
  | .cabPressure => (-5000, 5000)
  | .intakeFlow => (0, 2000)
  | .filterDrop => (0, 5000)
  | .outsideSmoke => (0, 1000)
  | .outsideCo => (0, 1000)
  | .frontCo => (0, 1000)
  | .rearCo => (0, 1000)
  | .frontTemp => (-400, 1250)
  | .rearTemp => (-400, 1250)
  | .coolantTemp => (-400, 1250)
  | .supply => (0, 400)

/-- The calibrated value of a raw code (R113). -/
def calibrate (c : CalChannel) (gain offset : Int) (raw : Nat) : Int :=
  clampInt (CalChannel.range c).1 (CalChannel.range c).2 (roundHalfAway ((raw : Int) * gain) 16384 + offset)

/-- Whether a code of a check channel is good (R115). -/
def referenceGood (raw : Nat) : Bool := decide (8032 ≤ raw) && decide (raw ≤ 8352)

/-- Whether a code of the Ground Check is good (R115). -/
def groundGood (raw : Nat) : Bool := decide (raw ≤ 80)

/-- Whether a sample is good (R115, R116), Converter Drift as it stands at the end of the conversion. -/
def sampleGood (c : Channel) (raw : Nat) (drift : Bool) : Bool :=
  match c with
  | .cal _ => decide (raw ≠ 0) && decide (raw ≠ 16383) && !drift
  | .reference => referenceGood raw
  | .ground => groundGood raw

/-- The value of a good sample (R113). -/
def sampleValue (g : Settings) (c : Channel) (raw : Nat) : Int :=
  match c with
  | .cal k => calibrate k (g.gain.get k) (g.offset.get k) raw
  | .reference => raw
  | .ground => raw

/-- The status after a Bad sample (R117). -/
def badStatus (before : ChannelStatus) (count : Nat) : ChannelStatus :=
  if 4 ≤ count then .failed
  else
    match before with
    | .unsampled => .unsampled
    | .fresh => .held
    | .held => .held
    | .failed => .failed

/-- The channel's entry after a conversion (R117). -/
def ChannelRecord.take (r : ChannelRecord) (good : Bool) (value : Int) (time : BitVec 32) : ChannelRecord :=
  if good then ⟨.fresh, some value, some time, 0⟩
  else
    let count := min 255 (r.bad + 1)
    { status := badStatus r.status count
      value := if badStatus r.status count = .held then r.value else none
      sampleTime := some time
      bad := count }

/-! ## The walk -/

/-- An entry is due in a pass (R108). -/
def entryDue (pass : BitVec 8) (e : ScanEntry) : Bool := decide (pass.toNat % e.divider = 0)

/-- The next due entry of a list of places and the places after it (R108). -/
def nextDue (pass : BitVec 8) : List ScanEntry → Option (ScanEntry × List ScanEntry)
  | [] => none
  | e :: rest => if entryDue pass e then some (e, rest) else nextDue pass rest

/-- A list holds a channel. -/
def listHas (l : List ScanEntry) (c : Channel) : Bool := l.any fun e => decide (e.channel = c)

/-- A list holds a converter check (R115). -/
def listHasCheck (l : List ScanEntry) : Bool := listHas l .reference || listHas l .ground

/-- Some channel of the working list is Failed (R119). -/
def State.sensorFailedNow (s : State) : Bool :=
  s.scan.working.any fun e => decide ((s.record.get e.channel).status = .failed)

/-- Sensor Failed brought up to date (R119). -/
def updateSensorFailed (s : State) : State := setCondition .sensorFailed s.sensorFailedNow s

/-- The walk of a pass that starts on a list (R108, R112). -/
def startWalk (pass : BitVec 8) (list : List ScanEntry) (since : BitVec 32) : Walk :=
  if list = [] then .stopped
  else
    match nextDue pass list with
    | some (e, rest) => .converting e rest since
    | none => .empty since

/-! ## Handing on -/

/-- A temperature channel of the plan (R24). -/
def planTemperature (c : CalChannel) : Bool :=
  decide (c = .frontTemp) || decide (c = .rearTemp) || decide (c = .coolantTemp)

/-- A change from `before` to `after` of a channel's entry at a conversion gives the resolver a trigger (R24). -/
def sampleTrigger (c : CalChannel) (before after : ChannelRecord) : Bool :=
  planTemperature c &&
    (decide (after.status = .fresh) || decide (after.status = .held) || decide (before.status ≠ after.status))

/-- A Fresh Cab Pressure sample at the Hold Regulator (R55, R57, R64, R65). -/
def regulateFresh (p : Int) (s : State) : State :=
  let s' := withRegulator (s.reg.takeFresh s.settings.kp s.settings.ki p) s
  if s'.shortfallApplies then
    let j := s'.reg.judgeShortfall s'.conditions.holdShortfall p
    setCondition .holdShortfall j.2 (s'.setReg j.1)
  else s'

/-- A Cab Pressure conversion at the Hold Regulator, by the status it leaves (table of R57). -/
def regulate (s : State) : State :=
  match (s.channel .cabPressure).status with
  | .fresh => regulateFresh ((s.channel .cabPressure).value.getD 0) s
  | .held => s
  | .failed => withRegulator s.reg.losePressure s
  | .unsampled => withRegulator s.reg.losePressure s

/-- A sample, or a loss of its channel, at the Scene Evaluator and the Hold Regulator (R120). -/
def handSample (c : CalChannel) (s : State) : State :=
  if c = .cabPressure then regulate (evaluateScene c s) else evaluateScene c s

/-- The Shelter auto latch after the change of Smoke Outside from `before` (R30). -/
def updateLatch (before : Bool) (s : State) : State :=
  if s.conditions.smokeOutside = before then s
  else if s.conditions.smokeOutside then
    if s.settings.autoShelter then setLatch true s else s
  else setLatch false s

/-- The resolution of an event that changed conditions or gave a trigger (R24, R124). -/
def resolveEvent (before : Conditions) (trigger : Bool) (s : State) : State :=
  if trigger || decide (s.conditions ≠ before) then resolve s else s

/-- The Purge Controller's part of a conversion end: a change of Heavy Smoke, a sample of Intake Flow (R78, R79, R85,
R124). -/
def purgeSample (c : CalChannel) (heavyBefore : Bool) (previous : Option (BitVec 32)) (time : BitVec 32) (s : State) :
    State :=
  purgeEvent (fun t =>
    if c = .intakeFlow then flowSample previous time t
    else if t.conditions.heavySmoke = heavyBefore then t else purgeHeavy t) s

/-! ## The end of a conversion -/

/-- Converter Drift raised by a Bad check, and what the pass knows of its checks (R115). -/
def judgeCheck (c : Channel) (good : Bool) (s : State) : State :=
  match c with
  | .cal _ => s
  | .reference | .ground =>
    let s' := s.setScan { s.scan with checkSeen := true, checkBad := s.scan.checkBad || !good }
    if good then s' else setCondition .converterDrift true s'

/-- The record brought up to date at a conversion end (R116, R117), then Sensor Failed (R119, R120). -/
def recordSample (c : Channel) (raw : Nat) (now : BitVec 32) (s : State) : State :=
  updateSensorFailed (s.setRecord (s.record.set c ((s.record.get c).take
    (sampleGood c raw s.conditions.converterDrift) (sampleValue s.settings c raw) now)))

/-- A calibrated channel's sample handed on, from the state `before` the conversion's end (R120, R124). The auto
latch follows Smoke Outside in the first resolution of the event, which under `purgeFirst` is that of the Purge
Controller's phase change: so the shutter is at 0 in every plan after a raise of Heavy Smoke that comes with the one of
Smoke Outside (R30, R78, log entry 37). -/
def handOnSample (k : CalChannel) (now : BitVec 32) (turn : Turn) (before s : State) : State :=
  shareEvent turn
    (resolveEvent before.conditions (sampleTrigger k (before.channel k) (s.channel k)))
    (purgeSample k before.conditions.heavySmoke (before.channel k).sampleTime now)
    (updateLatch before.conditions.smokeOutside (handSample k s))

/-- The sample of a conversion that ends at the count `now` (R115 to R120). -/
def sampleEnd (c : Channel) (raw : Nat) (now : BitVec 32) (turn : Turn) (s : State) : State :=
  let s' := recordSample c raw now (judgeCheck c (sampleGood c raw false) s)
  match c with
  | .cal k => handOnSample k now turn s s'
  | .reference => resolveEvent s.conditions false s'
  | .ground => resolveEvent s.conditions false s'

/-! ## Pass ends and pass starts -/

/-- A trend entry: the value a channel shows with its Held flag (R177). -/
def trendEntry (r : ChannelRecord) : Option (Bool × Int) :=
  r.shown.map fun v => (decide (r.status = .held), v)

/-- The channels of a mask in increasing number (R175, R177). -/
def chosenChannels (mask : Word) : List Channel := Channel.all.filter fun c => mask.getLsbD c.num

/-- The trend record of a capture (R177). -/
def State.trendRecord (s : State) (h : Hold) : TrendRecord where
  pass := s.scan.pass
  frame := s.loop.frame
  overrun := false
  entries := (chosenChannels h.mask).map fun c => trendEntry (s.record.get c)

/-- The first record given the Overrun mark. -/
def markOverrun : List TrendRecord → List TrendRecord
  | [] => []
  | r :: rest => { r with overrun := true } :: rest

/-- A record captured into the queue (R177): a full queue loses the oldest record whose run has not begun. -/
def enqueueTrend (begun : Bool) (queue : List TrendRecord) (r : TrendRecord) : List TrendRecord :=
  if queue.length < 48 then queue ++ [r]
  else if begun then queue.take 1 ++ markOverrun (queue.drop 2 ++ [r])
  else markOverrun (queue.drop 1 ++ [r])

/-- The capture, where the pass counter has reached the decimation (R177). -/
def captureTrend (s : State) : State :=
  match s.trend.hold with
  | none => s
  | some h =>
    if h.decimation ≤ s.trend.passCounter then
      s.setTrend { s.trend with
        passCounter := 0
        queue := enqueueTrend s.trend.begun s.trend.queue (s.trendRecord h) }
    else s

/-- A pass end at the Readout Unit (R121, R177). -/
def trendPassEnd (s : State) : State :=
  match s.trend.hold with
  | none => s
  | some _ => captureTrend (s.setTrend { s.trend with passCounter := s.trend.passCounter + 1 })

/-- Converter Drift judged at a pass end (R115). -/
def judgeDrift (s : State) : State :=
  if s.scan.checkSeen && !s.scan.checkBad then
    resolveEvent s.conditions false (setCondition .converterDrift false s)
  else s

/-- The end of a pass (R115, R121). -/
def endPass (s : State) : State := trendPassEnd (judgeDrift s)

/-- The channels that a list drops made Unsampled (R111). At a stop the list is empty, so every sample time goes, as
R112 has it, and does not stand, as R118 has it; the first interval after a restart is then none (DESIGN CHOICE, log
entry 34). -/
def dropChannels (list : List ScanEntry) (s : State) : State :=
  s.setRecord (s.record.mapWith fun c r => if listHas list c then r else ChannelRecord.blank)

/-- The calibrated channels whose entries became Unsampled between two records (R120). -/
def lostChannels (before after : PerChannel ChannelRecord) : List CalChannel :=
  CalChannel.all.filter fun k =>
    decide ((before.cal.get k).status ≠ .unsampled) && decide ((after.cal.get k).status = .unsampled)

/-- The conditions of the Scan Sequencer at a list change: Converter Drift where no check is left, Sensor Failed (R115,
R119). -/
def listConditions (list : List ScanEntry) (s : State) : State :=
  updateSensorFailed (if listHasCheck list then s else setCondition .converterDrift false s)

/-- A new working list with the channels brought into line and handed on; one trigger for all (R111, R120). -/
def adoptList (list : List ScanEntry) (turn : Turn) (s : State) : State :=
  let s1 := listConditions list (dropChannels list (s.setScan { s.scan with working := list }))
  let lost := lostChannels s.record s1.record
  let s2 := lost.foldl (fun t k => handSample k t) s1
  shareEvent turn (resolveEvent s.conditions (lost.any planTemperature))
    (fun t => if lost.any (fun k => decide (k = .intakeFlow)) then purgeEvent fallbackTest t else t) s2

/-- The list of a pass that starts: the staged list, where it differs from the working list (R111). -/
def takeStaged (turn : Turn) (s : State) : State :=
  if stagedList s.settings = s.scan.working then s else adoptList (stagedList s.settings) turn s

/-- A pass starts at the count `now` under the pass number held (R108, R111, R112). -/
def beginPass (now : BitVec 32) (turn : Turn) (s : State) : State :=
  let s' := takeStaged turn s
  s'.setScan { s'.scan with
    walk := startWalk s'.scan.pass s'.scan.working now, checkSeen := false, checkBad := false }

/-- The next pass starts at the end of the one before (R108). -/
def nextPass (now : BitVec 32) (turn : Turn) (s : State) : State :=
  beginPass now turn (s.setScan { s.scan with pass := s.scan.pass + 1#8 })

/-- What follows a conversion: the next due entry, or the end of the pass and the next pass (R108, R109). -/
def continueWalk (rest : List ScanEntry) (now : BitVec 32) (turn : Turn) (s : State) : State :=
  match nextDue s.scan.pass rest with
  | some (e, rest') => s.setScan { s.scan with walk := .converting e rest' now }
  | none => nextPass now turn (endPass s)

/-- The end of the conversion in progress, with its raw code (R109, R117). -/
def conversionEnd (raw : BitVec 14) (turn : Turn) (s : State) : State :=
  match s.scan.walk with
  | .converting e rest since =>
    let now := since + BitVec.ofNat 32 e.timeClass
    continueWalk rest now turn (sampleEnd e.channel raw.toNat now turn (advanceTo now s))
  | .empty _ => s
  | .stopped => s

/-- The end of an empty pass (R108). -/
def emptyPassEnd (turn : Turn) (s : State) : State :=
  match s.scan.walk with
  | .empty since => nextPass (since + 1#32) turn (endPass (advanceTo (since + 1#32) s))
  | .converting _ _ _ => s
  | .stopped => s

/-- A scan list write while the scan is stopped starts a pass where the staged list is not empty (R112). -/
def restartScan (s : State) : State :=
  if s.scan.walk = .stopped ∧ stagedList s.settings ≠ [] then beginPass s.clock.ms .resolverFirst s else s

/-! ## The rows -/

/-- CONVERSION_END (R109, R117). -/
def execConversionEnd (raw : BitVec 14) (turn : Turn) (s : State) : Result :=
  .next (unlessHeld (conversionEnd raw turn) s)

/-- EMPTY_PASS_END (R108). -/
def execEmptyPassEnd (turn : Turn) (s : State) : Result := .next (unlessHeld (emptyPassEnd turn) s)

/-- TREND_CAPTURE (R177). -/
def execTrendCapture (s : State) : Result := .next (captureTrend s)

end Sys2Proof.Machine
end

