-- ==== Sys2Proof/Machine/ReadoutUnit.lean ====
section
/-! DEFINITION. The requests of the Readout Unit (chapter 11): READOUT, JOIN_STREAM and LEAVE_STREAM. The capture of a
trend record stands in ScanSequencer.lean, the sending of cells in LoopPort.lean. -/

namespace Sys2Proof.Machine

/-! ## Readout -/

/-- The count accepted (R173). -/
def readoutCount (start count : Nat) : Nat := min (clampNat 1 24 count) (362 - start)

/-- A group's region overlaps the words copied (R173). -/
def Group.overlaps (g : Group) (start count : Nat) : Bool :=
  decide (g.region.1 < start + count) && decide (start < g.region.2)

/-- The marks of a station after a readout of words (R173). -/
def Marks.read (m : Marks) (start count : Nat) : Marks where
  plan := m.plan && !Group.plan.overlaps start count
  conditions := m.conditions && !Group.conditions.overlaps start count
  purge := m.purge && !Group.purge.overlaps start count
  vehicle := m.vehicle && !Group.vehicle.overlaps start count
  movers := m.movers && !Group.movers.overlaps start count
  settings := m.settings && !Group.settings.overlaps start count

/-- The words copied by a readout (R173). -/
def State.readWords (s : State) (start count : Nat) : List Word := (s.recordSpace.drop start).take count

/-- A readout accepted (R173). -/
def acceptReadout (n : Station) (start count : Nat) (s : State) : State :=
  (s.setBuffers (s.buffers.set n (some ⟨s.readWords start count, 0⟩))).setMarks
    (s.marks.set n ((s.marks.get n).read start count))

/-- Readout (R173). -/
def serveReadout (n : Station) (start count : Word) (s : State) : Served :=
  if 361 < start.toNat then Served.refuse .range s
  else if (s.buffers.get n).isSome then Served.refuse .busy s
  else
    ⟨acceptReadout n start.toNat (readoutCount start.toNat count.toNat) s,
     ⟨if readoutCount start.toNat count.toNat = count.toNat then .done else .clamped, start,
      Word.ofNat (readoutCount start.toNat count.toNat), 0#16⟩⟩

/-! ## The trend stream -/

/-- The channel mask in force: bits 13 to 15 are ignored (R166). -/
def streamMask (mask : Word) : Word := mask &&& 0x1FFF#16

/-- The decimation brought into 1 to 50 (R175). -/
def streamDecimation (d : Word) : Nat := clampNat 1 50 d.toNat

/-- A mask that names one to eight channels (R175). -/
def maskOk (mask : Word) : Bool :=
  decide (1 ≤ (chosenChannels mask).length) && decide ((chosenChannels mask).length ≤ 8)

/-- The stream given to a station, with an empty queue and the pass counter at 0 (R175). -/
def grantStream (n : Station) (mask : Word) (decimation : Nat) (s : State) : State :=
  (emptyQueue s).setTrend { (emptyQueue s).trend with hold := some ⟨n, mask, decimation⟩, passCounter := 0 }

/-- The old holder detached where there is another one (R175). -/
def detachHolder (n : Station) (s : State) : State :=
  match s.trend.hold with
  | none => s
  | some h => if h.station = n then s else setDetached h.station true s

/-- The stream is held by another station whose rank is not below the sender's (R175). -/
def State.streamBusy (s : State) (n : Station) : Bool :=
  s.trend.hold.any fun h => decide (h.station ≠ n) && decide ((s.slot n).rank ≤ (s.slot h.station).rank)

/-- The checks and the arbitration of Join Stream, the sender's indication cleared before (R175). -/
def joinStream (n : Station) (mask decimation : Word) (s : State) : Served :=
  if !maskOk (streamMask mask) then Served.refuse .range s
  else if s.streamBusy n then Served.refuse .busy s
  else
    ⟨grantStream n (streamMask mask) (streamDecimation decimation) (detachHolder n s),
     ⟨if streamDecimation decimation = decimation.toNat then .done else .clamped, streamMask mask,
      Word.ofNat (streamDecimation decimation), 0#16⟩⟩

/-- Join Stream (R175). -/
def serveJoin (n : Station) (mask decimation : Word) (s : State) : Served :=
  joinStream n mask decimation (setDetached n false s)

/-- Leave Stream (R176). -/
def serveLeave (n : Station) (s : State) : Served :=
  ⟨releaseStream n (setDetached n false s), ⟨.done, Word.ofNat (bitAt 0 (s.holdsStream n)), 0#16, 0#16⟩⟩

/-! ## The cells and the rows -/

/-- A Readout cell taken. -/
def takeReadout (n : Station) (start count : Word) : State → State :=
  takeCell n 0x0B#8 .anyClass (serveReadout n start count)

/-- A Join Stream cell taken. -/
def takeJoin (n : Station) (mask decimation : Word) : State → State :=
  takeCell n 0x0C#8 .panelOrService (serveJoin n mask decimation)

/-- A Leave Stream cell taken. -/
def takeLeave (n : Station) : State → State := takeCell n 0x0D#8 .panelOrService (serveLeave n)

/-- READOUT (R173). -/
def execReadout (n : Station) (start count : Word) (s : State) : Result := .next (takeReadout n start count s)

/-- JOIN_STREAM (R175). -/
def execJoinStream (n : Station) (mask decimation : Word) (s : State) : Result := .next (takeJoin n mask decimation s)

/-- LEAVE_STREAM (R176). -/
def execLeaveStream (n : Station) (s : State) : Result := .next (takeLeave n s)

end Sys2Proof.Machine
end

