-- ==== Sys2Proof/Machine/RequestTable.lean ====
section
/-! DEFINITION. The requests of the Request Table (section 1.4): SET_SETPOINT, SET_FAN, SET_MODE, SET_SHELTER,
WITHDRAW, WITHDRAW_ALL and SHELTER_RELEASE. -/

namespace Sys2Proof.Machine

/-! ## The table -/

/-- An entry has the key of a station and a kind with its zone (R12). -/
def Entry.hasKey (n : Station) (k : Key) (e : Entry) : Bool :=
  decide (e.station = n) && decide (e.demand.key = k)

/-- The table without the entry of a key, the order of the rest kept (R18, R19). -/
def withoutKey (n : Station) (k : Key) (t : List Entry) : List Entry :=
  t.filter fun e => !e.hasKey n k

/-- The table holds the key. -/
def hasKeyIn (n : Station) (k : Key) (t : List Entry) : Bool := t.any (Entry.hasKey n k)

/-- The table after a set request: the key's entry replaced and moved to the tail, or appended (R18). -/
def setEntry (n : Station) (d : Demand) (t : List Entry) : List Entry :=
  withoutKey n d.key t ++ [⟨n, d, false⟩]

/-- The request would append to a full table: check 4 of R14. -/
def State.tableFull (s : State) (n : Station) (k : Key) : Bool :=
  !hasKeyIn n k s.table && decide (24 ≤ s.table.length)

/-- The table set, with the trigger of a change (R21). -/
def changeTable (t : List Entry) (s : State) : State := resolve (s.setTable t)

/-- The number of entries as an Answer word. -/
def State.entryCount (s : State) : Word := Word.ofNat s.table.length

/-! ## Set requests -/

/-- A demand in range and in scope applied, unless the table is full (R14 check 4, R18). -/
def applyDemand (n : Station) (d : Demand) (code : AnswerCode) (s : State) : Served :=
  if s.tableFull n d.key then Served.refuse .full s
  else ⟨changeTable (setEntry n d s.table) s, ⟨code, d.word, Word.ofNat (setEntry n d s.table).length, 0#16⟩⟩

/-- The answer code of a value that a clamp moved or not. -/
def clampCode (moved : Bool) : AnswerCode := if moved then .clamped else .done

/-- The setpoint a value gives: rounded, then clamped (R15). -/
def setpointOfValue (v : Int) : Int := clampInt 120 300 (roundFive v)

/-- Whether the clamp of R15 moved the rounded value. -/
def setpointClamped (v : Int) : Bool := decide (setpointOfValue v ≠ roundFive v)

/-- Set Setpoint (R14, R15). -/
def serveSetpoint (n : Station) (zone value : Word) (s : State) : Served :=
  match Zone.ofCode zone with
  | none => Served.refuse .range s
  | some z =>
    if (s.slot n).scope.covers z then
      applyDemand n (.setpoint z (setpointOfValue value.toInt)) (clampCode (setpointClamped value.toInt)) s
    else Served.refuse .scope s

/-- Set Fan (R14, R16). -/
def serveFan (n : Station) (zone level : Word) (s : State) : Served :=
  match Zone.ofCode zone with
  | none => Served.refuse .range s
  | some z =>
    if (s.slot n).scope.covers z then
      applyDemand n (.fan z (FanChoice.ofWord level).1) (clampCode (FanChoice.ofWord level).2) s
    else Served.refuse .scope s

/-- Set Mode (R14, R17). -/
def serveMode (n : Station) (mode : Word) (s : State) : Served :=
  match RequestedMode.ofCode mode with
  | none => Served.refuse .range s
  | some m => applyDemand n (.mode m) .done s

/-! ## Removing entries -/

/-- The station's entry of a key removed where it has one, with the trigger of a change (R19). -/
def withdrawKey (n : Station) (k : Key) (s : State) : State :=
  if hasKeyIn n k s.table then changeTable (withoutKey n k s.table) s else s

/-- A Withdraw of a key with its Answer (R19, R168). -/
def serveWithdrawKey (n : Station) (k : Key) (s : State) : Served :=
  ⟨withdrawKey n k s,
   ⟨.done, Word.ofNat (s.table.length - (withoutKey n k s.table).length),
    Word.ofNat (withoutKey n k s.table).length, 0#16⟩⟩

/-- Withdraw (R19). -/
def serveWithdraw (n : Station) (kind zone : Word) (s : State) : Served :=
  match Key.ofCodes kind zone with
  | none => Served.refuse .range s
  | some k => serveWithdrawKey n k s

/-- Set Shelter On, and Off as a Withdraw (R17). -/
def serveShelter (n : Station) (code : Word) (s : State) : Served :=
  match switchOfCode code with
  | none => Served.refuse .range s
  | some true => applyDemand n .shelter .done s
  | some false => serveWithdrawKey n .shelter s

/-- Withdraw All (R19). -/
def serveWithdrawAll (n : Station) (s : State) : Served :=
  ⟨resolveIf (decide (0 < s.entriesOf n)) (removeEntries n s),
   ⟨.done, Word.ofNat (s.entriesOf n), Word.ofNat (removeEntries n s).table.length, 0#16⟩⟩

/-! ## Shelter Release -/

/-- The table without any Shelter entry (R20). -/
def withoutShelter (t : List Entry) : List Entry := t.filter fun e => decide (e.demand ≠ .shelter)

/-- Shelter Release (R20). -/
def serveRelease (n : Station) (s : State) : Served :=
  if (s.slot n).rank < s.settings.releaseRank then Served.refuse .denied s
  else
    ⟨resolveIf (s.requestSource || s.resolver.autoLatch) (setLatch false (s.setTable (withoutShelter s.table))),
     ⟨.done, Word.ofNat (s.table.length - (withoutShelter s.table).length), Word.ofNat (bitAt 0 s.resolver.autoLatch),
      0#16⟩⟩

/-! ## The cells and the rows -/

/-- A Set Setpoint cell taken. -/
def takeSetpoint (n : Station) (zone value : Word) : State → State :=
  takeCell n 0x01#8 .panelOrService (serveSetpoint n zone value)

/-- A Set Fan cell taken. -/
def takeFan (n : Station) (zone level : Word) : State → State :=
  takeCell n 0x02#8 .panelOrService (serveFan n zone level)

/-- A Set Mode cell taken. -/
def takeMode (n : Station) (mode : Word) : State → State :=
  takeCell n 0x03#8 .panelOrService (serveMode n mode)

/-- A Set Shelter cell taken. -/
def takeShelter (n : Station) (code : Word) : State → State :=
  takeCell n 0x04#8 .panelOrService (serveShelter n code)

/-- A Withdraw cell taken. -/
def takeWithdraw (n : Station) (kind zone : Word) : State → State :=
  takeCell n 0x05#8 .panelOrService (serveWithdraw n kind zone)

/-- A Withdraw All cell taken. -/
def takeWithdrawAll (n : Station) : State → State :=
  takeCell n 0x06#8 .panelOrService (serveWithdrawAll n)

/-- A Shelter Release cell taken. -/
def takeRelease (n : Station) : State → State :=
  takeCell n 0x09#8 .panelOrService (serveRelease n)

/-- SET_SETPOINT (R15). -/
def execSetSetpoint (n : Station) (zone value : Word) (s : State) : Result := .next (takeSetpoint n zone value s)

/-- SET_FAN (R16). -/
def execSetFan (n : Station) (zone level : Word) (s : State) : Result := .next (takeFan n zone level s)

/-- SET_MODE (R17). -/
def execSetMode (n : Station) (mode : Word) (s : State) : Result := .next (takeMode n mode s)

/-- SET_SHELTER (R17). -/
def execSetShelter (n : Station) (code : Word) (s : State) : Result := .next (takeShelter n code s)

/-- WITHDRAW (R19). -/
def execWithdraw (n : Station) (kind zone : Word) (s : State) : Result := .next (takeWithdraw n kind zone s)

/-- WITHDRAW_ALL (R19). -/
def execWithdrawAll (n : Station) (s : State) : Result := .next (takeWithdrawAll n s)

/-- SHELTER_RELEASE (R20). -/
def execShelterRelease (n : Station) (s : State) : Result := .next (takeRelease n s)

end Sys2Proof.Machine
end

