-- ==== Sys2Proof/Machine/SettingsStore.lean ====
section
/-! DEFINITION. The Settings Store (chapter 12): the indices, the write of every setting with its own effect, the
permit, the store and its completion, and the rows of the settings family. -/

namespace Sys2Proof

/-! ## Indices (section 12.4) -/

/-- The place of a setting of the plan. -/
def PlanSetting.index : PlanSetting → Nat
  | .defaultSetpoint => 16
  | .autoShelter => 17
  | .shelterOnPump => 18
  | .shelterTarget => 19
  | .shelterBase => 20
  | .shelterFloor => 21
  | .freshTarget => 22
  | .freshBase => 23
  | .freshFloor => 24

/-- The place of a setting of the purge. -/
def PurgeSetting.index : PurgeSetting → Nat
  | .frontVolume => 32
  | .rearVolume => 33
  | .purgeChanges => 34
  | .autoPurge => 35
  | .fallbackFlush => 36

/-- The place of a threshold. -/
def Threshold.index : Threshold → Nat
  | .smokeRaise => 104
  | .smokeClear => 105
  | .heavyRaise => 106
  | .heavyClear => 107
  | .outsideCoRaise => 108
  | .outsideCoClear => 109
  | .cabCoRaise => 110
  | .cabCoClear => 111
  | .filterLimit => 112
  | .supplyLow => 113
  | .supplyRecover => 114

/-- The index of a scan list field. -/
def ScanField.index : ScanField → Nat
  | .length => 48
  | .position p .channel => 192 + 3 * p.val
  | .position p .timeClass => 193 + 3 * p.val
  | .position p .divider => 194 + 3 * p.val

/-- The index a Settings Write names a setting by. -/
def Setting.index : Setting → Nat
  | .window .quiet => 0
  | .window .lost => 1
  | .releaseRank => 2
  | .slotEnabled n => 156 + 4 * n.num
  | .slotClass n => 157 + 4 * n.num
  | .slotRank n => 158 + 4 * n.num
  | .slotScope n => 159 + 4 * n.num
  | .plan p => p.index
  | .gain .kp => 28
  | .gain .ki => 29
  | .doorLevel => 30
  | .purge p => p.index
  | .doorMap d => 39 + d.num
  | .returnTime => 46
  | .scan f => f.index
  | .calibration c .gain => 72 + c.num
  | .calibration c .offset => 88 + c.num
  | .threshold t => t.index
  | .alertMask => 115
  | .level .short => 120
  | .level (.overload .intake) => 122
  | .level (.overload .front) => 123
  | .level (.overload .rear) => 124
  | .time .short => 121
  | .time .overload => 125
  | .feedbackEnd a .closed => 127 + a.num
  | .feedbackEnd a .opened => 135 + a.num

/-- Every setting of a slot. -/
def Setting.ofSlot (n : Station) : List Setting := [.slotEnabled n, .slotClass n, .slotRank n, .slotScope n]

/-- Every field of a scan list position. -/
def Setting.ofPosition (p : Fin 20) : List Setting :=
  [.scan (.position p .channel), .scan (.position p .timeClass), .scan (.position p .divider)]

/-- Every setting of the table of section 12.4. -/
def Setting.all : List Setting :=
  [.window .quiet, .window .lost, .releaseRank] ++ Station.all.flatMap Setting.ofSlot ++
    [PlanSetting.defaultSetpoint, .autoShelter, .shelterOnPump, .shelterTarget, .shelterBase, .shelterFloor,
     .freshTarget, .freshBase, .freshFloor].map .plan ++
    [.gain .kp, .gain .ki, .doorLevel] ++
    [PurgeSetting.frontVolume, .rearVolume, .purgeChanges, .autoPurge, .fallbackFlush].map .purge ++
    Door.all.map .doorMap ++ [.returnTime, .scan .length] ++ (List.finRange 20).flatMap Setting.ofPosition ++
    CalChannel.all.flatMap (fun c => [.calibration c .gain, .calibration c .offset]) ++
    [Threshold.smokeRaise, .smokeClear, .heavyRaise, .heavyClear, .outsideCoRaise, .outsideCoClear, .cabCoRaise,
     .cabCoClear, .filterLimit, .supplyLow, .supplyRecover].map .threshold ++
    [.alertMask, .level .short, .time .short] ++ Blower.all.map (fun b => .level (.overload b)) ++
    [.time .overload] ++ ActuatorId.all.flatMap (fun a => [.feedbackEnd a .closed, .feedbackEnd a .opened])

/-- The setting an index names (section 12.4). -/
def Setting.ofIndex (i : Nat) : Option Setting := Setting.all.find? fun st => decide (st.index = i)

end Sys2Proof

namespace Sys2Proof.Machine

/-! ## Accepted writes -/

/-- An accepted write: the state it leaves, the value as held, and whether the written value was moved (R182). -/
structure Written where
  state : State
  held : Word
  moved : Bool

/-- A value clamped into a range and taken by `f` (R182, log entry 14). -/
def clampWrite (lo hi : Nat) (value : Word) (f : Nat → State) : Written :=
  ⟨f (clampNat lo hi value.toNat), Word.ofNat (clampNat lo hi value.toNat),
   decide (clampNat lo hi value.toNat ≠ value.toNat)⟩

/-- A coded value held as written. -/
def codedWrite (value : Word) (s : State) : Written := ⟨s, value, false⟩

/-- The supervision windows (R7). -/
def writeWindow (w : WindowSetting) (value : Word) (s : State) : Written :=
  match w with
  | .quiet =>
    clampWrite 10 100 value fun x =>
      s.setSettings { s.settings with quietWindow := x, lostWindow := max s.settings.lostWindow (x + 10) }
  | .lost =>
    clampWrite (s.settings.quietWindow + 10) 1000 value fun x => s.setSettings { s.settings with lostWindow := x }

/-- The Release Rank (R20). -/
def writeReleaseRank (value : Word) (s : State) : Written :=
  clampWrite 0 7 value fun x => s.setSettings { s.settings with releaseRank := x }

/-! ### Slots -/

/-- A slot's settings changed. -/
def setSlot (n : Station) (t : SlotSettings) (s : State) : State :=
  s.setSettings { s.settings with slots := s.settings.slots.set n t }

/-- Another enabled slot has the Vehicle class (R1). -/
def State.otherVehicle (s : State) (n : Station) : Bool :=
  Station.all.any fun m => decide (m ≠ n) && (s.slot m).enabled && decide ((s.slot m).cls = .vehicle)

/-- A slot disabled, with its frame-level effect (R9, R163). -/
def disableSlot (n : Station) (s : State) : State :=
  let s1 := dropStation n (setStation n ⟨.disabled, 0⟩ (setSlot n { s.slot n with enabled := false } s))
  settleVehicle .resolverFirst true s (setLine n { s1.loop.lines.get n with cut := true } s1)

/-- A slot enabled (R9). -/
def enableSlot (n : Station) (s : State) : State :=
  settleVehicle .resolverFirst false s
    (setStation n ⟨.absent, 0⟩ (setSlot n { s.slot n with enabled := true } s))

/-- The enabled field (R9, R182). -/
def writeSlotEnabled (n : Station) (value : Word) (s : State) : Option Written :=
  match switchOfCode value with
  | none => none
  | some b =>
    if b && decide ((s.slot n).cls = .vehicle) && s.otherVehicle n then none
    else some (codedWrite value
      (if b = (s.slot n).enabled then s else if b then enableSlot n s else disableSlot n s))

/-- The stream released with Detached set, where the station holds it (R10, R176). -/
def detachStation (n : Station) (s : State) : State :=
  if s.holdsStream n then setDetached n true (releaseStream n s) else s

/-- The class of a slot changed (R10). -/
def changeClass (n : Station) (c : StationClass) (s : State) : State :=
  let s1 := setSlot n { s.slot n with cls := c } s
  if (s.slot n).enabled && decide (c = .vehicle) then
    settleVehicle .resolverFirst (decide (0 < s.entriesOf n)) s (detachStation n (removeEntries n s1))
  else settleVehicle .resolverFirst false s s1

/-- The class field (R10, R182). -/
def writeSlotClass (n : Station) (value : Word) (s : State) : Option Written :=
  match StationClass.ofCode value with
  | none => none
  | some c =>
    if decide (c = .vehicle) && (s.slot n).enabled && s.otherVehicle n then none
    else some (codedWrite value (if c = (s.slot n).cls then s else changeClass n c s))

/-- The rank field (R10). -/
def writeSlotRank (n : Station) (value : Word) (s : State) : Written :=
  clampWrite 0 7 value fun x =>
    if x = (s.slot n).rank then s
    else resolveIf (s.slot n).enabled (setSlot n { s.slot n with rank := x } s)

/-- A demand lies within a scope: every Mode and Shelter does (R10). -/
def Demand.within : Demand → Scope → Bool
  | .setpoint z _, sc => sc.covers z
  | .fan z _, sc => sc.covers z
  | .mode _, _ => true
  | .shelter, _ => true

/-- The table without a station's entries outside a scope (R10). -/
def withoutUncovered (n : Station) (sc : Scope) (t : List Entry) : List Entry :=
  t.filter fun e => decide (e.station ≠ n) || e.demand.within sc

/-- The scope of a slot changed (R10). -/
def changeScope (n : Station) (sc : Scope) (s : State) : State :=
  let s1 := setSlot n { s.slot n with scope := sc } s
  if (s.slot n).enabled then
    resolveIf (decide ((withoutUncovered n sc s.table).length < s.table.length))
      (s1.setTable (withoutUncovered n sc s.table))
  else s1

/-- The scope field (R10, R182). -/
def writeSlotScope (n : Station) (value : Word) (s : State) : Option Written :=
  match Scope.ofCode value with
  | none => none
  | some sc => some (codedWrite value (if sc = (s.slot n).scope then s else changeScope n sc s))

/-! ### The plan, the regulator, the purge and the doors -/

/-- An on or off setting of the plan (R48, R182). -/
def switchWrite (value : Word) (f : Bool → State) : Option Written :=
  (switchOfCode value).map fun b => codedWrite value (resolve (f b))

/-- A setting of the plan; each write gives one trigger (R48). -/
def writePlan (p : PlanSetting) (value : Word) (s : State) : Option Written :=
  match p with
  | .defaultSetpoint =>
    some ⟨resolve (s.setSettings { s.settings with defaultSetpoint := setpointOfValue value.toNat }),
      Word.ofInt (setpointOfValue value.toNat), decide (setpointOfValue value.toNat ≠ value.toNat)⟩
  | .autoShelter =>
    switchWrite value fun b =>
      if b then s.setSettings { s.settings with autoShelter := true }
      else setLatch false (s.setSettings { s.settings with autoShelter := false })
  | .shelterOnPump => switchWrite value fun b => s.setSettings { s.settings with shelterOnPump := b }
  | .shelterTarget =>
    some (clampWrite 50 1500 value fun x => resolve (s.setSettings { s.settings with shelterTarget := x }))
  | .shelterBase =>
    some (clampWrite 0 1000 value fun x => resolve (s.setSettings { s.settings with shelterBase := x }))
  | .shelterFloor =>
    some (clampWrite 0 1000 value fun x => resolve (s.setSettings { s.settings with shelterFloor := x }))
  | .freshTarget =>
    some (clampWrite 50 1500 value fun x => resolve (s.setSettings { s.settings with freshTarget := x }))
  | .freshBase =>
    some (clampWrite 0 1000 value fun x => resolve (s.setSettings { s.settings with freshBase := x }))
  | .freshFloor =>
    some (clampWrite 0 1000 value fun x => resolve (s.setSettings { s.settings with freshFloor := x }))

/-- A gain of the regulator (R63). -/
def writeGain (g : Gain) (value : Word) (s : State) : Written :=
  clampWrite 0 255 value fun x =>
    match g with
    | .kp => s.setSettings { s.settings with kp := x }
    | .ki => s.setSettings { s.settings with ki := x }

/-- The Door Level (R63). -/
def writeDoorLevel (value : Word) (s : State) : Written :=
  clampWrite 0 1000 value fun x =>
    withRegulator (s.reg.takeDoorLevel x) (s.setSettings { s.settings with doorLevel := x })

/-- A setting of the purge (R91). -/
def writePurge (p : PurgeSetting) (value : Word) (s : State) : Option Written :=
  match p with
  | .frontVolume => some (clampWrite 500 20000 value fun x => s.setSettings { s.settings with frontVolume := x })
  | .rearVolume => some (clampWrite 500 20000 value fun x => s.setSettings { s.settings with rearVolume := x })
  | .purgeChanges => some (clampWrite 1 8 value fun x => s.setSettings { s.settings with purgeChanges := x })
  | .autoPurge =>
    (switchOfCode value).map fun b => codedWrite value (s.setSettings { s.settings with autoPurge := b })
  | .fallbackFlush => some (clampWrite 10 600 value fun x => s.setSettings { s.settings with fallbackFlush := x })

/-- A vehicle with one door closed and its timer idle unread (R95, R97). -/
def Vehicle.closeDoor (v : Vehicle) (d : Door) : Vehicle :=
  { v with record := { v.record with doors := v.record.doors.set d false }, timers := v.timers.set d none }

/-- The zone of a door (R95). -/
def writeDoorMap (d : Door) (value : Word) (s : State) : Option Written :=
  match DoorZone.ofCode value with
  | none => none
  | some z =>
    let s1 := s.setSettings { s.settings with doorMap := s.settings.doorMap.set d z }
    some (codedWrite value
      (if z = .unused then handOnVehicle .resolverFirst false false (s.vehicle.closeDoor d) s1 else s1))

/-- The Return Time (R103). -/
def writeReturnTime (value : Word) (s : State) : Written :=
  clampWrite 1 60 value fun x => s.setSettings { s.settings with returnTime := x }

/-! ### The scan and its calibration -/

/-- The channel a written number stands for (R110). -/
def scanChannel (v : Nat) : Channel := (Channel.all[v]?).getD .ground

/-- The time class a written number stands for (R110). -/
def scanTimeClass (v : Nat) : Nat :=
  if v ≤ 2 then 2 else if v = 3 then 3 else if v ≤ 5 then 5 else 10

/-- The divider a written number stands for (R110). -/
def scanDivider (v : Nat) : Nat :=
  if v ≤ 1 then 1 else if v = 2 then 2 else if v ≤ 4 then 4 else 8

/-- A position with one field written, and the value held (R110). -/
def putScanField (e : ScanEntry) (f : ScanFieldKind) (v : Nat) : ScanEntry × Nat :=
  match f with
  | .channel => ({ e with channel := scanChannel v }, (scanChannel v).num)
  | .timeClass => ({ e with timeClass := scanTimeClass v }, scanTimeClass v)
  | .divider => ({ e with divider := scanDivider v }, scanDivider v)

/-- A scan list setting (R110, R112). -/
def writeScan (f : ScanField) (value : Word) (s : State) : Written :=
  match f with
  | .length => clampWrite 0 20 value fun x => restartScan (s.setSettings { s.settings with scanLength := x })
  | .position p k =>
    let r := putScanField ((s.settings.scanPositions[p.val]?).getD Config.spareScanEntry) k value.toNat
    ⟨restartScan (s.setSettings { s.settings with scanPositions := s.settings.scanPositions.set p.val r.1 }),
     Word.ofNat r.2, decide (r.2 ≠ value.toNat)⟩

/-- A gain or an offset, a signed word of any value (R114). -/
def writeCalibration (c : CalChannel) (k : CalibrationPart) (value : Word) (s : State) : Written :=
  match k with
  | .gain => codedWrite value (s.setSettings { s.settings with gain := s.settings.gain.set c value.toInt })
  | .offset => codedWrite value (s.setSettings { s.settings with offset := s.settings.offset.set c value.toInt })

/-! ### Thresholds and the Alert Mask -/

/-- The thresholds changed. -/
def setThresholds (t : Thresholds) (s : State) : State := s.setSettings { s.settings with thresholds := t }

/-- A threshold (R133): a raise level pulls its clear level down, the Supply Low Level pushes the Supply Recover Level
up. -/
def writeThreshold (t : Threshold) (value : Word) (s : State) : Written :=
  let g := s.settings.thresholds
  match t with
  | .smokeRaise =>
    clampWrite 1 1000 value fun x =>
      setThresholds { g with smokeRaise := x, smokeClear := min g.smokeClear (x - 1) } s
  | .smokeClear => clampWrite 0 (g.smokeRaise - 1) value fun x => setThresholds { g with smokeClear := x } s
  | .heavyRaise =>
    clampWrite 1 1000 value fun x =>
      setThresholds { g with heavyRaise := x, heavyClear := min g.heavyClear (x - 1) } s
  | .heavyClear => clampWrite 0 (g.heavyRaise - 1) value fun x => setThresholds { g with heavyClear := x } s
  | .outsideCoRaise =>
    clampWrite 1 1000 value fun x =>
      setThresholds { g with outsideCoRaise := x, outsideCoClear := min g.outsideCoClear (x - 1) } s
  | .outsideCoClear =>
    clampWrite 0 (g.outsideCoRaise - 1) value fun x => setThresholds { g with outsideCoClear := x } s
  | .cabCoRaise =>
    clampWrite 1 1000 value fun x =>
      setThresholds { g with cabCoRaise := x, cabCoClear := min g.cabCoClear (x - 1) } s
  | .cabCoClear => clampWrite 0 (g.cabCoRaise - 1) value fun x => setThresholds { g with cabCoClear := x } s
  | .filterLimit => clampWrite 100 5000 value fun x => setThresholds { g with filterLimit := x } s
  | .supplyLow =>
    clampWrite 0 399 value fun x =>
      setThresholds { g with supplyLow := x, supplyRecover := max g.supplyRecover (x + 1) } s
  | .supplyRecover => clampWrite (g.supplyLow + 1) 400 value fun x => setThresholds { g with supplyRecover := x } s

/-- The ALERT pin brought up to date after a mask write (R134). -/
def updateAlert (s : State) : State :=
  markAllIf (decide (s.alertDue ≠ s.alert)) .conditions (s.setAlert s.alertDue)

/-- The Alert Mask (R134). -/
def writeAlertMask (value : Word) (s : State) : Written :=
  codedWrite value (updateAlert (s.setSettings { s.settings with alertMask := value }))

/-! ### Protection and feedback ends -/

/-- The present currents compared with the levels in force (R146). -/
def watchBlowers (s : State) : State :=
  s.setBlowers (s.blowers.mapWith fun b r => r.watch s.settings.shortLevel (s.settings.overloadLevel.get b))

/-- A current level (R146). -/
def writeLevel (l : LevelSetting) (value : Word) (s : State) : Written :=
  match l with
  | .short => clampWrite 100 400 value fun x => watchBlowers (s.setSettings { s.settings with shortLevel := x })
  | .overload b =>
    clampWrite 20 250 value fun x =>
      watchBlowers (s.setSettings { s.settings with overloadLevel := s.settings.overloadLevel.set b x })

/-- A protection time (R146): a running short timer that meets a lowered Short Time trips at once. -/
def writeTime (t : TimeSetting) (value : Word) (s : State) : Written :=
  match t with
  | .short =>
    clampWrite 1 20 value fun x =>
      blowerEvent (s.blowers.map fun r => r.shortStep x) (s.setSettings { s.settings with shortTime := x })
  | .overload => clampWrite 5 100 value fun x => s.setSettings { s.settings with overloadTime := x }

/-- A feedback end (R157). -/
def writeFeedbackEnd (a : ActuatorId) (e : FeedbackEnd) (value : Word) (s : State) : Written :=
  match e with
  | .closed =>
    clampWrite 20 880 value fun x =>
      s.setSettings { s.settings with
        closedEnd := s.settings.closedEnd.set a x
        openEnd := s.settings.openEnd.set a (max (s.settings.openEnd.get a) (x + 100)) }
  | .opened =>
    clampWrite (s.settings.closedEnd.get a + 100) 980 value fun x =>
      s.setSettings { s.settings with openEnd := s.settings.openEnd.set a x }

/-! ## Settings Write -/

/-- A write of a setting: none where it is answered Range (R182). -/
def writeSetting (st : Setting) (value : Word) (s : State) : Option Written :=
  match st with
  | .window w => some (writeWindow w value s)
  | .releaseRank => some (writeReleaseRank value s)
  | .slotEnabled n => writeSlotEnabled n value s
  | .slotClass n => writeSlotClass n value s
  | .slotRank n => some (writeSlotRank n value s)
  | .slotScope n => writeSlotScope n value s
  | .plan p => writePlan p value s
  | .gain g => some (writeGain g value s)
  | .doorLevel => some (writeDoorLevel value s)
  | .purge p => writePurge p value s
  | .doorMap d => writeDoorMap d value s
  | .returnTime => some (writeReturnTime value s)
  | .scan f => some (writeScan f value s)
  | .calibration c k => some (writeCalibration c k value s)
  | .threshold t => some (writeThreshold t value s)
  | .alertMask => some (writeAlertMask value s)
  | .level l => some (writeLevel l value s)
  | .time t => some (writeTime t value s)
  | .feedbackEnd a e => some (writeFeedbackEnd a e value s)

/-- The service permit (R181). -/
def State.permitted (s : State) : Bool :=
  s.vehicle.record.verified && s.vehicle.record.brake && !s.vehicle.record.pump &&
    decide (s.plan.body.shelter = .inactive) && decide (s.plan.body.phase = .idle)

/-- The Answer of an accepted write, with the Settings mark set after its effect (R182, log entry 22). -/
def servedWrite (index : Word) (w : Written) : Served :=
  ⟨markAll .settings w.state, ⟨clampCode w.moved, index, w.held, 0#16⟩⟩

/-- A Settings Write of a setting (R181, R182). -/
def serveWrite (st : Setting) (value : Word) (s : State) : Served :=
  if s.permitted then
    match writeSetting st value s with
    | none => Served.refuse .range s
    | some w => servedWrite (Word.ofNat st.index) w
  else Served.refuse .blocked s

/-- A Settings Write by its index (R181, R182). -/
def serveIndex (index value : Word) (s : State) : Served :=
  if s.permitted then
    match Setting.ofIndex index.toNat with
    | none => Served.refuse .range s
    | some st => serveWrite st value s
  else Served.refuse .blocked s

/-- A Settings Write cell of a setting taken. -/
def takeWrite (n : Station) (st : Setting) (value : Word) : State → State :=
  takeCell n 0x0F#8 .serviceOnly (serveWrite st value)

/-- A Settings Write cell taken. -/
def takeIndexWrite (n : Station) (index value : Word) : State → State :=
  takeCell n 0x0F#8 .serviceOnly (serveIndex index value)

/-! ## Settings Store -/

/-- Settings Store (R181, R183). -/
def serveStore (s : State) : Served :=
  if s.permitted then
    match s.store.writing with
    | some _ => Served.refuse .busy s
    | none => ⟨s.setStore { s.store with writing := some ⟨s.settings, s.clock.ms⟩ }, ⟨.done, 0#16, 0#16, 0#16⟩⟩
  else Served.refuse .blocked s

/-- A Settings Store cell taken. -/
def takeStore (n : Station) : State → State := takeCell n 0x10#8 .serviceOnly serveStore

/-- The completion of a store (R183). -/
def completeStore (w : Writing) (s : State) : State :=
  let s1 := advanceTo (w.since + 40#32) s
  let s2 := s1.setStore ⟨.whole w.snapshot w.snapshot.checkWord, w.snapshot.checkWord, none⟩
  markAll .settings (resolveIf s2.conditions.settingsDefaulted (setCondition .settingsDefaulted false s2))

/-- The stored copy after a power loss or a reset: torn while Writing, with the snapshot lost (R183). -/
def Store.tear (t : Store) : Store :=
  match t.writing with
  | some _ => ⟨.torn, t.shownCheck, none⟩
  | none => t

/-! ## The rows -/

/-- SETTINGS_STORE (R183). -/
def execSettingsStore (n : Station) (s : State) : Result := .next (takeStore n s)

/-- STORE_COMPLETE (R183). -/
def execStoreComplete (s : State) : Result :=
  match s.store.writing with
  | some w => .next (completeStore w s)
  | none => .next s

/-- POWER_LOSS (R183). -/
def execPowerLoss (s : State) : Result := .next (s.setStore s.store.tear)

/-- SETTINGS_WRITE (R182). -/
def execSettingsWrite (n : Station) (index value : Word) (s : State) : Result :=
  .next (takeIndexWrite n index value s)

/-- SUPERVISION_WINDOW_WRITE (R7). -/
def execSupervisionWindowWrite (n : Station) (w : WindowSetting) (value : Word) (s : State) : Result :=
  .next (takeWrite n (.window w) value s)

/-- SLOT_ENABLE_WRITE (R9). -/
def execSlotEnableWrite (n slot : Station) (value : Word) (s : State) : Result :=
  .next (takeWrite n (.slotEnabled slot) value s)

/-- SLOT_CLASS_WRITE (R10). -/
def execSlotClassWrite (n slot : Station) (value : Word) (s : State) : Result :=
  .next (takeWrite n (.slotClass slot) value s)

/-- SLOT_RANK_WRITE (R10). -/
def execSlotRankWrite (n slot : Station) (value : Word) (s : State) : Result :=
  .next (takeWrite n (.slotRank slot) value s)

/-- SLOT_SCOPE_WRITE (R10). -/
def execSlotScopeWrite (n slot : Station) (value : Word) (s : State) : Result :=
  .next (takeWrite n (.slotScope slot) value s)

/-- PLAN_SETTING_WRITE (R48). -/
def execPlanSettingWrite (n : Station) (p : PlanSetting) (value : Word) (s : State) : Result :=
  .next (takeWrite n (.plan p) value s)

/-- REGULATOR_GAIN_WRITE (R63). -/
def execRegulatorGainWrite (n : Station) (g : Gain) (value : Word) (s : State) : Result :=
  .next (takeWrite n (.gain g) value s)

/-- DOOR_LEVEL_WRITE (R63). -/
def execDoorLevelWrite (n : Station) (value : Word) (s : State) : Result :=
  .next (takeWrite n .doorLevel value s)

/-- PURGE_SETTING_WRITE (R91). -/
def execPurgeSettingWrite (n : Station) (p : PurgeSetting) (value : Word) (s : State) : Result :=
  .next (takeWrite n (.purge p) value s)

/-- DOOR_MAP_WRITE (R95). -/
def execDoorMapWrite (n : Station) (d : Door) (value : Word) (s : State) : Result :=
  .next (takeWrite n (.doorMap d) value s)

/-- RETURN_TIME_WRITE (R103). -/
def execReturnTimeWrite (n : Station) (value : Word) (s : State) : Result :=
  .next (takeWrite n .returnTime value s)

/-- SCAN_LIST_WRITE (R110). -/
def execScanListWrite (n : Station) (f : ScanField) (value : Word) (s : State) : Result :=
  .next (takeWrite n (.scan f) value s)

/-- CALIBRATION_WRITE (R114). -/
def execCalibrationWrite (n : Station) (c : CalChannel) (k : CalibrationPart) (value : Word) (s : State) : Result :=
  .next (takeWrite n (.calibration c k) value s)

/-- THRESHOLD_WRITE (R133). -/
def execThresholdWrite (n : Station) (t : Threshold) (value : Word) (s : State) : Result :=
  .next (takeWrite n (.threshold t) value s)

/-- ALERT_MASK_WRITE (R134). -/
def execAlertMaskWrite (n : Station) (value : Word) (s : State) : Result :=
  .next (takeWrite n .alertMask value s)

/-- PROTECTION_LEVEL_WRITE (R146). -/
def execProtectionLevelWrite (n : Station) (l : LevelSetting) (value : Word) (s : State) : Result :=
  .next (takeWrite n (.level l) value s)

/-- PROTECTION_TIME_WRITE (R146). -/
def execProtectionTimeWrite (n : Station) (t : TimeSetting) (value : Word) (s : State) : Result :=
  .next (takeWrite n (.time t) value s)

/-- FEEDBACK_END_WRITE (R157). -/
def execFeedbackEndWrite (n : Station) (a : ActuatorId) (e : FeedbackEnd) (value : Word) (s : State) : Result :=
  .next (takeWrite n (.feedbackEnd a e) value s)

end Sys2Proof.Machine
end

