-- ==== Sys2Proof/Machine/Cells.lean ====
section
/-! DEFINITION. Cells as bytes (R164), the judgement of an uplink window (R165), the taking of a valid cell by its kind
(R166), and the row UNKNOWN_KIND. -/

namespace Sys2Proof.Machine

/-! ## Layout and check -/

/-- The two bytes of a word, most significant first (R164). -/
def wordBytes (w : Word) : List Byte := [highByte w, lowByte w]

/-- The station byte (R164). -/
def stationByte (n : Station) : Byte := BitVec.ofNat 8 n.num

/-- Bytes 0 to 9 of a cell (R164). -/
def Cell.body (c : Cell) : List Byte :=
  [stationByte c.station, c.kind] ++ wordBytes c.w0 ++ wordBytes c.w1 ++ wordBytes c.w2 ++ wordBytes c.w3

/-- The eleven bytes of a cell with its check (R164, R165). -/
def Cell.bytes (c : Cell) : List Byte := c.body ++ [crc8 c.body]

/-- What an uplink window held (R165). -/
inductive Judged where
  | silent
  | valid (c : Cell)
  | garbled
  deriving DecidableEq, Repr

/-- Eleven bytes judged for slot `n` (R165). -/
def judgeBytes (n : Station) : List Byte → Judged
  | [b0, b1, b2, b3, b4, b5, b6, b7, b8, b9, b10] =>
    if crc8 [b0, b1, b2, b3, b4, b5, b6, b7, b8, b9] = b10 ∧ b0 = stationByte n then
      .valid ⟨n, b1, joinBytes b2 b3, joinBytes b4 b5, joinBytes b6 b7, joinBytes b8 b9⟩
    else .garbled
  | _ => .garbled

/-- A window judged (R165); of more than eleven bytes the first eleven make the cell (log entry 17). -/
def judgeWindow (n : Station) (rx : Reception) : Judged :=
  if !rx.started then .silent
  else if rx.stopsValid then judgeBytes n (rx.bytes.take 11)
  else .garbled

/-- The three bytes of a Frame Mark: high byte, low byte, check (R161). -/
def frameMarkBytes (frame : Word) : List Byte := wordBytes frame ++ [crc8 (wordBytes frame)]

/-! ## Requests by kind -/

/-- A valid cell taken by its kind code (R2, R166). -/
def takeByKind (c : Cell) (turn : Turn) : State → State :=
  match c.kind.toNat with
  | 0x00 => takeIdle c.station
  | 0x01 => takeSetpoint c.station c.w0 c.w1
  | 0x02 => takeFan c.station c.w0 c.w1
  | 0x03 => takeMode c.station c.w0
  | 0x04 => takeShelter c.station c.w0
  | 0x05 => takeWithdraw c.station c.w0 c.w1
  | 0x06 => takeWithdrawAll c.station
  | 0x07 => takePurge c.station c.w0
  | 0x08 => takeCancel c.station
  | 0x09 => takeRelease c.station
  | 0x0A => takeClearLatches c.station
  | 0x0B => takeReadout c.station c.w0 c.w1
  | 0x0C => takeJoin c.station c.w0 c.w1
  | 0x0D => takeLeave c.station
  | 0x0E => takeVehicleReport c.station c.w0 c.w1 turn
  | 0x0F => takeIndexWrite c.station c.w0 c.w1
  | 0x10 => takeStore c.station
  | 0x11 => takeRestart c.station
  | _ => takeUnknown c.station c.kind

/-- UNKNOWN_KIND (R2): a cell with the kind code received and words of 0. -/
def execUnknownKind (n : Station) (kind : Byte) (s : State) : Result :=
  .next (takeByKind ⟨n, kind, 0#16, 0#16, 0#16, 0#16⟩ .resolverFirst s)

end Sys2Proof.Machine
end

