-- ==== Sys2Proof/Machine/LoopPort.lean ====
section
/-! DEFINITION. The Loop Port (chapter 10): the Frame Mark with all that is counted in frames, its readback and Loop
Fault, the uplink window, and the downlink with the Data runs of chapter 11. -/

namespace Sys2Proof.Machine

/-! ## The Frame Mark -/

/-- The slots enabled at a mark, in increasing number (R162). -/
def enabledSlots (g : Settings) : List Station := Station.all.filter fun n => (g.slots.get n).enabled

/-- The number of the next mark: 0 for the first after reset (R162). -/
def Loop.nextFrame (l : Loop) : Word := if l.markSent then l.frame + 1#16 else 0#16

/-- A frame opened: its number, its slot plan, and a blank line for each slot (R162). -/
def openFrame (s : State) : State :=
  s.setLoop { s.loop with
    frame := s.loop.nextFrame
    markSent := true
    slotPlan := enabledSlots s.settings
    lines := PerStation.ofFn fun _ => Line.blank }

/-- The timers that only count frames one on: door timers, scene timers, Shortfall timers (R65, R100, R125). -/
def tickFrames (s : State) : State :=
  let s1 := (tickDoors s).setScene s.scene.tick
  s1.setReg { s1.reg with raiseTimer := tickTimer s1.reg.raiseTimer, clearTimer := tickTimer s1.reg.clearTimer }

/-- The work of one block in a Frame Mark. -/
def markBlock (feedback : PerActuator Nat) (turn : Turn) (s : State) : MarkBlock → State
  | .supervision => superviseMark turn s
  | .purge => markPurge s
  | .blowers => markBlowers s
  | .actuators => markActuators feedback s

/-- Every block of a Frame Mark. -/
def MarkBlock.all : List MarkBlock := [.supervision, .purge, .blowers, .actuators]

/-- An order of the blocks that names each once: a block named twice is taken at its first place, one not named comes
last. -/
def fullOrder (order : List MarkBlock) : List MarkBlock :=
  order.eraseDups ++ MarkBlock.all.filter fun b => !order.contains b

/-- A Frame Mark sent (R162, log entry 5). -/
def frameMark (feedback : PerActuator Nat) (order : List MarkBlock) (turn : Turn) (s : State) : State :=
  (fullOrder order).foldl (markBlock feedback turn) (tickFrames (openFrame s))

/-! ## Readback and Loop Fault -/

/-- The mark heard is good (R171). -/
def markGood (frame : Word) (h : Readback) : Bool :=
  h.breakSeen && h.stopsValid && decide ([h.high, h.low, h.check] = frameMarkBytes frame)

/-- The two run counts. -/
def setRuns (mismatch good : Nat) (s : State) : State :=
  s.setLoop { s.loop with mismatchRun := mismatch, goodRun := good }

/-- Loop Fault raised or cleared, both runs 0 (R171). -/
def changeLoopFault (v : Bool) (s : State) : State :=
  resolve (setCondition .loopFault v (setRuns 0 0 s))

/-- A good mark (R171). -/
def goodMark (s : State) : State :=
  if s.conditions.loopFault then
    if 10 ≤ s.loop.goodRun + 1 then changeLoopFault false s else setRuns s.loop.mismatchRun (s.loop.goodRun + 1) s
  else setRuns 0 s.loop.goodRun s

/-- A mismatched mark (R171). -/
def badMark (s : State) : State :=
  if s.conditions.loopFault then setRuns s.loop.mismatchRun 0 s
  else if 3 ≤ s.loop.mismatchRun + 1 then changeLoopFault true s
  else setRuns (s.loop.mismatchRun + 1) s.loop.goodRun s

/-- The end of a Frame Mark (R171). -/
def frameMarkEnd (h : Readback) (s : State) : State :=
  if markGood s.loop.frame h then goodMark s else badMark s

/-! ## The uplink window -/

/-- Words wait for a station: a readout in flight, or the trend stream with a record (R167, R178). -/
def State.wordsWait (s : State) (n : Station) : Bool :=
  (s.buffers.get n).isSome || (s.holdsStream n && !s.trend.queue.isEmpty)

/-- The downlink of a slot by what its window held (R167). -/
def State.chooseDownlink (s : State) (n : Station) : Downlink :=
  match (s.loop.lines.get n).window with
  | .garbled => .answer 0xFF#8 (Answer.refuse .garbled)
  | .taken k (some a) => .answer k a
  | .taken _ none => if s.wordsWait n then .data else .status
  | .silent => if s.wordsWait n then .data else .status
  | .nothing => if s.wordsWait n then .data else .status

/-- The choice kept for the slot, none where the slot sends no downlink (R9, R163, R167). -/
def chooseLine (n : Station) (s : State) : State :=
  setLine n { s.loop.lines.get n with choice := if s.receives n then s.chooseDownlink n else .none } s

/-- What a window not yet taken held: a valid cell is taken, a silent or Garbled window only noted (R165). -/
def hearWindow (n : Station) (rx : Reception) (turn : Turn) (s : State) : State :=
  match judgeWindow n rx with
  | .silent => setWindow n .silent s
  | .garbled => setWindow n .garbled s
  | .valid c => takeByKind c turn s

/-- A cell was taken in the window already, by its own row (log entry 17). -/
def State.cellTaken (s : State) (n : Station) : Bool :=
  match (s.loop.lines.get n).window with
  | .taken _ _ => true
  | .nothing => false
  | .silent => false
  | .garbled => false

/-- The end of a slot's uplink window (R165, R167). -/
def uplinkWindowEnd (n : Station) (rx : Reception) (turn : Turn) (s : State) : State :=
  if s.receives n then chooseLine n (if s.cellTaken n then s else hearWindow n rx turn s) else s

/-! ## The downlink -/

/-- Word 0 of an Answer (R168). -/
def answerWord0 (kind : Byte) (c : AnswerCode) : Word := Word.ofNat (kind.toNat + c.num * 256)

/-- The Answer cell (R168). -/
def answerCell (n : Station) (kind : Byte) (a : Answer) : Cell :=
  ⟨n, 0x01#8, answerWord0 kind a.code, a.w1, a.w2, a.w3⟩

/-- The number of cells of a run of words (R169). -/
def runCells (words : Nat) : Nat := (words + 2) / 3

/-- Word 0 of a Data cell (R169). -/
def dataWord0 (position : Nat) (last : Bool) (stream : Bool) : Word :=
  Word.ofNat (position + bitAt 4 last + bitAt 5 stream)

/-- The Data cell at a position of a run (R169). -/
def dataCell (n : Station) (words : List Word) (position : Nat) (stream : Bool) : Cell :=
  ⟨n, 0x02#8, dataWord0 position (decide (runCells words.length = position + 1)) stream,
   (words[3 * position]?).getD 0#16, (words[3 * position + 1]?).getD 0#16, (words[3 * position + 2]?).getD 0#16⟩

/-- A trend entry's word (R177). -/
def trendWord : Option (Bool × Int) → Word
  | none => 0x4000#16
  | some (held, v) => (Word.ofInt v &&& 0x7FFF#16) ||| Word.ofNat (bitAt 15 held)

/-- The words of a trend record's run (R177). -/
def TrendRecord.words (r : TrendRecord) : List Word :=
  [Word.ofNat (r.pass.toNat + bitAt 8 r.overrun), r.frame] ++ r.entries.map trendWord

/-- The marks in bits 4 to 9 of a Status cell (R170). -/
def Marks.bits (m : Marks) : Nat :=
  bitAt 4 m.plan + bitAt 5 m.conditions + bitAt 6 m.purge + bitAt 7 m.vehicle + bitAt 8 m.movers + bitAt 9 m.settings

/-- The stream state of a station: 0 Not Holder, 1 Holder, 2 Detached (R170). -/
def State.streamState (s : State) (n : Station) : Nat :=
  if s.holdsStream n then 1 else if s.detached.get n then 2 else 0

/-- Word 2 of a Status cell (R170). -/
def State.statusSummary (s : State) : Word :=
  Word.ofNat (s.plan.body.shelter.code + s.plan.body.phase.code * 16)

/-- The Status cell (R170). -/
def State.statusCell (s : State) (n : Station) : Cell :=
  ⟨n, 0x03#8, Word.ofNat ((s.modeOf n).code + (s.marks.get n).bits + s.streamState n * 4096), s.plan.version,
   s.statusSummary, Word.ofNat s.trend.queue.length⟩

/-- A downlink put on the line; the choice is used up. -/
def transmit (n : Station) (c : Cell) (run : Option RunKind) (s : State) : State :=
  setLine n { s.loop.lines.get n with choice := .none, onAir := some ⟨c, run⟩ } s

/-- The next stream cell of the holder, or its Status where no record waits (R178, log entry 18). -/
def startStream (n : Station) (s : State) : State :=
  match s.trend.queue with
  | r :: _ =>
    if s.holdsStream n then
      transmit n (dataCell n r.words s.trend.sent true) (some .stream) (s.setTrend { s.trend with begun := true })
    else transmit n (s.statusCell n) none s
  | [] => transmit n (s.statusCell n) none s

/-- The next Data cell of a station: the readout before the stream (R167, R174, R178). -/
def startData (n : Station) (s : State) : State :=
  match s.buffers.get n with
  | some b => transmit n (dataCell n b.words b.sent false) (some .readout) s
  | none => startStream n s

/-- The beginning of a slot's downlink (R167, R170). -/
def downlinkStart (n : Station) (s : State) : State :=
  match (s.loop.lines.get n).choice with
  | .none => s
  | .answer k a => transmit n (answerCell n k a) none s
  | .data => startData n s
  | .status => transmit n (s.statusCell n) none s

/-- A readout cell sent (R169, R174). -/
def advanceReadout (n : Station) (s : State) : State :=
  match s.buffers.get n with
  | none => s
  | some b =>
    s.setBuffers (s.buffers.set n
      (if runCells b.words.length ≤ b.sent + 1 then none else some { b with sent := b.sent + 1 }))

/-- A stream cell sent; a record leaves the queue with its last cell (R169, R178). -/
def advanceStream (s : State) : State :=
  match s.trend.queue with
  | [] => s
  | r :: rest =>
    if runCells r.words.length ≤ s.trend.sent + 1 then
      s.setTrend { s.trend with queue := rest, begun := false, sent := 0 }
    else s.setTrend { s.trend with sent := s.trend.sent + 1 }

/-- The run of an ended downlink advanced. -/
def advanceRun (n : Station) (run : Option RunKind) (s : State) : State :=
  match run with
  | none => s
  | some .readout => advanceReadout n s
  | some .stream => advanceStream s

/-- The end of a slot's downlink (R169). -/
def downlinkEnd (n : Station) (s : State) : State :=
  match (s.loop.lines.get n).onAir with
  | none => s
  | some a => advanceRun n a.run (setLine n { s.loop.lines.get n with onAir := none } s)

/-! ## The rows -/

/-- FRAME_MARK (R162). -/
def execFrameMark (feedback : PerActuator Nat) (order : List MarkBlock) (turn : Turn) (s : State) : Result :=
  .next (unlessHeld (frameMark feedback order turn) s)

/-- FRAME_MARK_END (R171). -/
def execFrameMarkEnd (heard : Readback) (s : State) : Result := .next (unlessHeld (frameMarkEnd heard) s)

/-- LOOP_FAULT_RAISE (R171): the third of three consecutive mismatched marks. -/
def execLoopFaultRaise (s : State) : Result :=
  if s.conditions.loopFault = false ∧ 2 ≤ s.loop.mismatchRun then .next (changeLoopFault true s) else .next s

/-- LOOP_FAULT_CLEAR (R171): the tenth of ten consecutive good marks. -/
def execLoopFaultClear (s : State) : Result :=
  if s.conditions.loopFault = true ∧ 9 ≤ s.loop.goodRun then .next (changeLoopFault false s) else .next s

/-- UPLINK_WINDOW_END (R165, R167). -/
def execUplinkWindowEnd (n : Station) (rx : Reception) (turn : Turn) (s : State) : Result :=
  .next (uplinkWindowEnd n rx turn s)

/-- DOWNLINK_START (R170). -/
def execDownlinkStart (n : Station) (s : State) : Result := .next (downlinkStart n s)

/-- DOWNLINK_END (R169). -/
def execDownlinkEnd (n : Station) (s : State) : Result := .next (downlinkEnd n s)

end Sys2Proof.Machine
end

