-- ==== Sys2Proof/Machine/Reset.lean ====
section
/-! DEFINITION. RESET: the loading of the settings (R180), every block's reset state, and the first plan (R49). -/

namespace Sys2Proof.Machine

/-- What a reset loads: the settings, the check word shown, and whether the stored copy failed its check (R180). -/
structure Loaded where
  settings : Settings
  check : Word
  defaulted : Bool

/-- The factory defaults, loaded where the check fails (R180). -/
def Loaded.defaults : Loaded := ⟨Config.factory, Config.factory.checkWord, true⟩

/-- The stored copy checked and loaded (R180). -/
def StoredCopy.load : StoredCopy → Loaded
  | .whole image check => if image.checkWord = check then ⟨image, check, false⟩ else Loaded.defaults
  | .torn => Loaded.defaults

/-- The station records at reset (R11). -/
def resetStations (g : Settings) : PerStation StationState :=
  g.slots.map fun t => if t.enabled then ⟨.absent, 0⟩ else ⟨.disabled, 0⟩

/-- The Scan Sequencer at reset: pass 0 on the loaded list, or stopped (R122). -/
def resetScan (g : Settings) : Scan where
  pass := 0#8
  working := stagedList g
  walk := startWalk 0#8 (stagedList g) 0#32
  checkSeen := false
  checkBad := false

/-- The conditions at reset (R123). -/
def resetConditions (defaulted : Bool) : Conditions := { Conditions.reset with settingsDefaulted := defaulted }

/-- The Loop Port at reset (R162, R171). -/
def resetLoop (g : Settings) : Loop :=
  ⟨0#16, false, enabledSlots g, PerStation.ofFn fun _ => Line.blank, 0, 0⟩

/-- A blower at reset (R135). Once RESETN is released its detectors compare the current, as they do continuously while
it is Running (R138, R139): a current that stands at or above a level starts that timer at once (log entry 11). -/
def resetBlower (held : Bool) (short overload current : Nat) : BlowerState :=
  if held then BlowerState.reset current else (BlowerState.reset current).watch short overload

/-- The state at reset before the first plan is formed, with the actuators and the queue of the state before. `held`
where RESETN stays asserted: the ALERT pin is then released (R134). -/
def resetBase (held : Bool) (l : Loaded) (s : State) : State where
  pending := s.pending
  settings := l.settings
  store := ⟨s.store.tear.stored, l.check, none⟩
  loop := resetLoop l.settings
  stations := resetStations l.settings
  table := []
  plan := ⟨0#16, PlanBody.first⟩
  resolver := ⟨false, false⟩
  reg := Regulator.reset
  purge := Purge.idleWith LastResult.none
  vehicle := Vehicle.reset
  clock := ⟨0#32, 0⟩
  scan := resetScan l.settings
  record := PerChannel.ofFn fun _ => ChannelRecord.blank
  scene := ⟨TimerPair.idle, TimerPair.idle, TimerPair.idle, TimerPair.idle, TimerPair.idle, TimerPair.idle,
    TimerPair.idle⟩
  conditions := resetConditions l.defaulted
  alert := !held && alertOf l.settings.alertMask (resetConditions l.defaulted)
  blowers := s.blowers.mapWith fun b r =>
    resetBlower held l.settings.shortLevel (l.settings.overloadLevel.get b) r.current
  actuators := s.actuators
  buffers := PerStation.ofFn fun _ => none
  marks := PerStation.ofFn fun _ => Marks.all
  detached := PerStation.ofFn fun _ => false
  trend := ⟨none, 0, [], false, 0⟩
  resetHeld := held

/-- The position read at reset: 0 where the reading is out of range (R160, step 3). -/
def resetPosition (reading closedEnd openEnd : Nat) : Nat :=
  if readingInRange reading then positionOf reading closedEnd openEnd else 0

/-- An actuator at reset with its first target (R160): a move begins at once unless it waits for its first Frame
Mark, or RESETN stays asserted and holds the drive off. -/
def resetActuator (held : Bool) (reading closedEnd openEnd target : Nat) : ActuatorState :=
  let p := resetPosition reading closedEnd openEnd
  let a : ActuatorState := ⟨target, p, .still, .off, p, 0, none, none, false, .none, !readingInRange reading, reading⟩
  if readingInRange reading && !held then a.fromStill else a

/-- The actuators at reset (R160). -/
def resetActuators (held : Bool) (feedback : PerActuator Nat) (g : Settings) (b : PlanBody) :
    PerActuator ActuatorState :=
  PerActuator.ofFn fun a =>
    resetActuator held (feedback.get a) (g.closedEnd.get a) (g.openEnd.get a) (b.actuatorTargets.get a)

/-- The first plan formed, installed with version 0 and handed on (R49, R69, R160). -/
def firstPlan (feedback : PerActuator Nat) (s : State) : State :=
  handOver ((s.setPlan ⟨0#16, formPlan s⟩).setActuators (resetActuators s.resetHeld feedback s.settings (formPlan s)))

/-- The whole part at reset (R11, R49, R122, R160, R180). -/
def resetPart (feedback : PerActuator Nat) (held : Bool) (s : State) : State :=
  firstPlan feedback (resetBase held s.store.tear.stored.load s)

/-- RESET: power-on, a pulse of RESETN or its release, and with `held` its assertion for as long as it lasts (R134,
R135, R160, log entry 36). -/
def execReset (input : ResetInput) (s : State) : Result := .next (resetPart input.feedback input.held s)

end Sys2Proof.Machine
end

