-- ==== Sys2Proof/Machine/Dispatch.lean ====
section
/-! DEFINITION. The dispatch of a command to its meaning: one arm for each constructor of `Instr`. -/

namespace Sys2Proof.Machine

open Sys2Proof

/-- The effect of a command on everything but the queue. -/
def exec (i : Instr) (s : State) : Host.Outcome State Fault Refusal :=
  match i with
  | .reset input => Sys2Proof.Machine.execReset input s
  | .frameMark feedback order turn => Sys2Proof.Machine.execFrameMark feedback order turn s
  | .stationQuiet n => Sys2Proof.Machine.execStationQuiet n s
  | .stationLost n turn => Sys2Proof.Machine.execStationLost n turn s
  | .frameMarkEnd heard => Sys2Proof.Machine.execFrameMarkEnd heard s
  | .loopFaultRaise => Sys2Proof.Machine.execLoopFaultRaise s
  | .loopFaultClear => Sys2Proof.Machine.execLoopFaultClear s
  | .uplinkWindowEnd n rx turn => Sys2Proof.Machine.execUplinkWindowEnd n rx turn s
  | .downlinkStart n => Sys2Proof.Machine.execDownlinkStart n s
  | .downlinkEnd n => Sys2Proof.Machine.execDownlinkEnd n s
  | .idle n => Sys2Proof.Machine.execIdle n s
  | .unknownKind n kind => Sys2Proof.Machine.execUnknownKind n kind s
  | .setSetpoint n zone value => Sys2Proof.Machine.execSetSetpoint n zone value s
  | .setFan n zone level => Sys2Proof.Machine.execSetFan n zone level s
  | .setMode n mode => Sys2Proof.Machine.execSetMode n mode s
  | .setShelter n code => Sys2Proof.Machine.execSetShelter n code s
  | .withdraw n kind zone => Sys2Proof.Machine.execWithdraw n kind zone s
  | .withdrawAll n => Sys2Proof.Machine.execWithdrawAll n s
  | .shelterRelease n => Sys2Proof.Machine.execShelterRelease n s
  | .purge n scope => Sys2Proof.Machine.execPurge n scope s
  | .purgeCancel n => Sys2Proof.Machine.execPurgeCancel n s
  | .clearLatches n => Sys2Proof.Machine.execClearLatches n s
  | .readout n start count => Sys2Proof.Machine.execReadout n start count s
  | .joinStream n mask decimation => Sys2Proof.Machine.execJoinStream n mask decimation s
  | .leaveStream n => Sys2Proof.Machine.execLeaveStream n s
  | .vehicleReport n fields doors turn => Sys2Proof.Machine.execVehicleReport n fields doors turn s
  | .stationRestart n => Sys2Proof.Machine.execStationRestart n s
  | .settingsStore n => Sys2Proof.Machine.execSettingsStore n s
  | .storeComplete => Sys2Proof.Machine.execStoreComplete s
  | .settingsWrite n index value => Sys2Proof.Machine.execSettingsWrite n index value s
  | .supervisionWindowWrite n w value => Sys2Proof.Machine.execSupervisionWindowWrite n w value s
  | .slotEnableWrite n slot value => Sys2Proof.Machine.execSlotEnableWrite n slot value s
  | .slotClassWrite n slot value => Sys2Proof.Machine.execSlotClassWrite n slot value s
  | .slotRankWrite n slot value => Sys2Proof.Machine.execSlotRankWrite n slot value s
  | .slotScopeWrite n slot value => Sys2Proof.Machine.execSlotScopeWrite n slot value s
  | .planSettingWrite n p value => Sys2Proof.Machine.execPlanSettingWrite n p value s
  | .regulatorGainWrite n g value => Sys2Proof.Machine.execRegulatorGainWrite n g value s
  | .doorLevelWrite n value => Sys2Proof.Machine.execDoorLevelWrite n value s
  | .purgeSettingWrite n p value => Sys2Proof.Machine.execPurgeSettingWrite n p value s
  | .doorMapWrite n d value => Sys2Proof.Machine.execDoorMapWrite n d value s
  | .returnTimeWrite n value => Sys2Proof.Machine.execReturnTimeWrite n value s
  | .scanListWrite n f value => Sys2Proof.Machine.execScanListWrite n f value s
  | .calibrationWrite n c k value => Sys2Proof.Machine.execCalibrationWrite n c k value s
  | .thresholdWrite n t value => Sys2Proof.Machine.execThresholdWrite n t value s
  | .alertMaskWrite n value => Sys2Proof.Machine.execAlertMaskWrite n value s
  | .protectionLevelWrite n l value => Sys2Proof.Machine.execProtectionLevelWrite n l value s
  | .protectionTimeWrite n t value => Sys2Proof.Machine.execProtectionTimeWrite n t value s
  | .feedbackEndWrite n a e value => Sys2Proof.Machine.execFeedbackEndWrite n a e value s
  | .conversionEnd raw turn => Sys2Proof.Machine.execConversionEnd raw turn s
  | .emptyPassEnd turn => Sys2Proof.Machine.execEmptyPassEnd turn s
  | .trendCapture => Sys2Proof.Machine.execTrendCapture s
  | .purgeArmedLimit => Sys2Proof.Machine.execPurgeArmedLimit s
  | .purgeDeferredLimit => Sys2Proof.Machine.execPurgeDeferredLimit s
  | .purgeFlushingLimit => Sys2Proof.Machine.execPurgeFlushingLimit s
  | .fallbackFlushExpiry => Sys2Proof.Machine.execFallbackFlushExpiry s
  | .blowerCurrentChange b current => Sys2Proof.Machine.execBlowerCurrentChange b current s
  | .shortTrip b => Sys2Proof.Machine.execShortTrip b s
  | .overloadTrip b => Sys2Proof.Machine.execOverloadTrip b s
  | .cooldownEnd b => Sys2Proof.Machine.execCooldownEnd b s
  | .tripWindowExpiry b => Sys2Proof.Machine.execTripWindowExpiry b s
  | .actuatorStall a => Sys2Proof.Machine.execActuatorStall a s
  | .reversalEnd a => Sys2Proof.Machine.execReversalEnd a s
  | .stallWaitEnd a => Sys2Proof.Machine.execStallWaitEnd a s
  | .powerLoss => Sys2Proof.Machine.execPowerLoss s

end Sys2Proof.Machine
end

