-- ==== Sys2Proof/Machine/Step.lean ====
section
/-! DEFINITION. One step: the command at the front of the queue, or a tick of the clock on an empty queue (log
entry 1). -/

namespace Sys2Proof.Machine

/-- One step. On an empty queue 0.1 ms passes (R105, R138), but while RESETN holds the part in reset. -/
def step (s : State) : Host.Outcome State Fault Refusal :=
  match s.pending with
  | [] => .next (unlessHeld (elapse 1) s)
  | c :: rest => exec c (s.setPending rest)

/-- `s` with the command that a word of the table spells at the front of its queue; the table gives no row any bits,
so no word spells one. -/
def State.withFetchWord (s : State) (nbits w : Nat) : State :=
  match decodeTableWord nbits w with
  | some c => s.setPending (c :: s.pending)
  | none => s

end Sys2Proof.Machine
end

