-- ==== Sys2Proof/WellFormed.lean ====
section
/-! DEFINITION. Which commands can come: the checks on operands that the types of `Instr` do not make. Every
meaning is total, so a command that fails them has a meaning too; the checks say what the manual lets a sender send. -/

namespace Sys2Proof

/-- A feedback reading lies in 0 to 1000 ‰ of VREF (section 9.2). -/
def readingsOk (fb : PerActuator Nat) : Bool :=
  fb.toList.all fun r => decide (r ≤ 1000)

/-- An order names each block of a Frame Mark once. -/
def orderOk (order : List MarkBlock) : Bool :=
  decide order.Nodup && decide (order.length = 4)

/-- A window of 260 µs holds at most the 11 bytes of a cell, and none where no start bit fell in time (R161, R165). -/
def receptionOk (rx : Reception) : Bool :=
  decide (rx.bytes.length ≤ 11) && (rx.started || rx.bytes.isEmpty)

/-- The request kind codes are 00 to 11 hex (R166). -/
def namesKind (k : Byte) : Bool :=
  decide (k.toNat ≤ 0x11)

/-- The checks on the operands of a command. -/
def Instr.wellFormed : Instr → Bool
  | .reset input => readingsOk input.feedback
  | .frameMark fb order _ => readingsOk fb && orderOk order
  | .uplinkWindowEnd _ rx _ => receptionOk rx
  | .unknownKind _ k => !namesKind k
  | .blowerCurrentChange _ i => decide (i ≤ 400)
  | .stationQuiet _ | .stationLost _ _ | .frameMarkEnd _ | .loopFaultRaise | .loopFaultClear => true
  | .downlinkStart _ | .downlinkEnd _ | .idle _ => true
  | .setSetpoint _ _ _ | .setFan _ _ _ | .setMode _ _ | .setShelter _ _ => true
  | .withdraw _ _ _ | .withdrawAll _ | .shelterRelease _ => true
  | .purge _ _ | .purgeCancel _ | .clearLatches _ => true
  | .readout _ _ _ | .joinStream _ _ _ | .leaveStream _ => true
  | .vehicleReport _ _ _ _ | .stationRestart _ | .settingsStore _ | .storeComplete => true
  | .settingsWrite _ _ _ | .supervisionWindowWrite _ _ _ => true
  | .slotEnableWrite _ _ _ | .slotClassWrite _ _ _ | .slotRankWrite _ _ _ | .slotScopeWrite _ _ _ => true
  | .planSettingWrite _ _ _ | .regulatorGainWrite _ _ _ | .doorLevelWrite _ _ => true
  | .purgeSettingWrite _ _ _ | .doorMapWrite _ _ _ | .returnTimeWrite _ _ | .scanListWrite _ _ _ => true
  | .calibrationWrite _ _ _ _ | .thresholdWrite _ _ _ | .alertMaskWrite _ _ => true
  | .protectionLevelWrite _ _ _ | .protectionTimeWrite _ _ _ | .feedbackEndWrite _ _ _ _ => true
  | .conversionEnd _ _ | .emptyPassEnd _ | .trendCapture => true
  | .purgeArmedLimit | .purgeDeferredLimit | .purgeFlushingLimit | .fallbackFlushExpiry => true
  | .shortTrip _ | .overloadTrip _ | .cooldownEnd _ | .tripWindowExpiry _ => true
  | .actuatorStall _ | .reversalEnd _ | .stallWaitEnd _ | .powerLoss => true

end Sys2Proof
end

