-- ==== Sys2Proof/Safety.lean ====
section
/-! DEFINITION. The terms in which claims about runs are stated: which parts of the state a command may change, what a
resolution may change, how a request is handled, and the invariants that every step keeps. -/

namespace Sys2Proof.Machine

open Sys2Proof

/-! ## What a command may change -/

/-- A part of the state, one for each field of `State`. -/
inductive Part where
  | pending
  | settings
  | store
  | loop
  | stations
  | table
  | plan
  | resolver
  | reg
  | purge
  | vehicle
  | clock
  | scan
  | record
  | scene
  | conditions
  | alert
  | blowers
  | actuators
  | buffers
  | marks
  | detached
  | trend
  | resetHeld
  deriving DecidableEq, Repr

/-- The part reads the same in both states. -/
def Part.same (s t : State) : Part → Prop
  | .pending => t.pending = s.pending
  | .settings => t.settings = s.settings
  | .store => t.store = s.store
  | .loop => t.loop = s.loop
  | .stations => t.stations = s.stations
  | .table => t.table = s.table
  | .plan => t.plan = s.plan
  | .resolver => t.resolver = s.resolver
  | .reg => t.reg = s.reg
  | .purge => t.purge = s.purge
  | .vehicle => t.vehicle = s.vehicle
  | .clock => t.clock = s.clock
  | .scan => t.scan = s.scan
  | .record => t.record = s.record
  | .scene => t.scene = s.scene
  | .conditions => t.conditions = s.conditions
  | .alert => t.alert = s.alert
  | .blowers => t.blowers = s.blowers
  | .actuators => t.actuators = s.actuators
  | .buffers => t.buffers = s.buffers
  | .marks => t.marks = s.marks
  | .detached => t.detached = s.detached
  | .trend => t.trend = s.trend
  | .resetHeld => t.resetHeld = s.resetHeld

/-- From `s` to `t` only the parts listed may change. -/
def ChangesOnly (ps : List Part) (s t : State) : Prop :=
  ∀ p, p ∉ ps → p.same s t

/-- Of the condition set only the conditions listed may change. -/
def ConditionsChangeOnly (cs : List Condition) (s t : State) : Prop :=
  ∀ c, c ∉ cs → t.conditions.get c = s.conditions.get c

/-- Of the change marks of each station only those of the groups listed may change. -/
def MarksChangeOnly (gs : List Group) (s t : State) : Prop :=
  ∀ n g, g ∉ gs → (t.marks.get n).get g = (s.marks.get n).get g

/-- A group's mark is set for every station that is not Disabled (R179). -/
def MarkedAll (g : Group) (t : State) : Prop :=
  ∀ n, t.modeOf n ≠ .disabled → (t.marks.get n).get g = true

/-- Of the Loop Port only the line of slot `n` changes, to `l`. -/
def LineBecomes (n : Station) (l : Line) (s t : State) : Prop :=
  t.loop = { s.loop with lines := s.loop.lines.set n l }

/-- The parts that a resolution may change: the plan and what takes it (R23, R26). -/
def resolutionParts : List Part :=
  [.plan, .resolver, .reg, .conditions, .alert, .blowers, .actuators, .marks]

/-- Of the blowers only the targets may change. -/
def BlowersKeepAllButTargets (s t : State) : Prop :=
  ∀ b, t.blowers.get b = { s.blowers.get b with target := (t.blowers.get b).target }

/-- `t` is `s` after one resolution (R23, R25): the plan in force is the plan that the state forms, its version one
higher exactly where a field changed, and an unchanged plan changes nothing but the heater availability of R45. Beside
the plan only what R26 hands it to may change. -/
structure Resolved (s t : State) : Prop where
  parts : ChangesOnly resolutionParts s t
  conditions : ConditionsChangeOnly [.holdShortfall, .coUnderSeal] s t
  marks : MarksChangeOnly [.plan, .conditions] s t
  blowers : BlowersKeepAllButTargets s t
  latch : t.resolver.autoLatch = s.resolver.autoLatch
  current : t.plan.body = formPlan t
  version : t.plan.version = if t.plan.body = s.plan.body then s.plan.version else s.plan.version + 1#16
  quiet : t.plan.body = s.plan.body → ChangesOnly [.resolver] s t

/-- `t` is `s` after one resolution where there was a trigger, and `s` itself where there was none (R21, R24). -/
def ResolvedIf (trigger : Prop) (s t : State) : Prop :=
  (trigger → Resolved s t) ∧ (¬trigger → t = s)

/-! ## Requests -/

/-- The classes that may send a kind, by the table of R2; the code of a kind is that of R166. -/
def mayRequest (c : StationClass) (kind : Byte) : Bool :=
  match kind.toNat with
  | 0x00 | 0x0B | 0x11 => true
  | 0x0E => decide (c = .vehicle)
  | 0x0F | 0x10 => decide (c = .service)
  | _ => decide (c ≠ .vehicle)

/-- The station and the kind code of a command that is the arrival of a request of R166 but Idle; none for the other
commands. -/
def requestOf : Instr → Option (Station × Byte)
  | .setSetpoint n _ _ => some (n, 0x01#8)
  | .setFan n _ _ => some (n, 0x02#8)
  | .setMode n _ => some (n, 0x03#8)
  | .setShelter n _ => some (n, 0x04#8)
  | .withdraw n _ _ => some (n, 0x05#8)
  | .withdrawAll n => some (n, 0x06#8)
  | .purge n _ => some (n, 0x07#8)
  | .purgeCancel n => some (n, 0x08#8)
  | .shelterRelease n => some (n, 0x09#8)
  | .clearLatches n => some (n, 0x0A#8)
  | .readout n _ _ => some (n, 0x0B#8)
  | .joinStream n _ _ => some (n, 0x0C#8)
  | .leaveStream n => some (n, 0x0D#8)
  | .vehicleReport n _ _ _ => some (n, 0x0E#8)
  | .settingsWrite n _ _ => some (n, 0x0F#8)
  | .supervisionWindowWrite n _ _ => some (n, 0x0F#8)
  | .slotEnableWrite n _ _ => some (n, 0x0F#8)
  | .slotClassWrite n _ _ => some (n, 0x0F#8)
  | .slotRankWrite n _ _ => some (n, 0x0F#8)
  | .slotScopeWrite n _ _ => some (n, 0x0F#8)
  | .planSettingWrite n _ _ => some (n, 0x0F#8)
  | .regulatorGainWrite n _ _ => some (n, 0x0F#8)
  | .doorLevelWrite n _ => some (n, 0x0F#8)
  | .purgeSettingWrite n _ _ => some (n, 0x0F#8)
  | .doorMapWrite n _ _ => some (n, 0x0F#8)
  | .returnTimeWrite n _ => some (n, 0x0F#8)
  | .scanListWrite n _ _ => some (n, 0x0F#8)
  | .calibrationWrite n _ _ _ => some (n, 0x0F#8)
  | .thresholdWrite n _ _ => some (n, 0x0F#8)
  | .alertMaskWrite n _ => some (n, 0x0F#8)
  | .protectionLevelWrite n _ _ => some (n, 0x0F#8)
  | .protectionTimeWrite n _ _ => some (n, 0x0F#8)
  | .feedbackEndWrite n _ _ _ => some (n, 0x0F#8)
  | .settingsStore n => some (n, 0x10#8)
  | .stationRestart n => some (n, 0x11#8)
  | .reset _ | .frameMark _ _ _ | .stationQuiet _ | .stationLost _ _ | .frameMarkEnd _ => none
  | .loopFaultRaise | .loopFaultClear | .uplinkWindowEnd _ _ _ | .downlinkStart _ | .downlinkEnd _ => none
  | .idle _ | .unknownKind _ _ | .storeComplete | .conversionEnd _ _ | .emptyPassEnd _ | .trendCapture => none
  | .purgeArmedLimit | .purgeDeferredLimit | .purgeFlushingLimit | .fallbackFlushExpiry => none
  | .blowerCurrentChange _ _ | .shortTrip _ | .overloadTrip _ | .cooldownEnd _ | .tripWindowExpiry _ => none
  | .actuatorStall _ | .reversalEnd _ | .stallWaitEnd _ | .powerLoss => none

/-- A request of kind `k` from station `n` handled from the state `s`: its state is compared with the state that an
Idle cell in its place leaves, which is `s` with the station refreshed by R4. The slot's window holds the kind and its
Answer, and `P` tells the rest: of the refreshed state with that window, of the state the request leaves, and of the
Answer. -/
def Handled (c : Instr) (n : Station) (k : Byte) (s : State) (P : State → State → Answer → Prop) : Prop :=
  ∃ a t ans,
    exec (.idle n) s = .next a ∧ exec c s = .next t ∧
    LineBecomes n { a.loop.lines.get n with window := .taken k (some ans) } a t ∧
    P (a.setLoop t.loop) t ans

/-- A request refused with a code: nothing changes beyond the refresh, and the Answer carries zeros (R2, R168). -/
def Refused (c : Instr) (n : Station) (k : Byte) (code : AnswerCode) (s : State) : Prop :=
  Handled c n k s fun a t ans => t = a ∧ ans = ⟨code, 0#16, 0#16, 0#16⟩

/-- The table has an entry of the key, or room for one (R14, check 4). -/
def HasRoom (s : State) (n : Station) (k : Key) : Prop :=
  (∃ e ∈ s.table, e.station = n ∧ e.demand.key = k) ∨ s.table.length < 24

/-- The table with the entry of a key replaced and moved to the tail, or appended (R18). -/
def renewed (n : Station) (d : Demand) (t : List Entry) : List Entry :=
  t.filter (fun e => decide (¬(e.station = n ∧ e.demand.key = d.key))) ++ [⟨n, d, false⟩]

/-- A set request applied: the table renewed, the Answer with its code, the value as stored and the number of entries,
and one trigger (R18). -/
def Stored (n : Station) (d : Demand) (value : Word) (code : AnswerCode) (a t : State) (ans : Answer) : Prop :=
  t.table = renewed n d a.table ∧
  ans = ⟨code, value, Word.ofNat t.table.length, 0#16⟩ ∧
  Resolved (a.setTable t.table) t

/-- The table cut down to the entries that satisfy `keep`, with a trigger where one was removed, and the Answer with
the number removed and the number left (R19). -/
def CutDown (keep : Entry → Bool) (a t : State) (ans : Answer) : Prop :=
  t.table = a.table.filter keep ∧
  ans = ⟨.done, Word.ofNat (a.table.length - t.table.length), Word.ofNat t.table.length, 0#16⟩ ∧
  ResolvedIf (t.table.length < a.table.length) (a.setTable t.table) t

/-- The trend stream after station `n` has lost it, where it held it (R176). -/
def Trend.without (tr : Trend) (n : Station) : Trend :=
  if tr.hold.any (fun h => decide (h.station = n)) then
    { tr with hold := none, queue := [], begun := false, sent := 0 }
  else tr

/-! ## Arithmetic of the manual -/

/-- `q` is the quotient `p / d` rounded to the nearest whole number, halves away from zero (R113, R149). -/
def RoundsTo (p : Int) (d : Nat) (q : Int) : Prop :=
  2 * (d * q - p).natAbs < d ∨ (2 * (d * q - p).natAbs = d ∧ p.natAbs < (d * q).natAbs)

/-- `v` brought into the range `lo` to `hi`. -/
def within (lo hi v : Int) : Int := max lo (min hi v)

/-! ## Supervision -/

/-- The record of a station after a Frame Mark (R3, R5, R6). -/
def supervised (g : Settings) (r : StationState) : StationState :=
  match r.mode with
  | .live =>
    if g.lostWindow ≤ r.silence + 1 ∧ g.quietWindow ≤ r.silence + 1 then ⟨.lost, 0⟩
    else if g.quietWindow ≤ r.silence + 1 then ⟨.quiet, r.silence + 1⟩
    else ⟨.live, r.silence + 1⟩
  | .quiet => if g.lostWindow ≤ r.silence + 1 then ⟨.lost, 0⟩ else ⟨.quiet, r.silence + 1⟩
  | .disabled => r
  | .absent => r
  | .lost => r

/-- The station enters Lost between two states (R6). -/
def EntersLost (s t : State) (n : Station) : Prop := s.modeOf n ≠ .lost ∧ t.modeOf n = .lost

/-- At a Frame Mark from `s` every station keeps its state (R5, R6), and the plan is the one its inputs form. -/
def Steady (s : State) : Prop :=
  s.plan.body = formPlan s ∧ ∀ n, (supervised s.settings (s.stations.get n)).mode = s.modeOf n

/-- A steady state with no purge under way: a Frame Mark from it installs no new plan. -/
def Calm (s : State) : Prop := Steady s ∧ s.purge.phase = .idle

/-! ## The scan -/

/-- The next pass begun at the count `now`, from `s`: the next pass number (R108), the staged list as the working list
(R111), the walk from its first due entry, an empty pass or the stop (R108, R112), no check seen yet (R115), and the
channels that the list drops Unsampled (R111). -/
structure NextPass (now : BitVec 32) (s t : State) : Prop where
  pass : t.scan.pass = s.scan.pass + 1#8
  working : t.scan.working = s.settings.scanPositions.take s.settings.scanLength
  checks : t.scan.checkSeen = false ∧ t.scan.checkBad = false
  stop : t.scan.working = [] → t.scan.walk = .stopped
  empty : t.scan.working ≠ [] → (∀ e ∈ t.scan.working, t.scan.pass.toNat % e.divider ≠ 0) → t.scan.walk = .empty now
  first : ∀ (before : List ScanEntry) (e : ScanEntry) (after : List ScanEntry),
    t.scan.working = before ++ e :: after → (∀ x ∈ before, t.scan.pass.toNat % x.divider ≠ 0) →
    t.scan.pass.toNat % e.divider = 0 → t.scan.walk = .converting e after now
  kept : t.scan.working = s.scan.working → t.record = s.record
  dropped : t.scan.working ≠ s.scan.working → ∀ c, t.record.get c =
    if t.scan.working.any (fun e => decide (e.channel = c)) then s.record.get c else ⟨.unsampled, none, none, 0⟩

/-- Converter Drift after a pass end and the next pass begun: it stands where it was raised, unless the pass converted a
check and none of it was Bad, or a new list holds no check (R115). -/
def DriftJudged (raised seen bad : Prop) (s t : State) : Prop :=
  t.conditions.converterDrift = true ↔
    raised ∧ ¬(seen ∧ ¬bad) ∧
    (t.scan.working = s.scan.working ∨ ∃ e ∈ t.scan.working, e.channel = .reference ∨ e.channel = .ground)

/-! ## The trend stream -/

/-- The trend record of a capture: the pass, the frame and the channels of the mask in increasing number, each with its
value and the Held flag where it shows a value (R177). -/
def capturedRecord (h : Hold) (s : State) : TrendRecord where
  pass := s.scan.pass
  frame := s.loop.frame
  overrun := false
  entries := (Channel.all.filter fun c => h.mask.getLsbD c.num).map fun c =>
    if (s.record.get c).status = .fresh ∨ (s.record.get c).status = .held then
      (s.record.get c).value.map fun v => (decide ((s.record.get c).status = .held), v)
    else none

/-- A record joins the Trend Queue and the pass counter returns to 0: a full queue loses the oldest record whose run has
not begun, and the record after it takes the Overrun mark (R177). -/
def Captured (r : TrendRecord) (before after : Trend) : Prop :=
  (before.queue.length < 48 → after = { before with passCounter := 0, queue := before.queue ++ [r] }) ∧
  (48 ≤ before.queue.length →
    ∃ x ys, before.queue.drop (if before.begun then 2 else 1) ++ [r] = x :: ys ∧
      after = { before with
        passCounter := 0
        queue := before.queue.take (if before.begun then 1 else 0) ++ { x with overrun := true } :: ys })

/-- A pass end at the trend stream: nothing without a holder, else the counter one on, with a capture where it reaches
the decimation (R121, R177). -/
def PassCounted (s t : State) : Prop :=
  (s.trend.hold = none → t.trend = s.trend) ∧
  ∀ h, s.trend.hold = some h →
    (s.trend.passCounter + 1 < h.decimation → t.trend = { s.trend with passCounter := s.trend.passCounter + 1 }) ∧
    (h.decimation ≤ s.trend.passCounter + 1 → Captured (capturedRecord h s) s.trend t.trend)

/-! ## Actuators -/

/-- The actuator after targets of new plans, each taken by R151, one after another; none leaves it as it is. -/
def Retargeted (a b : ActuatorState) : Prop := ∃ ts : List Nat, b = ts.foldl ActuatorState.takeTarget a

/-- The target lies within 2 of the position (R151). -/
def ActuatorState.AtTarget (a : ActuatorState) : Prop := a.target ≤ a.position + 2 ∧ a.position ≤ a.target + 2

/-- The actuator come to rest: Still, its drive off and its timers idle (R152 to R154). -/
def ActuatorState.restsAt (a : ActuatorState) : ActuatorState :=
  { a with motion := .still, drive := .off, stallTimer := 0, reversal := none, stallWait := none }

/-- The actuator set Moving toward its target, progress judged from its position (R151, R153, R154). -/
def ActuatorState.movesOff (a : ActuatorState) (retry : Bool) : ActuatorState :=
  { a with
    motion := .moving
    drive := if a.position < a.target then .opening else .closing
    stallRef := a.position
    stallTimer := 0
    reversal := none
    stallWait := none
    retryUsed := retry }

/-- The actuator Stalled, before its retry (R152). -/
def ActuatorState.stalls (a : ActuatorState) : ActuatorState :=
  { a with motion := .stalled, drive := .off, stallTimer := 0, stallWait := some 0, lastFault := .stall }

/-- The actuator Stuck with a fault kind (R150, R152). -/
def ActuatorState.sticks (a : ActuatorState) (k : FaultKind) : ActuatorState :=
  { a with
    motion := .stuck, drive := .off, stallTimer := 0, reversal := none, stallWait := none, lastFault := k,
    waiting := false }

/-- What a Frame Mark makes of a Moving actuator whose position has been read: arrival, overshoot, progress, or a stall
at 150 frames (R152). -/
def MovingStep (w v : ActuatorState) : Prop :=
  (w.AtTarget → v = w.restsAt) ∧
  (¬w.AtTarget → (if w.position < w.target then Drive.opening else Drive.closing) ≠ w.drive →
    v = { w with motion := .reversing, drive := .off, stallTimer := 0, reversal := some 0 }) ∧
  (¬w.AtTarget → (if w.position < w.target then Drive.opening else Drive.closing) = w.drive →
    (w.position ≠ w.stallRef → v = { w with stallRef := w.position, stallTimer := 0 }) ∧
    (w.position = w.stallRef → w.stallTimer + 1 < 150 → v = { w with stallTimer := w.stallTimer + 1 }) ∧
    (w.position = w.stallRef → 150 ≤ w.stallTimer + 1 →
      v = if w.retryUsed then w.sticks .stall else w.stalls))

/-- What a Frame Mark makes of an actuator `u` with the reading `f`: an out-of-range reading makes it Stuck, its position
kept (R150); an in-range one gives the position by R149, and the motion goes on by R152, R153 and R154, or for one that
waited for its first mark by R160. -/
def ActuatorMarked (f closed opened : Nat) (u v : ActuatorState) : Prop :=
  (¬(20 ≤ f ∧ f ≤ 980) →
    v = if u.motion = .stuck then { u with feedback := f } else { u with feedback := f }.sticks .feedback) ∧
  (20 ≤ f ∧ f ≤ 980 → closed < opened →
    ∃ (q : Int) (w : ActuatorState), RoundsTo (((f : Int) - closed) * 100) (opened - closed) q ∧
      w = { u with feedback := f, position := (within 0 100 q).toNat } ∧
      (u.waiting = true →
        (w.AtTarget → v = { w with waiting := false, stallRef := w.position }) ∧
        (¬w.AtTarget → v = { w with waiting := false }.movesOff false)) ∧
      (u.waiting = false →
        (u.motion = .still ∨ u.motion = .stuck → v = w) ∧
        (u.motion = .moving → MovingStep w v) ∧
        (u.motion = .reversing →
          (u.reversal = none → v = w) ∧
          ∀ k, u.reversal = some k →
            (k + 1 < 10 → v = { w with reversal := some (k + 1) }) ∧
            (10 ≤ k + 1 → (w.AtTarget → v = w.restsAt) ∧ (¬w.AtTarget → v = w.movesOff w.retryUsed))) ∧
        (u.motion = .stalled →
          (u.stallWait = none → v = w) ∧
          ∀ k, u.stallWait = some k →
            (k + 1 < 500 → v = { w with stallWait := some (k + 1) }) ∧
            (500 ≤ k + 1 → (w.AtTarget → v = w.restsAt) ∧ (¬w.AtTarget → v = w.movesOff true)))))

/-! ## Purges -/

/-- A door in the scope of a purge is open (R72). -/
def DoorOpenIn (sc : PurgeScope) (s : State) : Prop :=
  ∃ d, s.vehicle.record.doors.get d = true ∧
    (s.settings.doorMap.get d = .rear ∨ (sc = .whole ∧ s.settings.doorMap.get d = .front))

/-- From `s` to `t` the purge under way ends with a result (R82, R83, R84). -/
def PurgeEnds (r : PurgeResult) (s t : State) : Prop :=
  t.purge = ⟨.idle, none, none, none, 0, 0, 0, 0, 0,
    ⟨r, s.purge.scope, s.purge.originator, s.purge.litres, s.purge.flushing / 100, s.purge.deferred / 100,
     s.plan.body.shelter⟩⟩ ∧
  t.conditions.purgeIncomplete =
    (s.conditions.purgeIncomplete || decide (r = .abortedDoors ∨ r = .abortedSmoke ∨ r = .abortedTime)) ∧
  t.plan.body = formPlan t ∧
  MarkedAll .purge t ∧
  ChangesOnly (.purge :: resolutionParts) s t ∧
  ConditionsChangeOnly [.purgeIncomplete, .holdShortfall, .coUnderSeal] s t ∧
  MarksChangeOnly [.purge, .plan, .conditions] s t ∧
  BlowersKeepAllButTargets s t

/-! ## Trips -/

/-- A blower after a trip of a kind (R140). -/
def tripped (b : BlowerState) (k : TripKind) : BlowerState where
  target := b.target
  output := 0
  protection := if 3 ≤ b.trips then .latched else .tripped
  shortTimer := none
  overloadTimer := none
  cooldown := if 3 ≤ b.trips then none else some 0
  trips := if 3 ≤ b.trips then 4 else b.trips + 1
  window := if 3 ≤ b.trips then none else some (b.window.getD 0)
  lastTrip := k
  current := b.current

/-- A detector's timer judged afresh at a return to Running (R141, R143). -/
def freshTimer (current level : Nat) : Option Nat := if level ≤ current then some 0 else none

/-- From `s` to `t` blower `b` becomes `r` in its own event, with the Movers mark where `marked`, and Motor Fault
follows the Latched blowers with its one trigger (R144, R147). -/
def BlowerBecomes (b : Blower) (r : BlowerState) (marked : Prop) (s t : State) : Prop :=
  t.blowers.get b = { r with target := (t.blowers.get b).target } ∧
  (∀ b', b' ≠ b → t.blowers.get b' = { s.blowers.get b' with target := (t.blowers.get b').target }) ∧
  (t.conditions.motorFault = true ↔ ∃ b', (t.blowers.get b').protection = .latched) ∧
  (marked → MarkedAll .movers t) ∧
  ChangesOnly resolutionParts s t ∧
  ConditionsChangeOnly [.motorFault, .holdShortfall, .coUnderSeal] s t ∧
  MarksChangeOnly [.movers, .plan, .conditions] s t ∧
  (t.conditions.motorFault = s.conditions.motorFault →
    ChangesOnly [.blowers, .marks] s t ∧ (t.blowers.get b).target = r.target)

/-! ## Invariants -/

/-- At most 24 entries, no two with one key (R12). -/
def KeysDistinct (s : State) : Prop :=
  s.table.length ≤ 24 ∧ (s.table.map fun e => (e.station, e.demand.key)).Nodup

/-- Disabled is the state of exactly the stations whose slot is disabled; every entry belongs to a Live or Quiet
station, and is Held exactly where that station is Quiet (R1, R13). -/
def HeldWithQuiet (s : State) : Prop :=
  (∀ n, s.modeOf n = .disabled ↔ (s.slot n).enabled = false) ∧
  ∀ e ∈ s.table, (s.modeOf e.station = .live ∨ s.modeOf e.station = .quiet) ∧
    (e.held = true ↔ s.modeOf e.station = .quiet)

/-- The Request Table holds no entry outside its station's scope (R10, R14, R27). -/
def EntriesInScope (s : State) : Prop :=
  ∀ e ∈ s.table, e.demand.within (s.slot e.station).scope = true

/-- The Air Plan is the plan that its inputs form (R24, R25). -/
def PlanCurrent (s : State) : Prop := s.plan.body = formPlan s

/-- The integral lies between -256000 and 256000 (R50). -/
def IntegralBounded (s : State) : Prop := -256000 ≤ s.reg.integral ∧ s.reg.integral ≤ 256000

/-- An Idle purge holds no scope, originator or target and counts nothing; no count passes 65535 (R70, R82). -/
def IdlePurgeEmpty (s : State) : Prop :=
  s.purge.litres ≤ 65535 ∧
  (s.purge.phase = .idle →
    s.purge = ⟨.idle, none, none, none, 0, 0, 0, 0, 0, s.purge.last⟩)

/-- Each of these conditions is Raised exactly while its owner's rule holds: CO Under Seal (R130), Vehicle Unverified
(R98), Sensor Failed (R119), Motor Fault (R144), Actuator Stuck (R156). -/
def OwnedConditions (s : State) : Prop :=
  (s.conditions.coUnderSeal = true ↔ s.conditions.cabCoHigh = true ∧ s.plan.body.shelter = .sealed) ∧
  (s.conditions.vehicleUnverified = true ↔ s.vehicle.record.verified = false) ∧
  (s.conditions.sensorFailed = true ↔ ∃ e ∈ s.scan.working, (s.record.get e.channel).status = .failed) ∧
  (s.conditions.motorFault = true ↔ ∃ b, (s.blowers.get b).protection = .latched) ∧
  (s.conditions.actuatorStuck = true ↔ ∃ a, (s.actuators.get a).motion = .stuck)

/-- The ALERT pin is driven exactly while a condition of the Alert Mask is Raised and RESETN is not asserted (R134). -/
def AlertWithMask (s : State) : Prop :=
  s.alert = true ↔ s.resetHeld = false ∧ ∃ c, s.settings.alertMask.getLsbD c.num = true ∧ s.conditions.get c = true

/-- At most 48 trend records, and none while no station holds the stream (R176). -/
def TrendBounded (s : State) : Prop :=
  s.trend.queue.length ≤ 48 ∧ (s.trend.hold = none → s.trend.queue = [])

/-- The range of a channel (R104). -/
def channelRange : Channel → Int × Int
  | .cal .cabPressure => (-5000, 5000)
  | .cal .intakeFlow => (0, 2000)
  | .cal .filterDrop => (0, 5000)
  | .cal .outsideSmoke => (0, 1000)
  | .cal .outsideCo => (0, 1000)
  | .cal .frontCo => (0, 1000)
  | .cal .rearCo => (0, 1000)
  | .cal .frontTemp => (-400, 1250)
  | .cal .rearTemp => (-400, 1250)
  | .cal .coolantTemp => (-400, 1250)
  | .cal .supply => (0, 400)
  | .reference => (0, 16383)
  | .ground => (0, 16383)

/-- An entry of the Cab Air Record as R104 and R117 let it stand: a value exactly under Fresh and Held, in the channel's
range; a count of 0 under Fresh, 1 to 3 under Held, 4 or more under Failed, at most 3 under Unsampled. -/
def EntryConsistent (c : Channel) (r : ChannelRecord) : Prop :=
  r.bad ≤ 255 ∧
  (∀ v, r.value = some v → (channelRange c).1 ≤ v ∧ v ≤ (channelRange c).2) ∧
  match r.status with
  | .unsampled => r.value = none ∧ r.bad ≤ 3
  | .fresh => r.value.isSome ∧ r.sampleTime.isSome ∧ r.bad = 0
  | .held => r.value.isSome ∧ r.sampleTime.isSome ∧ 1 ≤ r.bad ∧ r.bad ≤ 3
  | .failed => r.value = none ∧ r.sampleTime.isSome ∧ 4 ≤ r.bad

/-- Every entry of the Cab Air Record is consistent (R104, R117). -/
def RecordConsistent (s : State) : Prop := ∀ c, EntryConsistent c (s.record.get c)

/-- The values the blower targets come from stay within 0 to 1000 ‰ (R12, R22, R50). -/
def LevelsInRange (s : State) : Prop :=
  s.reg.output ≤ 1000 ∧ s.reg.cap ≤ 1000 ∧ s.plan.body.frontBlower ≤ 1000 ∧ s.plan.body.rearBlower ≤ 1000 ∧
  ∀ e ∈ s.table, ∀ z l, e.demand = .fan z (.level l) → l ≤ 8

/-- Every blower's target and output lie within 0 to 1000 ‰, and the output is 0 unless the blower is Running (R135). -/
def StoppedAtZero (s : State) : Prop :=
  LevelsInRange s ∧
  ∀ b, (s.blowers.get b).target ≤ 1000 ∧ (s.blowers.get b).output ≤ 1000 ∧
    ((s.blowers.get b).protection ≠ .running → (s.blowers.get b).output = 0)

/-- Every actuator's target and position lie within 0 to 100 %, as the plan's targets do, and its drive is off exactly
where it is not Moving (R148). -/
def ActuatorsInRange (s : State) : Prop :=
  ∀ a, s.plan.body.actuatorTargets.get a ≤ 100 ∧ (s.actuators.get a).target ≤ 100 ∧
    (s.actuators.get a).position ≤ 100 ∧
    ((s.actuators.get a).drive = .off ↔ (s.actuators.get a).motion ≠ .moving)

/-! ## Cells and their commands -/

/-- The command that a valid cell is, by its kind code (R166). -/
def commandOf (c : Cell) (turn : Turn) : Instr :=
  match c.kind.toNat with
  | 0x00 => .idle c.station
  | 0x01 => .setSetpoint c.station c.w0 c.w1
  | 0x02 => .setFan c.station c.w0 c.w1
  | 0x03 => .setMode c.station c.w0
  | 0x04 => .setShelter c.station c.w0
  | 0x05 => .withdraw c.station c.w0 c.w1
  | 0x06 => .withdrawAll c.station
  | 0x07 => .purge c.station c.w0
  | 0x08 => .purgeCancel c.station
  | 0x09 => .shelterRelease c.station
  | 0x0A => .clearLatches c.station
  | 0x0B => .readout c.station c.w0 c.w1
  | 0x0C => .joinStream c.station c.w0 c.w1
  | 0x0D => .leaveStream c.station
  | 0x0E => .vehicleReport c.station c.w0 c.w1 turn
  | 0x0F => .settingsWrite c.station c.w0 c.w1
  | 0x10 => .settingsStore c.station
  | 0x11 => .stationRestart c.station
  | _ => .unknownKind c.station c.kind

/-- The row of the settings family that writes a setting; the Release Rank has none of its own and is written by its
index (R20). -/
def writeRow (n : Station) (st : Setting) (value : Word) : Instr :=
  match st with
  | .window w => .supervisionWindowWrite n w value
  | .releaseRank => .settingsWrite n 2#16 value
  | .slotEnabled m => .slotEnableWrite n m value
  | .slotClass m => .slotClassWrite n m value
  | .slotRank m => .slotRankWrite n m value
  | .slotScope m => .slotScopeWrite n m value
  | .plan p => .planSettingWrite n p value
  | .gain g => .regulatorGainWrite n g value
  | .doorLevel => .doorLevelWrite n value
  | .purge p => .purgeSettingWrite n p value
  | .doorMap d => .doorMapWrite n d value
  | .returnTime => .returnTimeWrite n value
  | .scan f => .scanListWrite n f value
  | .calibration c k => .calibrationWrite n c k value
  | .threshold t => .thresholdWrite n t value
  | .alertMask => .alertMaskWrite n value
  | .level l => .protectionLevelWrite n l value
  | .time t => .protectionTimeWrite n t value
  | .feedbackEnd a e => .feedbackEndWrite n a e value

/-! ## Settings -/

/-- The codes of a coded setting, 0 up to and including this one; none for a setting of numbers (section 12.4). -/
def lastCode : Setting → Option Nat
  | .slotEnabled _ => some 1
  | .slotClass _ => some 5
  | .slotScope _ => some 2
  | .plan .autoShelter => some 1
  | .plan .shelterOnPump => some 1
  | .purge .autoPurge => some 1
  | .doorMap _ => some 2
  | _ => none

/-- The range of a setting that is clamped into one, which may depend on the setting it is paired with (section 12.4);
none for a coded setting, for the Default Setpoint and a scan list position, which R48 and R110 bring in, and for a
setting that takes every value. -/
def rangeOf (g : Settings) : Setting → Option (Nat × Nat)
  | .window .quiet => some (10, 100)
  | .window .lost => some (g.quietWindow + 10, 1000)
  | .releaseRank => some (0, 7)
  | .slotRank _ => some (0, 7)
  | .plan .shelterTarget => some (50, 1500)
  | .plan .shelterBase => some (0, 1000)
  | .plan .shelterFloor => some (0, 1000)
  | .plan .freshTarget => some (50, 1500)
  | .plan .freshBase => some (0, 1000)
  | .plan .freshFloor => some (0, 1000)
  | .gain _ => some (0, 255)
  | .doorLevel => some (0, 1000)
  | .purge .frontVolume => some (500, 20000)
  | .purge .rearVolume => some (500, 20000)
  | .purge .purgeChanges => some (1, 8)
  | .purge .fallbackFlush => some (10, 600)
  | .returnTime => some (1, 60)
  | .scan .length => some (0, 20)
  | .threshold .smokeRaise => some (1, 1000)
  | .threshold .smokeClear => some (0, g.thresholds.smokeRaise - 1)
  | .threshold .heavyRaise => some (1, 1000)
  | .threshold .heavyClear => some (0, g.thresholds.heavyRaise - 1)
  | .threshold .outsideCoRaise => some (1, 1000)
  | .threshold .outsideCoClear => some (0, g.thresholds.outsideCoRaise - 1)
  | .threshold .cabCoRaise => some (1, 1000)
  | .threshold .cabCoClear => some (0, g.thresholds.cabCoRaise - 1)
  | .threshold .filterLimit => some (100, 5000)
  | .threshold .supplyLow => some (0, 399)
  | .threshold .supplyRecover => some (g.thresholds.supplyLow + 1, 400)
  | .level .short => some (100, 400)
  | .level (.overload _) => some (20, 250)
  | .time .short => some (1, 20)
  | .time .overload => some (5, 100)
  | .feedbackEnd _ .closed => some (20, 880)
  | .feedbackEnd a .opened => some (g.closedEnd.get a + 100, 980)
  | _ => none

/-- On as 1 and off as 0. -/
def switchValue (b : Bool) : Int := if b then 1 else 0

/-- A threshold's value. -/
def thresholdValue (t : Thresholds) : Threshold → Nat
  | .smokeRaise => t.smokeRaise
  | .smokeClear => t.smokeClear
  | .heavyRaise => t.heavyRaise
  | .heavyClear => t.heavyClear
  | .outsideCoRaise => t.outsideCoRaise
  | .outsideCoClear => t.outsideCoClear
  | .cabCoRaise => t.cabCoRaise
  | .cabCoClear => t.cabCoClear
  | .filterLimit => t.filterLimit
  | .supplyLow => t.supplyLow
  | .supplyRecover => t.supplyRecover

/-- A field of a scan list position as the table of section 12.4 numbers it. -/
def scanValue (e : ScanEntry) : ScanFieldKind → Nat
  | .channel => e.channel.num
  | .timeClass => e.timeClass
  | .divider => e.divider

/-- The value that the settings hold for a setting (section 12.4). -/
def settingValue (g : Settings) : Setting → Int
  | .window .quiet => g.quietWindow
  | .window .lost => g.lostWindow
  | .releaseRank => g.releaseRank
  | .slotEnabled n => switchValue (g.slots.get n).enabled
  | .slotClass n => (g.slots.get n).cls.code
  | .slotRank n => (g.slots.get n).rank
  | .slotScope n => (g.slots.get n).scope.code
  | .plan .defaultSetpoint => g.defaultSetpoint
  | .plan .autoShelter => switchValue g.autoShelter
  | .plan .shelterOnPump => switchValue g.shelterOnPump
  | .plan .shelterTarget => g.shelterTarget
  | .plan .shelterBase => g.shelterBase
  | .plan .shelterFloor => g.shelterFloor
  | .plan .freshTarget => g.freshTarget
  | .plan .freshBase => g.freshBase
  | .plan .freshFloor => g.freshFloor
  | .gain .kp => g.kp
  | .gain .ki => g.ki
  | .doorLevel => g.doorLevel
  | .purge .frontVolume => g.frontVolume
  | .purge .rearVolume => g.rearVolume
  | .purge .purgeChanges => g.purgeChanges
  | .purge .autoPurge => switchValue g.autoPurge
  | .purge .fallbackFlush => g.fallbackFlush
  | .doorMap d => (g.doorMap.get d).code
  | .returnTime => g.returnTime
  | .scan .length => g.scanLength
  | .scan (.position p k) => scanValue ((g.scanPositions[p.val]?).getD Config.spareScanEntry) k
  | .calibration c .gain => g.gain.get c
  | .calibration c .offset => g.offset.get c
  | .threshold t => thresholdValue g.thresholds t
  | .alertMask => g.alertMask.toNat
  | .level .short => g.shortLevel
  | .level (.overload b) => g.overloadLevel.get b
  | .time .short => g.shortTime
  | .time .overload => g.overloadTime
  | .feedbackEnd a .closed => g.closedEnd.get a
  | .feedbackEnd a .opened => g.openEnd.get a

/-- The value a word writes to a setting: a gain or an offset is signed (R114), every other unsigned (log entry 14). -/
def writtenAs (st : Setting) (value : Word) : Int :=
  match st with
  | .calibration _ _ => value.toInt
  | _ => value.toNat

/-- A write of the value is not answered Range: the value names a code of a coded setting, and the write leaves at most
one enabled slot with the Vehicle class (R182, checks 2 and 3). -/
def MayHold (s : State) (st : Setting) (value : Word) : Prop :=
  (∀ k, lastCode st = some k → value.toNat ≤ k) ∧
  (∀ m, st = .slotEnabled m → value.toNat = 1 → (s.slot m).cls = .vehicle →
    ∀ m', m' ≠ m → ¬((s.slot m').enabled = true ∧ (s.slot m').cls = .vehicle)) ∧
  (∀ m, st = .slotClass m → value.toNat = StationClass.vehicle.code → (s.slot m).enabled = true →
    ∀ m', m' ≠ m → ¬((s.slot m').enabled = true ∧ (s.slot m').cls = .vehicle))

/-- The value that a setting holds after an accepted write (R48, R110, R182). -/
def HeldAs (g : Settings) (st : Setting) (value : Word) (v : Int) : Prop :=
  match st with
  | .plan .defaultSetpoint =>
    ∃ r : Int, r % 5 = 0 ∧ r - 2 ≤ value.toNat ∧ value.toNat ≤ r + 2 ∧ v = within 120 300 r
  | .scan (.position _ .channel) => v = min 12 value.toNat
  | .scan (.position _ .timeClass) =>
    v = if value.toNat ≤ 2 then 2 else if value.toNat = 3 then 3 else if value.toNat ≤ 5 then 5 else 10
  | .scan (.position _ .divider) =>
    v = if value.toNat ≤ 1 then 1 else if value.toNat = 2 then 2 else if value.toNat ≤ 4 then 4 else 8
  | st =>
    match rangeOf g st with
    | some (lo, hi) => v = within lo hi value.toNat
    | none => v = writtenAs st value

/-- A write of the first setting may move the second, its pair (R7, R133, R157). -/
def followsFrom : Setting → Setting → Bool
  | .window .quiet, .window .lost => true
  | .threshold .smokeRaise, .threshold .smokeClear => true
  | .threshold .heavyRaise, .threshold .heavyClear => true
  | .threshold .outsideCoRaise, .threshold .outsideCoClear => true
  | .threshold .cabCoRaise, .threshold .cabCoClear => true
  | .threshold .supplyLow, .threshold .supplyRecover => true
  | .feedbackEnd a .closed, .feedbackEnd b .opened => decide (a = b)
  | _, _ => false

/-- The value of a setting after a write of `v` to the one it is paired with: moved as far as the pair's distance asks
(R7, R133, R157). -/
def keptApart (st : Setting) (v old : Int) : Int :=
  match st with
  | .window .quiet => max old (v + 10)
  | .threshold .supplyLow => max old (v + 1)
  | .threshold _ => min old (v - 1)
  | .feedbackEnd _ .closed => max old (v + 100)
  | _ => old

/-- The parts beside the working copy and the Settings marks that a write of a setting may change. -/
def settingParts : Setting → List Part
  | .slotEnabled _ => .stations :: .table :: .buffers :: .trend :: .vehicle :: .purge :: resolutionParts
  | .slotClass _ => .table :: .trend :: .detached :: .vehicle :: .purge :: resolutionParts
  | .slotRank _ => resolutionParts
  | .slotScope _ => .table :: resolutionParts
  | .plan _ => resolutionParts
  | .doorLevel => [.reg, .blowers, .conditions, .alert, .marks]
  | .doorMap _ => .vehicle :: .purge :: resolutionParts
  | .scan _ => .scan :: .record :: .scene :: .purge :: resolutionParts
  | .alertMask => [.alert, .marks]
  | .level _ => [.blowers, .marks]
  | .time .short => resolutionParts
  | _ => [.marks]

/-- Every setting lies in its range, the scan list has its twenty positions, each with a time class and a divider of
R110, and at most one enabled slot has the Vehicle class (R1, section 12.4). -/
def SettingsInRange (g : Settings) : Prop :=
  (∀ st lo hi, rangeOf g st = some (lo, hi) → (lo : Int) ≤ settingValue g st ∧ settingValue g st ≤ hi) ∧
  (g.defaultSetpoint % 5 = 0 ∧ 120 ≤ g.defaultSetpoint ∧ g.defaultSetpoint ≤ 300) ∧
  (∀ c k, -32768 ≤ settingValue g (.calibration c k) ∧ settingValue g (.calibration c k) ≤ 32767) ∧
  g.scanPositions.length = 20 ∧
  (∀ e ∈ g.scanPositions, e.timeClass ∈ [2, 3, 5, 10] ∧ e.divider ∈ [1, 2, 4, 8]) ∧
  ∀ n m, (g.slots.get n).enabled = true → (g.slots.get n).cls = .vehicle → (g.slots.get m).enabled = true →
    (g.slots.get m).cls = .vehicle → n = m

/-- The settings in force, the stored copy and the snapshot of a store in progress all lie in range. -/
def SettingsSound (s : State) : Prop :=
  SettingsInRange s.settings ∧
  (∀ g w, s.store.stored = .whole g w → SettingsInRange g) ∧
  ∀ w, s.store.writing = some w → SettingsInRange w.snapshot

/-- The service permit of R181. -/
def Permit (s : State) : Prop :=
  s.vehicle.record.verified = true ∧ s.vehicle.record.brake = true ∧ s.vehicle.record.pump = false ∧
  s.plan.body.shelter = .inactive ∧ s.plan.body.phase = .idle

end Sys2Proof.Machine
end

