-- ==== Sys2Proof/Certificates/Slice0/Obligations.lean ====
section
/-! DEFINITION. The statements for the provers. Each docstring names the rule of spec/ it formalises; a clause that rests
on a choice of the model names its log entry. -/

open Sys2Proof Sys2Proof.Machine

/-! ## The queue and the clock -/

/-- A step with a command at the front of the queue is that command on the state with the queue's rest (the model's
queue, log entry 1). -/
def Obligations.StepRunsTheFrontCommand : Prop :=
  ∀ (c : Instr) (rest : List Instr) (s : State), s.pending = c :: rest → step s = exec c (s.setPending rest)

/-- On an empty queue a step lets 0.1 ms pass (log entry 1): the millisecond count (R105) with its tenths advances
by one tenth, across its wrap; each running short timer (R138) advances by one tenth; nothing else changes. While
RESETN holds the part in reset nothing passes (log entry 36). -/
def Obligations.EmptyQueueLetsTimePass : Prop :=
  ∀ s : State, s.pending = [] → s.clock.tenths < 10 →
    (s.resetHeld = false →
      ∃ t, step s = .next t ∧
        10 * t.clock.ms.toNat + t.clock.tenths = (10 * s.clock.ms.toNat + s.clock.tenths + 1) % (10 * 2 ^ 32) ∧
        t.clock.tenths < 10 ∧
        (∀ b, t.blowers.get b = { s.blowers.get b with shortTimer := (s.blowers.get b).shortTimer.map (· + 1) }) ∧
        ChangesOnly [.clock, .blowers] s t) ∧
    (s.resetHeld = true → step s = .next s)

/-- Every command completes, whatever the state, and leaves the waiting commands as they are: nothing in the manual
stops the part. -/
def Obligations.EveryCommandCompletesAndKeepsTheQueue : Prop :=
  ∀ (c : Instr) (s : State), ∃ t, exec c s = .next t ∧ t.pending = s.pending

/-! ## Reset -/

/-- The state right after reset of a part as it leaves the factory meets every invariant stated below. -/
def Obligations.ResetStateMeetsTheInvariants : Prop :=
  KeysDistinct State.reset ∧ HeldWithQuiet State.reset ∧ EntriesInScope State.reset ∧ PlanCurrent State.reset ∧
  IntegralBounded State.reset ∧ IdlePurgeEmpty State.reset ∧ OwnedConditions State.reset ∧
  AlertWithMask State.reset ∧ TrendBounded State.reset ∧ RecordConsistent State.reset ∧ StoppedAtZero State.reset ∧
  ActuatorsInRange State.reset ∧ SettingsSound State.reset

/-- RESET: every enabled slot's station is Absent and every other Disabled, with counts of 0; there are no entries,
readout buffers or stream holder, no Detached indication, and every mark is set; the first Frame Mark after it carries
frame number 0 (R11), once RESETN is released (log entry 36). -/
def Obligations.ResetLeavesStationsUnheard : Prop :=
  ∀ (fb : PerActuator Nat) (held : Bool) (s : State),
    ∃ t, exec (.reset ⟨fb, held⟩) s = .next t ∧
      (∀ n, t.stations.get n = if (t.slot n).enabled then ⟨.absent, 0⟩ else ⟨.disabled, 0⟩) ∧
      t.table = [] ∧ (∀ n, t.buffers.get n = none) ∧ t.trend.hold = none ∧ t.trend.queue = [] ∧
      (∀ n, t.detached.get n = false) ∧ (∀ n, t.marks.get n = ⟨true, true, true, true, true, true⟩) ∧
      (held = false → ∀ (fb' : PerActuator Nat) (order : List MarkBlock) (turn : Turn),
        ∃ u, exec (.frameMark fb' order turn) t = .next u ∧ u.loop.frame = 0#16)

/-- RESET: the first plan (R49), the Hold Regulator (R50, R69), the Purge Controller (R70, R83), Vehicle State (R93), the
scan (R122), which starts pass 0 at once at the first entry of the loaded list or is stopped where that list is empty
(R108, R112), the conditions, with every timer of the Scene Evaluator idle (R123), the ALERT pin (R134), the blowers
(R135) and the Loop Port (R162, R171). A current that stands at or above a detector's level at the release of RESETN
starts its timer at once (R138, R139, with log entry 11). While RESETN stays asserted the ALERT pin is released (R134),
the blower outputs and every drive are off (R135, R160), no cell is taken, and no mark, readback, conversion or pass
changes anything (log entry 36). -/
def Obligations.ResetLeavesEveryBlockAtItsStart : Prop :=
  (∀ (fb : PerActuator Nat) (held : Bool) (s : State),
    ∃ t, exec (.reset ⟨fb, held⟩) s = .next t ∧ t.resetHeld = held ∧
      t.plan = ⟨0#16, { PlanBody.first with
        frontSetpoint := t.settings.defaultSetpoint, rearSetpoint := t.settings.defaultSetpoint }⟩ ∧
      t.resolver = ⟨false, false⟩ ∧
      t.reg = ⟨.off, 0, false, 0, 0, none, none, none, 500, none, none⟩ ∧
      t.purge = ⟨.idle, none, none, none, 0, 0, 0, 0, 0, ⟨.none, none, none, 0, 0, 0, .inactive⟩⟩ ∧
      t.vehicle.record = ⟨false, false, false, false, ⟨false, false, false, false, false, false⟩, false⟩ ∧
      (∀ d, t.vehicle.timers.get d = none) ∧ t.vehicle.crewReturns = 0#8 ∧
      t.clock = ⟨0#32, 0⟩ ∧ t.scan.pass = 0#8 ∧ t.scan.working = t.settings.scanPositions.take t.settings.scanLength ∧
      t.scan.checkSeen = false ∧ t.scan.checkBad = false ∧
      (t.scan.working = [] → t.scan.walk = .stopped) ∧
      (∀ e rest, t.scan.working = e :: rest → t.scan.walk = .converting e rest 0#32) ∧
      (∀ c, t.record.get c = ⟨.unsampled, none, none, 0⟩) ∧
      t.scene = ⟨⟨none, none⟩, ⟨none, none⟩, ⟨none, none⟩, ⟨none, none⟩, ⟨none, none⟩, ⟨none, none⟩, ⟨none, none⟩⟩ ∧
      (∀ c, t.conditions.get c = true ↔
        c = .vehicleUnverified ∨ (c = .settingsDefaulted ∧ t.conditions.settingsDefaulted = true)) ∧
      AlertWithMask t ∧ (held = true → t.alert = false ∧ ∀ a, (t.actuators.get a).drive = .off) ∧
      (∀ b, let current := (s.blowers.get b).current
        t.blowers.get b = ⟨0, 0, .running,
          if held then none else freshTimer current t.settings.shortLevel,
          if held then none else freshTimer current (t.settings.overloadLevel.get b), none, 0, none, .none, current⟩) ∧
      t.loop.frame = 0#16 ∧ t.loop.mismatchRun = 0 ∧ t.loop.goodRun = 0 ∧
      (∀ n, n ∈ t.loop.slotPlan ↔ (t.slot n).enabled = true)) ∧
  ∀ s : State, s.resetHeld = true →
    (∀ n, s.receives n = false) ∧
    (∀ fb order turn, exec (.frameMark fb order turn) s = .next s) ∧ (∀ h, exec (.frameMarkEnd h) s = .next s) ∧
    (∀ raw turn, exec (.conversionEnd raw turn) s = .next s) ∧ ∀ turn, exec (.emptyPassEnd turn) s = .next s

/-- RESET loads the stored copy where its check word passes, and the factory defaults with Settings Defaulted where it
fails; a store in progress is torn first (R180, R183). -/
def Obligations.ResetLoadsTheStoredCopy : Prop :=
  (∀ g : Settings, g.toWords.length = 160 ∧ g.checkWord = ~~~(g.toWords.foldl (· + ·) 0#16)) ∧
  ∀ (fb : PerActuator Nat) (held : Bool) (s : State),
    ∃ t, exec (.reset ⟨fb, held⟩) s = .next t ∧ t.store.writing = none ∧
      (s.store.writing.isSome → t.store.stored = .torn) ∧
      (s.store.writing = none → t.store.stored = s.store.stored) ∧
      (∀ g w, t.store.stored = .whole g w → w = g.checkWord →
        t.settings = g ∧ t.store.shownCheck = w ∧ t.conditions.settingsDefaulted = false) ∧
      ((t.store.stored = .torn ∨ ∃ g w, t.store.stored = .whole g w ∧ w ≠ g.checkWord) →
        t.settings = Config.factory ∧ t.store.shownCheck = Config.factory.checkWord ∧
        t.conditions.settingsDefaulted = true)

/-- RESET reads each feedback once: in range it gives the position, and a target more than 2 away starts a move at once;
out of range the position is 0 and the actuator waits, with its drive off, for its first Frame Mark (R160). While RESETN
stays asserted every drive is off (R160). The ends must be kept apart, as R157 keeps them. -/
def Obligations.ResetSettlesTheActuators : Prop :=
  ∀ (fb : PerActuator Nat) (held : Bool) (s : State),
    ∃ t, exec (.reset ⟨fb, held⟩) s = .next t ∧
      ∀ a, (t.settings.closedEnd.get a < t.settings.openEnd.get a) →
        let r := t.actuators.get a
        r.target = t.plan.body.actuatorTargets.get a ∧ r.retryUsed = false ∧ r.lastFault = .none ∧
        r.stallTimer = 0 ∧ r.reversal = none ∧ r.stallWait = none ∧ r.stallRef = r.position ∧
        (20 ≤ fb.get a ∧ fb.get a ≤ 980 →
          (∃ q : Int, RoundsTo (((fb.get a : Int) - t.settings.closedEnd.get a) * 100)
              (t.settings.openEnd.get a - t.settings.closedEnd.get a) q ∧ (r.position : Int) = within 0 100 q) ∧
          r.waiting = false ∧
          (held = true ∨ (r.target ≤ r.position + 2 ∧ r.position ≤ r.target + 2) →
            r.motion = .still ∧ r.drive = .off) ∧
          (held = false → r.position + 2 < r.target → r.motion = .moving ∧ r.drive = .opening) ∧
          (held = false → r.target + 2 < r.position → r.motion = .moving ∧ r.drive = .closing)) ∧
        (¬(20 ≤ fb.get a ∧ fb.get a ≤ 980) →
          r.position = 0 ∧ r.waiting = true ∧ r.motion = .still ∧ r.drive = .off)

/-! ## Stations -/

/-- IDLE, as any valid cell does, makes its station Live with a count of 0; a Quiet station's entries become Active with
one trigger, and an Absent or Lost station's marks are all set (R4). Where the station is the Vehicle-class station and
was not Live, the record becomes Verified with its fields kept (R96). -/
def Obligations.IdleCellRefreshesItsStation : Prop :=
  ∀ (n : Station) (s : State), s.receives n →
    ∃ t, exec (.idle n) s = .next t ∧
      t.stations = s.stations.set n ⟨.live, 0⟩ ∧
      t.table = s.table.map (fun e => if e.station = n ∧ s.modeOf n = .quiet then { e with held := false } else e) ∧
      LineBecomes n { s.loop.lines.get n with window := .taken 0x00#8 none } s t ∧
      (s.modeOf n = .absent ∨ s.modeOf n = .lost → t.marks.get n = ⟨true, true, true, true, true, true⟩) ∧
      (s.vehicleStation = some n → s.modeOf n ≠ .live →
        t.vehicle = { s.vehicle with record := { s.vehicle.record with verified := true } }) ∧
      (s.vehicleStation ≠ some n ∨ s.modeOf n = .live →
        t.vehicle = s.vehicle ∧ MarksChangeOnly [.plan, .conditions] (s.setMarks (s.marks.set n (t.marks.get n))) t) ∧
      (s.vehicleStation ≠ some n → s.modeOf n = .quiet →
        Resolved (((s.setStations t.stations).setTable t.table).setLoop t.loop) t) ∧
      (s.modeOf n = .live → ChangesOnly [.stations, .loop] s t) ∧
      ChangesOnly (.stations :: .table :: .loop :: .vehicle :: resolutionParts) s t

/-- A kind not permitted to the sender's class by the table of R2 is answered Class, and a code that names no kind
(UNKNOWN_KIND) is answered Unknown; neither changes anything beyond the refresh of R4, so a Join or Leave Stream refused
Class keeps the sender's Detached indication (the model's choice, log entry 35). A cell of a slot that can take none (not
in the frame's plan, disabled in this frame, of a Disabled station, or of a part held in reset, log entry 36) changes
nothing (R162, R163). -/
def Obligations.RefusedKindsOnlyRefresh : Prop :=
  ∀ (n : Station) (s : State),
    (s.receives n →
      (∀ c k, requestOf c = some (n, k) → mayRequest (s.slot n).cls k = false → Refused c n k .cls s) ∧
      (∀ k, namesKind k = false → Refused (.unknownKind n k) n k .unknown s)) ∧
    (s.receives n = false →
      (∀ c k, requestOf c = some (n, k) → exec c s = .next s) ∧ exec (.idle n) s = .next s ∧
      ∀ k, exec (.unknownKind n k) s = .next s)

/-- FRAME_MARK: the next frame number, 0 for the first after reset, and the slot plan of the enabled slots (R162); every
Live or Quiet count one on, a Live station at its Quiet Window enters Quiet with its entries Held, a Quiet station at
its Lost Window enters Lost with a count of 0 and loses its entries, its readout and the stream (R3, R5, R6); the
frame timers of the Scene Evaluator advance (R125), and the open timers of the doors, up to 6000 (R100); the vehicle
follows its station into Quiet and Lost (R96, R97); from a calm state the Shortfall timers advance and the plan stays
(R65). Every slot's line is blank after the mark, with nothing heard, no slot cut, no downlink chosen and none on the
line: the model's reading, log entry 32. In any order of the blocks (log entry 5), with RESETN released (log entry
36). -/
def Obligations.FrameMarkCountsAndSupervises : Prop :=
  ∀ (fb : PerActuator Nat) (order : List MarkBlock) (turn : Turn) (s : State), s.resetHeld = false →
    ∃ t, exec (.frameMark fb order turn) s = .next t ∧
      t.loop.frame = (if s.loop.markSent then s.loop.frame + 1#16 else 0#16) ∧ t.loop.markSent = true ∧
      t.loop.slotPlan = Station.all.filter (fun n => (s.slot n).enabled) ∧
      t.loop.mismatchRun = s.loop.mismatchRun ∧ t.loop.goodRun = s.loop.goodRun ∧
      (∀ n, t.loop.lines.get n = ⟨.nothing, false, .none, none⟩) ∧
      (∀ n, t.stations.get n = supervised s.settings (s.stations.get n)) ∧
      t.table = ((s.table.filter fun e =>
          !(decide (s.modeOf e.station ≠ .lost) && decide (t.modeOf e.station = .lost))).map fun e =>
        if s.modeOf e.station = .live ∧ t.modeOf e.station = .quiet then { e with held := true } else e) ∧
      (∀ n, t.buffers.get n = if s.modeOf n ≠ .lost ∧ t.modeOf n = .lost then none else s.buffers.get n) ∧
      ((∀ n, EntersLost s t n → s.holdsStream n = false) → t.trend = s.trend) ∧
      (∀ n, EntersLost s t n → s.holdsStream n = true → t.trend = s.trend.without n) ∧
      t.scene = s.scene.tick ∧ t.vehicle.crewReturns = s.vehicle.crewReturns ∧
      ((∀ n, s.vehicleStation = some n → t.modeOf n = s.modeOf n) → t.vehicle.record = s.vehicle.record) ∧
      (∀ n, s.vehicleStation = some n → s.modeOf n = .live → t.modeOf n = .quiet →
        t.vehicle.record = { s.vehicle.record with verified := false }) ∧
      ((∀ n, s.vehicleStation = some n → ¬EntersLost s t n) →
        ∀ d, t.vehicle.timers.get d = (s.vehicle.timers.get d).map fun k => min 6000 (k + 1)) ∧
      (∀ n, s.vehicleStation = some n → EntersLost s t n →
        t.vehicle.record = { s.vehicle.record with
          verified := false, doors := ⟨false, false, false, false, false, false⟩ } ∧
        ∀ d, t.vehicle.timers.get d = none) ∧
      (Calm s →
        t.reg = { s.reg with
          raiseTimer := s.reg.raiseTimer.map (· + 1), clearTimer := s.reg.clearTimer.map (· + 1) } ∧
        t.plan = s.plan) ∧
      ChangesOnly (.loop :: .stations :: .table :: .buffers :: .trend :: .scene :: .purge :: .vehicle ::
        resolutionParts) s t

/-- FRAME_MARK takes each blower through the four steps of R137 in their order, whatever its state: its overload timer
with the trip at the Overload Time (R139, R140), a trip window that was running with its end at 6000 frames (R142), a
cooldown that was running with the return at 200 frames (R141), and the ramp: a Running blower moves its output toward
the target in force by 20 ‰, or by the whole difference where that is less, any other takes no step. The target in
force is the one held before the mark where the blowers are the first block of the mark (log entry 5) or the state is
calm. Motor Fault follows the Latched blowers (R144), and a trip, a return and a window's end set the Movers marks
(R147). -/
def Obligations.RampMovesTowardTheTarget : Prop :=
  ∀ (fb : PerActuator Nat) (order : List MarkBlock) (turn : Turn) (s : State), s.resetHeld = false →
    ∃ t, exec (.frameMark fb order turn) s = .next t ∧
      (t.conditions.motorFault = true ↔ ∃ b, (t.blowers.get b).protection = .latched) ∧
      ∀ b, ∃ (u v w : BlowerState) (target : Nat),
        let o := s.blowers.get b
        let r := t.blowers.get b
        let due := o.protection = .running ∧ ∃ k, o.overloadTimer = some k ∧ 10 * s.settings.overloadTime ≤ k + 1
        (order.head? = some .blowers → target = o.target) ∧ (Calm s → target = o.target ∧ r.target = o.target) ∧
        (due → u = tripped o .overload) ∧ (¬due → u = { o with overloadTimer := o.overloadTimer.map (· + 1) }) ∧
        (o.window = none ∨ u.window = none → v = u) ∧
        (∀ k, o.window = some k → u.window ≠ none →
          (k + 1 < 6000 → v = { u with window := some (k + 1) }) ∧
          (6000 ≤ k + 1 → v = { u with window := none, trips := 0 })) ∧
        (o.cooldown = none ∨ v.cooldown = none → w = v) ∧
        (∀ k, o.cooldown ≠ none → v.cooldown = some k →
          (v.protection = .tripped ∧ 200 ≤ k + 1 →
            w = { v with
              protection := .running
              cooldown := none
              shortTimer := freshTimer o.current s.settings.shortLevel
              overloadTimer := freshTimer o.current (s.settings.overloadLevel.get b) }) ∧
          (¬(v.protection = .tripped ∧ 200 ≤ k + 1) → w = { v with cooldown := some (k + 1) })) ∧
        r = { w with output := r.output, target := r.target } ∧
        (w.protection ≠ .running → r.output = w.output) ∧
        (w.protection = .running →
          (r.output = target ∧ w.output ≤ target + 20 ∧ target ≤ w.output + 20) ∨
          (w.output + 20 < target ∧ r.output = w.output + 20) ∨
          (target + 20 < w.output ∧ r.output + 20 = w.output)) ∧
        (r.protection ≠ o.protection ∨ (o.window ≠ none ∧ r.window = none) → MarkedAll .movers t)

/-- STATION_QUIET: a Live station at its Quiet Window enters Quiet and its entries become Held, its readout and its hold
on the stream kept (R5). STATION_LOST: a Quiet station at its Lost Window enters Lost with a count of 0 and loses its
entries, its readout and the stream (R6); the Vehicle-class station's record becomes Unverified, with its doors kept
at Quiet and taken closed at Lost (R96, R97). Short of the window neither changes anything (log entry 3). -/
def Obligations.SilentStationGoesQuietThenLost : Prop :=
  ∀ (n : Station) (turn : Turn) (s : State),
    (∃ t, exec (.stationQuiet n) s = .next t ∧
      (¬(s.modeOf n = .live ∧ s.settings.quietWindow ≤ (s.stations.get n).silence) → t = s) ∧
      (s.modeOf n = .live → s.settings.quietWindow ≤ (s.stations.get n).silence →
        t.stations = s.stations.set n ⟨.quiet, (s.stations.get n).silence⟩ ∧
        t.table = s.table.map (fun e => if e.station = n then { e with held := true } else e) ∧
        (s.vehicleStation = some n →
          t.vehicle = { s.vehicle with record := { s.vehicle.record with verified := false } }) ∧
        (s.vehicleStation ≠ some n → Resolved ((s.setStations t.stations).setTable t.table) t) ∧
        ChangesOnly (.stations :: .table :: .vehicle :: resolutionParts) s t)) ∧
    (∃ t, exec (.stationLost n turn) s = .next t ∧
      (¬(s.modeOf n = .quiet ∧ s.settings.lostWindow ≤ (s.stations.get n).silence) → t = s) ∧
      (s.modeOf n = .quiet → s.settings.lostWindow ≤ (s.stations.get n).silence →
        t.stations = s.stations.set n ⟨.lost, 0⟩ ∧
        t.table = s.table.filter (fun e => decide (e.station ≠ n)) ∧
        t.buffers = s.buffers.set n none ∧ t.trend = s.trend.without n ∧
        (s.vehicleStation = some n →
          t.vehicle.record = { s.vehicle.record with
            verified := false, doors := ⟨false, false, false, false, false, false⟩ } ∧
          ∀ d, t.vehicle.timers.get d = none) ∧
        (s.vehicleStation ≠ some n → t.vehicle = s.vehicle ∧ t.purge = s.purge) ∧
        ChangesOnly (.stations :: .table :: .buffers :: .trend :: .loop :: .vehicle :: .purge :: resolutionParts) s t))

/-- STATION_RESTART: the sender's entries, readout, stream and Detached indication go and its six marks are set, with one
trigger where it had entries; the vehicle, the purge and the settings stay (R8). -/
def Obligations.RestartClearsItsStation : Prop :=
  ∀ (n : Station) (s : State), s.receives n →
    ∃ a t, exec (.idle n) s = .next a ∧ exec (.stationRestart n) s = .next t ∧
      (t.loop.lines.get n).window = .taken 0x11#8 (some ⟨.done, 0#16, 0#16, 0#16⟩) ∧
      (t.modeOf n = .live ∧ (t.stations.get n).silence = 0) ∧
      t.table = a.table.filter (fun e => decide (e.station ≠ n)) ∧
      t.buffers = a.buffers.set n none ∧ t.trend = a.trend.without n ∧ t.detached = a.detached.set n false ∧
      t.marks.get n = ⟨true, true, true, true, true, true⟩ ∧
      ((∀ e ∈ a.table, e.station ≠ n) → ChangesOnly [.loop, .buffers, .trend, .detached, .marks] a t) ∧
      ((∃ e ∈ a.table, e.station = n) → t.plan.body = formPlan t) ∧
      ChangesOnly (.table :: .loop :: .buffers :: .trend :: .detached :: resolutionParts) a t

/-! ## The Request Table -/

/-- SET_SETPOINT: the value is rounded to a multiple of 5 (remainders 1 and 2 down, 3 and 4 up) and clamped to 120 to
300; the answer is Clamped exactly where the clamp moved the rounded value (R15). The entry goes to the tail (R18). -/
def Obligations.SetSetpointStoresTheRoundedValue : Prop :=
  ∀ (n : Station) (z : Zone) (value : Word) (s : State),
    s.receives n → mayRequest (s.slot n).cls 0x01#8 = true → (s.slot n).scope.covers z = true →
    HasRoom s n (.setpoint z) →
      ∃ r v : Int, r % 5 = 0 ∧ r - 2 ≤ value.toInt ∧ value.toInt ≤ r + 2 ∧ v = within 120 300 r ∧
        Handled (.setSetpoint n (Word.ofNat z.code) value) n 0x01#8 s
          (Stored n (.setpoint z v) (Word.ofInt v) (if v = r then .done else .clamped))

/-- SET_FAN: Auto and the levels 1 to 8 are stored as sent and answered Done; 0 is stored as 1 and a level above 8 as 8,
each answered Clamped (R16). The entry goes to the tail (R18). -/
def Obligations.SetFanStoresTheLevel : Prop :=
  ∀ (n : Station) (z : Zone) (level : Word) (s : State),
    s.receives n → mayRequest (s.slot n).cls 0x02#8 = true → (s.slot n).scope.covers z = true →
    HasRoom s n (.fan z) →
      Handled (.setFan n (Word.ofNat z.code) level) n 0x02#8 s fun a t ans =>
        (level = 0xFFFF#16 → Stored n (.fan z .auto) 0xFFFF#16 .done a t ans) ∧
        (1 ≤ level.toNat → level.toNat ≤ 8 → Stored n (.fan z (.level level.toNat)) level .done a t ans) ∧
        (level = 0#16 → Stored n (.fan z (.level 1)) 1#16 .clamped a t ans) ∧
        (8 < level.toNat → level ≠ 0xFFFF#16 → Stored n (.fan z (.level 8)) 8#16 .clamped a t ans)

/-- SET_MODE stores its mode and SET_SHELTER On the Shelter entry at the tail, each answered Done (R18); SET_SHELTER Off
removes the station's own Shelter entry as a Withdraw does, answered Done whether or not it had one, room or not (R17). -/
def Obligations.SetModeAndShelterStoreTheirEntries : Prop :=
  ∀ (n : Station) (s : State), s.receives n → mayRequest (s.slot n).cls 0x03#8 = true →
    (∀ m, HasRoom s n .mode →
      Handled (.setMode n (Word.ofNat m.code)) n 0x03#8 s (Stored n (.mode m) (Word.ofNat m.code) .done)) ∧
    (HasRoom s n .shelter → Handled (.setShelter n 1#16) n 0x04#8 s (Stored n .shelter 1#16 .done)) ∧
    Handled (.setShelter n 0#16) n 0x04#8 s
      (CutDown fun e => decide (¬(e.station = n ∧ e.demand.key = .shelter)))

/-- A set request whose zone, mode or On/Off code names nothing is answered Range, one for a zone outside the station's
scope Scope, and one that would append to a table of 24 Full, in this order; each leaves the table (R14). -/
def Obligations.SetRequestsAreRefusedInOrder : Prop :=
  ∀ (n : Station) (zone value code : Word) (z : Zone) (m : RequestedMode) (s : State),
    s.receives n → mayRequest (s.slot n).cls 0x01#8 = true →
      (zone ≠ 1#16 → zone ≠ 2#16 →
        Refused (.setSetpoint n zone value) n 0x01#8 .range s ∧ Refused (.setFan n zone value) n 0x02#8 .range s) ∧
      ((s.slot n).scope.covers z = false →
        Refused (.setSetpoint n (Word.ofNat z.code) value) n 0x01#8 .scope s ∧
        Refused (.setFan n (Word.ofNat z.code) value) n 0x02#8 .scope s) ∧
      ((s.slot n).scope.covers z = true →
        (¬HasRoom s n (.setpoint z) → Refused (.setSetpoint n (Word.ofNat z.code) value) n 0x01#8 .full s) ∧
        (¬HasRoom s n (.fan z) → Refused (.setFan n (Word.ofNat z.code) value) n 0x02#8 .full s)) ∧
      (4 < code.toNat → Refused (.setMode n code) n 0x03#8 .range s) ∧
      (1 < code.toNat → Refused (.setShelter n code) n 0x04#8 .range s) ∧
      (¬HasRoom s n .mode → Refused (.setMode n (Word.ofNat m.code)) n 0x03#8 .full s) ∧
      (¬HasRoom s n .shelter → Refused (.setShelter n 1#16) n 0x04#8 .full s)

/-- WITHDRAW and WITHDRAW_ALL remove the sender's own entries alone and keep the order of the rest, answered Done with the
number removed, with a trigger where one was removed; a Withdraw that names no key is answered Range (R19). -/
def Obligations.WithdrawsRemoveOwnEntries : Prop :=
  ∀ (n : Station) (kind zone : Word) (s : State),
    s.receives n → mayRequest (s.slot n).cls 0x05#8 = true →
      (∀ k : Key,
        (kind = 1#16 ∧ ∃ z, zone = Word.ofNat z.code ∧ k = .setpoint z) ∨
        (kind = 2#16 ∧ ∃ z, zone = Word.ofNat z.code ∧ k = .fan z) ∨
        (kind = 3#16 ∧ k = .mode) ∨ (kind = 4#16 ∧ k = .shelter) →
          Handled (.withdraw n kind zone) n 0x05#8 s
            (CutDown fun e => decide (¬(e.station = n ∧ e.demand.key = k)))) ∧
      ((kind.toNat = 0 ∨ 4 < kind.toNat ∨
        ((kind = 1#16 ∨ kind = 2#16) ∧ zone ≠ 1#16 ∧ zone ≠ 2#16)) →
          Refused (.withdraw n kind zone) n 0x05#8 .range s) ∧
      Handled (.withdrawAll n) n 0x06#8 s (CutDown fun e => decide (e.station ≠ n))

/-- SHELTER_RELEASE below the Release Rank is answered Denied and changes nothing; otherwise every Shelter entry goes,
the order of the rest kept, and the auto latch is cleared, with one trigger where either changed something (R20). -/
def Obligations.ShelterReleaseEndsTheRequests : Prop :=
  ∀ (n : Station) (s : State), s.receives n → mayRequest (s.slot n).cls 0x09#8 = true →
    ((s.slot n).rank < s.settings.releaseRank → Refused (.shelterRelease n) n 0x09#8 .denied s) ∧
    (s.settings.releaseRank ≤ (s.slot n).rank →
      Handled (.shelterRelease n) n 0x09#8 s fun a t ans =>
        t.table = a.table.filter (fun e => decide (e.demand ≠ .shelter)) ∧ t.resolver.autoLatch = false ∧
        ans = ⟨.done, Word.ofNat (a.table.length - t.table.length), if a.resolver.autoLatch then 1#16 else 0#16,
          0#16⟩ ∧
        ResolvedIf (t.table.length < a.table.length ∨ a.resolver.autoLatch = true)
          ((a.setTable t.table).setResolver { a.resolver with autoLatch := false }) t)

/-- Every step keeps the table at 24 entries at most, no two with one key (R12); and it keeps Held with Quiet: an entry
belongs to a Live or Quiet station and is Held exactly where the station is Quiet, and Disabled is the state of exactly
the disabled slots (R1, R13). -/
def Obligations.StepKeepsTheTableLawful : Prop :=
  ∀ s t : State, step s = .next t → (KeysDistinct s → KeysDistinct t) ∧ (HeldWithQuiet s → HeldWithQuiet t)

/-! ## The Air Plan -/

/-- A resolution installs the plan the state forms, with the version one higher where a field changed, and hands it on
(R23, R26): the regulator takes the intake fields, the zone blowers and the actuators their targets, the Intake Blower
the regulator's output, and the Plan mark is set; an unchanged plan hands nothing on. -/
def Obligations.ResolutionInstallsAndHandsOn : Prop :=
  ∀ s : State, Resolved s (resolve s) ∧
    ((resolve s).plan.body ≠ s.plan.body →
      let t := resolve s
      let r := s.reg.takePlan t.plan.body s.doorOpen s.pressureAvailable s.settings.doorLevel
      t.reg = (if t.plan.body.shelter = .pressurize ∧ r.mode = .regulating then r
        else { r with raiseTimer := none, clearTimer := none }) ∧
      (t.plan.body.shelter ≠ .pressurize ∨ r.mode ≠ .regulating → t.conditions.holdShortfall = false) ∧
      (t.blowers.get .intake).target = r.output ∧
      (t.blowers.get .front).target = t.plan.body.frontBlower ∧
      (t.blowers.get .rear).target = t.plan.body.rearBlower ∧
      (∀ a, t.actuators.get a = (s.actuators.get a).takeTarget (t.plan.body.actuatorTargets.get a)) ∧
      (t.conditions.coUnderSeal = true ↔ s.conditions.cabCoHigh = true ∧ t.plan.body.shelter = .sealed) ∧
      MarkedAll .plan t)

/-- The winner of a key group is an entry of the group that no other beats: by the rank of its station, then an Active
entry before a Held one, then the place nearest the tail; a group with no entry has no winner (R27, R28). -/
def Obligations.WinnerHasRankThenStateThenRecency : Prop :=
  ∀ (s : State) (k : Key),
    (s.winner k = none ↔ ∀ e ∈ s.table, s.eligible k e = false) ∧
    ∀ w, s.winner k = some w →
      ∃ i, s.table[i]? = some w ∧ s.eligible k w = true ∧
        ∀ (j : Nat) (e : Entry), s.table[j]? = some e → s.eligible k e = true → j ≠ i →
          (s.slot e.station).rank < (s.slot w.station).rank ∨
          ((s.slot e.station).rank = (s.slot w.station).rank ∧
            ((e.held = true ∧ w.held = false) ∨ (e.held = w.held ∧ j < i)))

/-- The air path of the plan a state forms, by the first layer whose condition holds: Sealed, a Flushing purge,
Pressurize, CO Flush, Ignition Off, the cab mode effective (R34, R36 to R41), with Shed's caps (R33, R46). -/
def Obligations.AirPathFollowsThePrecedence : Prop :=
  ∀ s : State,
    let b := formPlan s
    (b.shelter = .inactive ↔ s.requestSource = false ∧ s.resolver.autoLatch = false ∧ s.pumpSource = false) ∧
    (b.shelter = .sealed ↔ b.shelter ≠ .inactive ∧ s.conditions.heavySmoke = true) ∧
    (b.shed = true ↔ s.vehicle.record.engine = false ∨ s.conditions.supplyLow = true) ∧
    (b.coFlush = true ↔ s.conditions.cabCoHigh = true ∧ b.shelter = .inactive) ∧
    (b.ignitionOff = true ↔ s.vehicle.record.ignition = false ∧ b.shelter = .inactive ∧ s.purge.phase = .idle) ∧
    b.cap = (if b.shed then 500 else 1000) ∧
    (b.shutter, b.relief, b.intake) =
      (if b.shelter = .sealed then (0, 0, .off)
       else if s.purge.phase = .flushing then (100, 100, .fixed (if b.shed then 500 else 1000))
       else if b.shelter = .pressurize then
         (100, if s.conditions.cabCoHigh then 25 else 0,
          .regulated s.settings.shelterTarget s.settings.shelterBase s.settings.shelterFloor)
       else if b.coFlush then (100, 100, .fixed (if b.shed then 500 else 800))
       else if b.ignitionOff then (0, 0, .off)
       else if b.cabMode = .off ∨ b.cabMode = .recirc then (0, 0, .off)
       else (100, 25, .regulated s.settings.freshTarget s.settings.freshBase s.settings.freshFloor)) ∧
    (b.shed = true → b.frontBlower ≤ 375 ∧ b.rearBlower ≤ 375) ∧
    (b.heaterUnavailable = true → b.heaterValve = 0)

/-- Every step keeps the Air Plan the plan that its inputs form: no event changes an input of the plan without a
resolution (R24, R25). The entries are those R13 and R27 let the table hold, and every step keeps them so. -/
def Obligations.StepKeepsThePlanCurrent : Prop :=
  ∀ s t : State, HeldWithQuiet s → EntriesInScope s → PlanCurrent s → step s = .next t →
    EntriesInScope t ∧ PlanCurrent t

/-! ## The Hold Regulator -/

/-- One update: the error clamped, the integral advanced and clamped with the Windup mark telling of it, the sum scaled
by 256 with its floor, and the base plus that brought into the range from the floor to the cap, the cap winning
(R58, R59, R60). -/
def Obligations.UpdateFollowsTheControlLaw : Prop :=
  ∀ (r : Regulator) (kp ki : Nat) (p : Int),
    ∃ e i u : Int,
      e = within (-2000) 2000 ((r.target.getD 0 : Int) - p) ∧
      i = within (-256000) 256000 (r.integral + ki * e) ∧
      256 * u ≤ kp * e + i + 128 ∧ kp * e + i + 128 < 256 * (u + 1) ∧
      r.update kp ki p = { r with
        lastError := e
        integral := i
        windup := decide (i ≠ r.integral + ki * e)
        output :=
          if r.cap < r.floor.getD 0 then r.cap
          else (within (r.floor.getD 0) r.cap ((r.base.getD 0 : Int) + u)).toNat }

/-- Every step keeps the integral between -256000 and 256000 (R50). -/
def Obligations.StepKeepsTheIntegralBounded : Prop :=
  ∀ s t : State, IntegralBounded s → step s = .next t → IntegralBounded t

/-! ## Purges -/

/-- PURGE: a scope code that names nothing is answered Range and a scope the station's does not cover Scope (R73). In
Idle a purge starts with counts of 0 and the target of R71, Deferred under Heavy Smoke, else Armed with a door in
scope open, else Flushing, with Purge Incomplete cleared (R74). Otherwise a wider scope widens it and keeps its counts
(R76), and any other scope changes nothing. The Fallback Flush is at least 10, so more than 0. -/
def Obligations.PurgeRequestStartsKeepsOrWidens : Prop :=
  ∀ (n : Station) (code : Word) (sc : PurgeScope) (s : State),
    s.receives n → mayRequest (s.slot n).cls 0x07#8 = true →
    (code ≠ 1#16 → code ≠ 2#16 → Refused (.purge n code) n 0x07#8 .range s) ∧
    (code = Word.ofNat (PurgeScope.code (some sc)) →
      ((s.slot n).scope = .front ∨ ((s.slot n).scope = .rear ∧ sc = .whole) →
        Refused (.purge n code) n 0x07#8 .scope s) ∧
      ((s.slot n).scope = .both ∨ ((s.slot n).scope = .rear ∧ sc = .rear) →
        (s.purge.phase = .idle → 0 < s.settings.fallbackFlush →
          Handled (.purge n code) n 0x07#8 s fun a t ans =>
            t.purge = ⟨t.purge.phase, some sc, some (.station n),
              some (min 65535 (a.settings.purgeChanges *
                (if sc = .whole then a.settings.frontVolume + a.settings.rearVolume else a.settings.rearVolume))),
              0, 0, 0, 0, 0, a.purge.last⟩ ∧
            (a.conditions.heavySmoke = true → t.purge.phase = .deferred) ∧
            (a.conditions.heavySmoke = false → DoorOpenIn sc a → t.purge.phase = .armed) ∧
            (a.conditions.heavySmoke = false → ¬DoorOpenIn sc a → t.purge.phase = .flushing) ∧
            t.conditions.purgeIncomplete = false ∧ t.plan.body = formPlan t ∧ MarkedAll .purge t ∧
            ans = ⟨.done, Word.ofNat t.purge.phase.code, Word.ofNat (PurgeScope.code (some sc)),
              Word.ofNat (t.purge.target.getD 0)⟩ ∧
            ChangesOnly (.purge :: resolutionParts) a t ∧
            ConditionsChangeOnly [.purgeIncomplete, .holdShortfall, .coUnderSeal] a t ∧
            MarksChangeOnly [.purge, .plan, .conditions] a t) ∧
        (s.purge.phase ≠ .idle → s.purge.scope = some .rear → sc = .whole →
          Handled (.purge n code) n 0x07#8 s fun a t ans =>
            t.purge = { a.purge with
              scope := some .whole
              target := some (min 65535
                (a.settings.purgeChanges * (a.settings.frontVolume + a.settings.rearVolume))) } ∧
            t.plan.body = formPlan t ∧ MarkedAll .purge t ∧
            ans = ⟨.done, Word.ofNat t.purge.phase.code, 2#16, Word.ofNat (t.purge.target.getD 0)⟩ ∧
            ChangesOnly (.purge :: resolutionParts) a t ∧ ConditionsChangeOnly [.holdShortfall, .coUnderSeal] a t ∧
            MarksChangeOnly [.purge, .plan, .conditions] a t) ∧
        (s.purge.phase ≠ .idle → (s.purge.scope = some .whole ∨ (s.purge.scope = some .rear ∧ sc = .rear)) →
          Handled (.purge n code) n 0x07#8 s fun a t ans =>
            t = a ∧ ans = ⟨.done, Word.ofNat a.purge.phase.code, Word.ofNat (PurgeScope.code a.purge.scope),
              Word.ofNat (a.purge.target.getD 0)⟩)))

/-- PURGE_CANCEL: in Idle nothing is done; the originator, a station of its rank or above, or for Auto one of rank 4 or
above ends the purge Cancelled; another is answered Denied (R81, R82, R83). -/
def Obligations.CancelEndsThePurge : Prop :=
  ∀ (n : Station) (s : State), s.receives n → mayRequest (s.slot n).cls 0x08#8 = true →
    (s.purge.phase = .idle →
      Handled (.purgeCancel n) n 0x08#8 s fun a t ans => t = a ∧ ans = ⟨.done, 0#16, 0#16, 0#16⟩) ∧
    (∀ m, s.purge.phase ≠ .idle → s.purge.originator = some (.station m) →
      (n = m ∨ (s.slot m).rank ≤ (s.slot n).rank →
        Handled (.purgeCancel n) n 0x08#8 s fun a t ans =>
          PurgeEnds .cancelled a t ∧ ans = ⟨.done, 0#16, 3#16, 0#16⟩) ∧
      (n ≠ m → (s.slot n).rank < (s.slot m).rank → Refused (.purgeCancel n) n 0x08#8 .denied s)) ∧
    (s.purge.phase ≠ .idle → s.purge.originator = some .auto →
      (4 ≤ (s.slot n).rank →
        Handled (.purgeCancel n) n 0x08#8 s fun a t ans =>
          PurgeEnds .cancelled a t ∧ ans = ⟨.done, 0#16, 3#16, 0#16⟩) ∧
      ((s.slot n).rank < 4 → Refused (.purgeCancel n) n 0x08#8 .denied s))

/-- The limit rows end the purge with their results: PURGE_ARMED_LIMIT at 30000 frames Aborted-Doors, PURGE_DEFERRED_LIMIT
at 90000 Aborted-Smoke, PURGE_FLUSHING_LIMIT at 60000 Aborted-Time but Done-Timed where the fallback is due, and
FALLBACK_FLUSH_EXPIRY at the Fallback Flush without a flow value Done-Timed (R80, R82, R88). Short of its limit a row
changes nothing (log entry 3). FRAME_MARK takes the timer of the phase one on and ends the purge by the same tests (R80),
in any order of its blocks (log entry 5); where the Vehicle-class station enters Lost at that mark and so closes the
open doors of the scope, an Armed purge leaves Armed (R77, R97). -/
def Obligations.TimeLimitsEndThePurge : Prop :=
  ∀ s : State,
    let fallback := fun flushing : Nat => s.flowShown = none ∧ 100 * s.settings.fallbackFlush ≤ flushing
    (∃ t, exec .purgeArmedLimit s = .next t ∧
      (s.purge.phase = .armed → 30000 ≤ s.purge.armed → PurgeEnds .abortedDoors s t) ∧
      (¬(s.purge.phase = .armed ∧ 30000 ≤ s.purge.armed) → t = s)) ∧
    (∃ t, exec .purgeDeferredLimit s = .next t ∧
      (s.purge.phase = .deferred → 90000 ≤ s.purge.deferred → PurgeEnds .abortedSmoke s t) ∧
      (¬(s.purge.phase = .deferred ∧ 90000 ≤ s.purge.deferred) → t = s)) ∧
    (∃ t, exec .fallbackFlushExpiry s = .next t ∧
      (s.purge.phase = .flushing → fallback s.purge.flushing → PurgeEnds .doneTimed s t) ∧
      (¬(s.purge.phase = .flushing ∧ fallback s.purge.flushing) → t = s)) ∧
    (∃ t, exec .purgeFlushingLimit s = .next t ∧
      (s.purge.phase = .flushing → fallback s.purge.flushing → PurgeEnds .doneTimed s t) ∧
      (s.purge.phase = .flushing → 60000 ≤ s.purge.flushing → ¬fallback s.purge.flushing →
        PurgeEnds .abortedTime s t) ∧
      (s.purge.phase ≠ .flushing → t = s) ∧
      (s.purge.flushing < 60000 → ¬fallback s.purge.flushing → t = s)) ∧
    ∀ (fb : PerActuator Nat) (order : List MarkBlock) (turn : Turn), s.resetHeld = false →
      ∃ t, exec (.frameMark fb order turn) s = .next t ∧
        let goesOn := fun p : Purge => t.purge = p ∧ t.conditions.purgeIncomplete = s.conditions.purgeIncomplete
        let ends := fun (r : PurgeResult) (flushing deferred : Nat) =>
          (∃ shelter, t.purge = ⟨.idle, none, none, none, 0, 0, 0, 0, 0,
              ⟨r, s.purge.scope, s.purge.originator, s.purge.litres, flushing / 100, deferred / 100, shelter⟩⟩ ∧
            (order.head? = some .purge ∨ Steady s → shelter = s.plan.body.shelter)) ∧
          t.conditions.purgeIncomplete = (s.conditions.purgeIncomplete || decide (r ≠ .doneTimed)) ∧
          t.plan.body = formPlan t ∧ MarkedAll .purge t
        let closes := (∃ n, s.vehicleStation = some n ∧ EntersLost s t n) ∧
          ∃ sc, s.purge.scope = some sc ∧ DoorOpenIn sc s
        (s.purge.phase = .idle → goesOn s.purge) ∧
        (s.purge.phase = .deferred →
          (s.purge.deferred + 1 < 90000 → goesOn { s.purge with deferred := s.purge.deferred + 1 }) ∧
          (90000 ≤ s.purge.deferred + 1 → ends .abortedSmoke s.purge.flushing (s.purge.deferred + 1))) ∧
        (s.purge.phase = .flushing →
          (fallback (s.purge.flushing + 1) → ends .doneTimed (s.purge.flushing + 1) s.purge.deferred) ∧
          (¬fallback (s.purge.flushing + 1) → 60000 ≤ s.purge.flushing + 1 →
            ends .abortedTime (s.purge.flushing + 1) s.purge.deferred) ∧
          (¬fallback (s.purge.flushing + 1) → s.purge.flushing + 1 < 60000 →
            goesOn { s.purge with flushing := s.purge.flushing + 1 })) ∧
        (s.purge.phase = .armed → ¬closes →
          (s.purge.armed + 1 < 30000 → goesOn { s.purge with armed := s.purge.armed + 1 }) ∧
          (30000 ≤ s.purge.armed + 1 → ends .abortedDoors s.purge.flushing s.purge.deferred)) ∧
        (s.purge.phase = .armed → closes →
          t.purge.phase ≠ .armed ∧
          (s.purge.armed + 1 < 30000 → s.conditions.heavySmoke = true → s.purge.deferred + 1 < 90000 →
            t.purge.phase = .deferred) ∧
          (s.purge.armed + 1 < 30000 → s.conditions.heavySmoke = false → s.flowShown ≠ none →
            s.purge.flushing + 1 < 60000 → t.purge.phase = .flushing))

/-- A sample of Intake Flow taken in Flushing with a value shown adds its units, the value times the interval capped at
100 ms and 0 without an earlier conversion, to the count of litres and tenths of a millilitre, which saturates at
65535 litres; where the count meets the target the purge ends Done with that count (R85, R86, R87). -/
def Obligations.FlowSampleAddsItsUnits : Prop :=
  ∀ (previous : Option (BitVec 32)) (now : BitVec 32) (q : Nat) (s : State),
    s.purge.phase = .flushing → s.flowShown = some (q : Int) → s.purge.litres ≤ 65535 → s.purge.remainder < 10000 →
      ∃ v rm dt : Nat,
        (previous = none → dt = 0) ∧
        (∀ p, previous = some p → dt = min 100 (now - p).toNat) ∧
        rm < 10000 ∧ v ≤ 65535 ∧
        (10000 * s.purge.litres + s.purge.remainder + q * dt < 10000 * 65536 →
          10000 * v + rm = 10000 * s.purge.litres + s.purge.remainder + q * dt) ∧
        (10000 * 65536 ≤ 10000 * s.purge.litres + s.purge.remainder + q * dt → v = 65535) ∧
        ((∀ target, s.purge.target = some target → v < target) →
          flowSample previous now s = s.setPurge { s.purge with litres := v, remainder := rm }) ∧
        (∀ target, s.purge.target = some target → target ≤ v →
          (flowSample previous now s).purge.phase = .idle ∧
          (flowSample previous now s).purge.last = ⟨.done, s.purge.scope, s.purge.originator, v,
            s.purge.flushing / 100, s.purge.deferred / 100, s.plan.body.shelter⟩ ∧
          ChangesOnly [.purge] s (flowSample previous now s))

/-- Every step keeps an Idle purge at a count of 0 with no scope, originator or target, and no step lowers the count of a
purge that is under way before and after it (R70, R82). -/
def Obligations.StepKeepsIdlePurgeEmpty : Prop :=
  ∀ s t : State, IdlePurgeEmpty s → step s = .next t →
    IdlePurgeEmpty t ∧ (s.purge.phase ≠ .idle → t.purge.phase ≠ .idle → s.purge.litres ≤ t.purge.litres)

/-! ## The vehicle -/

/-- VEHICLE_REPORT from the Vehicle class: the four fields as reported, each door mapped Front or Rear as reported and
each Unused door closed, the record Verified (R94, R96); the open timers (R100); the Crew Return count, one on exactly
where the report closes a Rear door open for the Return Time or longer, every Rear door is then closed and the shelter
was not Inactive (R101, R102); the Answer repeats the record. -/
def Obligations.ReportIsTakenWhole : Prop :=
  ∀ (n : Station) (fields doors : Word) (turn : Turn) (s : State),
    s.receives n → (s.slot n).cls = .vehicle →
      ∃ t ans, exec (.vehicleReport n fields doors turn) s = .next t ∧
        LineBecomes n { s.loop.lines.get n with window := .taken 0x0E#8 (some ans) } s t ∧
        t.stations = s.stations.set n ⟨.live, 0⟩ ∧
        t.vehicle.record.ignition = fields.getLsbD 0 ∧ t.vehicle.record.engine = fields.getLsbD 1 ∧
        t.vehicle.record.pump = fields.getLsbD 2 ∧ t.vehicle.record.brake = fields.getLsbD 3 ∧
        t.vehicle.record.verified = true ∧
        (∀ d, t.vehicle.record.doors.get d =
          if s.settings.doorMap.get d = .unused then false else doors.getLsbD (d.num - 1)) ∧
        (∀ d, t.vehicle.timers.get d =
          if t.vehicle.record.doors.get d then
            (if s.vehicle.record.doors.get d then s.vehicle.timers.get d else some 0)
          else none) ∧
        ((∃ d k, s.settings.doorMap.get d = .rear ∧ s.vehicle.record.doors.get d = true ∧
            t.vehicle.record.doors.get d = false ∧ s.vehicle.timers.get d = some k ∧
            100 * s.settings.returnTime ≤ k) ∧
          (∀ d, s.settings.doorMap.get d = .rear → t.vehicle.record.doors.get d = false) ∧
          s.plan.body.shelter ≠ .inactive →
            t.vehicle.crewReturns = s.vehicle.crewReturns + 1#8) ∧
        (¬((∃ d k, s.settings.doorMap.get d = .rear ∧ s.vehicle.record.doors.get d = true ∧
            t.vehicle.record.doors.get d = false ∧ s.vehicle.timers.get d = some k ∧
            100 * s.settings.returnTime ≤ k) ∧
          (∀ d, s.settings.doorMap.get d = .rear → t.vehicle.record.doors.get d = false) ∧
          s.plan.body.shelter ≠ .inactive) →
            t.vehicle.crewReturns = s.vehicle.crewReturns) ∧
        ans.code = .done ∧ ans.w1 = fields &&& 0x000F#16 ∧ ans.w3 = 0#16 ∧
        (∀ i < 16, ans.w2.getLsbD i = true ↔ ∃ d : Door, d.num = i + 1 ∧ t.vehicle.record.doors.get d = true) ∧
        (t.vehicle.record = s.vehicle.record → s.modeOf n = .live →
          ChangesOnly [.stations, .loop, .vehicle] s t) ∧
        (t.vehicle.record ≠ s.vehicle.record → MarkedAll .vehicle t ∧ t.plan.body = formPlan t) ∧
        ChangesOnly (.stations :: .table :: .loop :: .vehicle :: .purge :: resolutionParts) s t

/-! ## Conditions -/

/-- Every step keeps CO Under Seal, Vehicle Unverified, Sensor Failed, Motor Fault and Actuator Stuck with their owners
(R98, R119, R130, R144, R156). -/
def Obligations.StepKeepsOwnedConditions : Prop :=
  ∀ s t : State, OwnedConditions s → step s = .next t → OwnedConditions t

/-- Every step keeps the ALERT pin driven exactly while a condition of the Alert Mask is Raised and RESETN is not asserted
(R134). -/
def Obligations.StepKeepsAlertWithTheMask : Prop :=
  ∀ s t : State, AlertWithMask s → step s = .next t → AlertWithMask t

/-- A sample of Outside Smoke that raises Heavy Smoke while a station holds a Shelter entry, or that raises Smoke Outside
with it under Auto Shelter (R30, R124), seals the cab in the same event, whichever block takes the raise first: the plan
is Sealed with the shutter at 0 and the intake Off, and a Flushing purge becomes Deferred (R31, R36, R78, R126, R127).
The version is two on where the resolver is first and shows the Flushing phase before, and otherwise one on, so no plan
before the Sealed one is installed in the event (section 2.10; log entry 37 for the two raises together). -/
def Obligations.HeavySmokeSealsTheCab : Prop :=
  ∀ (raw : BitVec 14) (turn : Turn) (s : State) (e : ScanEntry) (rest : List ScanEntry) (since : BitVec 32) (m : Nat),
    s.scan.walk = .converting e rest since → e.channel = .cal .outsideSmoke → nextDue s.scan.pass rest ≠ none →
    raw ≠ 0#14 → raw ≠ 16383#14 → s.conditions.converterDrift = false → s.conditions.heavySmoke = false →
    s.plan.body.shelter ≠ .sealed → s.resetHeld = false →
    (s.settings.thresholds.heavyRaise : Int) ≤
      calibrate .outsideSmoke s.settings.gain.outsideSmoke s.settings.offset.outsideSmoke raw.toNat →
    s.scene.heavy.raise = some m → 100 ≤ m →
    (∃ en ∈ s.table, en.demand = .shelter) ∨
      (s.settings.autoShelter = true ∧ s.conditions.smokeOutside = false ∧
        (s.settings.thresholds.smokeRaise : Int) ≤
          calibrate .outsideSmoke s.settings.gain.outsideSmoke s.settings.offset.outsideSmoke raw.toNat ∧
        ∃ k, s.scene.smoke.raise = some k ∧ 200 ≤ k) →
      ∃ t, exec (.conversionEnd raw turn) s = .next t ∧
        t.conditions.heavySmoke = true ∧ t.scene.heavy = ⟨none, none⟩ ∧
        t.plan.body.shelter = .sealed ∧ t.plan.body.shutter = 0 ∧ t.plan.body.relief = 0 ∧ t.plan.body.intake = .off ∧
        t.reg.mode = .off ∧ (t.blowers.get .intake).target = 0 ∧
        t.plan.version =
          (if turn = .resolverFirst ∧ s.purge.phase = .flushing then s.plan.version + 2#16 else s.plan.version + 1#16) ∧
        (s.purge.phase = .flushing → t.purge.phase = .deferred ∧ t.purge.litres = s.purge.litres) ∧
        (s.purge.phase ≠ .flushing → t.purge = s.purge) ∧ t.plan.body.phase = t.purge.phase ∧
        MarkedAll .conditions t

/-! ## The scan -/

/-- CONVERSION_END: the sample is good by R115 and R116 or Bad, the channel's entry is brought up to date by the table of
R117 with the calibrated value of R113, and the count stands at the conversion's end (log entry 2). With more entries
due in the pass the next one starts (R108, R109). Otherwise the pass ends in the same event: Converter Drift is judged
(R115), the pass is counted at the trend stream and a record captured at its decimation, of the Cab Air Record as it
then stands (R121, R177), and the next pass starts on the staged list (R108, R111, R112, with log entry 34
for the sample times). RESETN is released (log entry 36). -/
def Obligations.ConversionEndTakesTheSample : Prop :=
  ∀ (raw : BitVec 14) (turn : Turn) (s : State) (e : ScanEntry) (rest : List ScanEntry) (since : BitVec 32),
    s.scan.walk = .converting e rest since → s.clock.tenths < 10 → s.resetHeld = false →
      ∃ (t : State) (good : Bool) (v : Int) (now : BitVec 32) (sampled : PerChannel ChannelRecord),
        exec (.conversionEnd raw turn) s = .next t ∧ now = since + BitVec.ofNat 32 e.timeClass ∧
        (good = true ↔ match e.channel with
          | .cal _ => raw ≠ 0#14 ∧ raw ≠ 16383#14 ∧ s.conditions.converterDrift = false
          | .reference => 8032 ≤ raw.toNat ∧ raw.toNat ≤ 8352
          | .ground => raw.toNat ≤ 80) ∧
        (match e.channel with
          | .cal k => ∃ q : Int, RoundsTo (raw.toNat * s.settings.gain.get k) 16384 q ∧
              v = within (channelRange e.channel).1 (channelRange e.channel).2 (q + s.settings.offset.get k)
          | .reference => v = raw.toNat
          | .ground => v = raw.toNat) ∧
        (let before := s.record.get e.channel
         let after := sampled.get e.channel
         (good = true → after = ⟨.fresh, some v, some now, 0⟩) ∧
         (good = false →
          after.sampleTime = some now ∧ after.bad = min 255 (before.bad + 1) ∧
          (3 ≤ before.bad → after.status = .failed ∧ after.value = none) ∧
          (before.bad < 3 → before.status = .unsampled → after.status = .unsampled ∧ after.value = none) ∧
          (before.bad < 3 → before.status = .fresh ∨ before.status = .held →
            after.status = .held ∧ after.value = before.value))) ∧
        (∀ c, c ≠ e.channel → sampled.get c = s.record.get c) ∧
        ((now - s.clock.ms).toNat < 2 ^ 31 → t.clock.ms = now) ∧
        (t.conditions.sensorFailed = true ↔ ∃ w ∈ t.scan.working, (t.record.get w.channel).status = .failed) ∧
        (let check := e.channel = .reference ∨ e.channel = .ground
         let raised := s.conditions.converterDrift = true ∨ (good = false ∧ check)
         (∀ e' rest', nextDue s.scan.pass rest = some (e', rest') →
          t.record = sampled ∧ t.scan.walk = .converting e' rest' now ∧ t.scan.pass = s.scan.pass ∧
          t.scan.working = s.scan.working ∧ (t.conditions.converterDrift = true ↔ raised) ∧ t.trend = s.trend) ∧
         (nextDue s.scan.pass rest = none →
          NextPass now (s.setRecord sampled) t ∧ PassCounted (s.setRecord sampled) t ∧
          DriftJudged raised (s.scan.checkSeen = true ∨ check)
            (s.scan.checkBad = true ∨ (good = false ∧ check)) s t)) ∧
        ChangesOnly (.clock :: .scan :: .record :: .scene :: .trend :: .purge :: resolutionParts) s t

/-- EMPTY_PASS_END: the pass ends (R115, R121, R177) and the next starts under the next number 1 ms after the empty pass
did (R108), on the staged list, which becomes the working list (R111); a channel the list drops becomes Unsampled; an
empty list stops the scan (R112, with log entry 34 for the sample times). Where no pass is empty it changes nothing.
RESETN is released (log entry 36). -/
def Obligations.EmptyPassEndStartsTheNextPass : Prop :=
  ∀ (turn : Turn) (s : State),
    (∀ since, s.scan.walk = .empty since → s.resetHeld = false →
      ∃ t, exec (.emptyPassEnd turn) s = .next t ∧
        NextPass (since + 1#32) s t ∧ PassCounted s t ∧
        DriftJudged (s.conditions.converterDrift = true) (s.scan.checkSeen = true) (s.scan.checkBad = true) s t ∧
        (t.scan.working ≠ s.scan.working →
          (t.conditions.sensorFailed = true ↔ ∃ w ∈ t.scan.working, (t.record.get w.channel).status = .failed)) ∧
        ChangesOnly (.clock :: .scan :: .record :: .scene :: .trend :: .purge :: resolutionParts) s t) ∧
    ((∀ since, s.scan.walk ≠ .empty since) → exec (.emptyPassEnd turn) s = .next s)

/-- TREND_CAPTURE: with the stream held and the pass counter at its decimation, the counter returns to 0 and a record of
the pass, the frame and the chosen channels joins the tail; a full queue loses the oldest record whose run has not
begun and the record after it takes the Overrun mark (R177). Otherwise nothing changes (log entry 3). -/
def Obligations.TrendCaptureTakesARecord : Prop :=
  ∀ s : State,
    (∀ h, s.trend.hold = some h → h.decimation ≤ s.trend.passCounter →
      ∃ t, exec .trendCapture s = .next t ∧ Captured (capturedRecord h s) s.trend t.trend ∧
        ChangesOnly [.trend] s t) ∧
    ((∀ h, s.trend.hold = some h → s.trend.passCounter < h.decimation) → exec .trendCapture s = .next s)

/-- Every step keeps the Trend Queue at 48 records at most, and empty while no station holds the stream (R176). -/
def Obligations.StepKeepsTheTrendQueueBounded : Prop :=
  ∀ s t : State, TrendBounded s → step s = .next t → TrendBounded t

/-- Every step keeps the Cab Air Record consistent: a value exactly under Fresh and Held, within its channel's range, and
the count of Bad samples that the status tells (R104, R117). -/
def Obligations.StepKeepsTheRecordConsistent : Prop :=
  ∀ s t : State, RecordConsistent s → step s = .next t → RecordConsistent t

/-! ## Blowers and actuators -/

/-- BLOWER_CURRENT_CHANGE: while Running each detector's timer runs on or starts at 0 at or above its level and is idle
below it; while Tripped or Latched, and while RESETN is asserted (log entry 36), the timers stay and the current is not
compared (R138, R139). -/
def Obligations.CurrentChangeIsComparedAtOnce : Prop :=
  ∀ (b : Blower) (current : Nat) (s : State),
    ∃ t, exec (.blowerCurrentChange b current) s = .next t ∧
      t.blowers.get b = { s.blowers.get b with
        current := current
        shortTimer :=
          if (s.blowers.get b).protection = .running ∧ s.resetHeld = false then
            (if s.settings.shortLevel ≤ current then some ((s.blowers.get b).shortTimer.getD 0) else none)
          else (s.blowers.get b).shortTimer
        overloadTimer :=
          if (s.blowers.get b).protection = .running ∧ s.resetHeld = false then
            (if s.settings.overloadLevel.get b ≤ current then some ((s.blowers.get b).overloadTimer.getD 0) else none)
          else (s.blowers.get b).overloadTimer } ∧
      (∀ b', b' ≠ b → t.blowers.get b' = s.blowers.get b') ∧ ChangesOnly [.blowers] s t

/-- SHORT_TRIP: a Running blower with a running short timer trips when the rest of the Short Time has passed, kind Short;
OVERLOAD_TRIP: one whose overload timer has reached the Overload Time trips, kind Overload (R138, R139, R140). The
output is 0 at once, the count one up, the fourth trip latches, and Motor Fault follows (R144). Otherwise nothing
changes (log entry 3). -/
def Obligations.TripsStopTheBlower : Prop :=
  ∀ (b : Blower) (s : State), OwnedConditions s →
    (∀ k, (s.blowers.get b).protection = .running → (s.blowers.get b).shortTimer = some k →
      ∃ t, exec (.shortTrip b) s = .next t ∧
        (∃ u, ChangesOnly [.clock, .blowers] s u ∧
          u.clock = s.clock.advance (s.settings.shortTime - k) ∧
          (∀ b', u.blowers.get b' = { s.blowers.get b' with
            shortTimer := (s.blowers.get b').shortTimer.map (· + (s.settings.shortTime - k)) }) ∧
          BlowerBecomes b (tripped (u.blowers.get b) .short) True u t)) ∧
    ((s.blowers.get b).protection ≠ .running ∨ (s.blowers.get b).shortTimer = none →
      exec (.shortTrip b) s = .next s) ∧
    (∀ k, (s.blowers.get b).protection = .running → (s.blowers.get b).overloadTimer = some k →
      10 * s.settings.overloadTime ≤ k →
      ∃ t, exec (.overloadTrip b) s = .next t ∧ BlowerBecomes b (tripped (s.blowers.get b) .overload) True s t) ∧
    ((s.blowers.get b).protection ≠ .running ∨ (s.blowers.get b).overloadTimer = none ∨
        (∃ k, (s.blowers.get b).overloadTimer = some k ∧ k < 10 * s.settings.overloadTime) →
      exec (.overloadTrip b) s = .next s)

/-- COOLDOWN_END: a Tripped blower whose cooldown has reached 200 frames becomes Running with both detectors judged
afresh, its count and window kept (R141). TRIP_WINDOW_EXPIRY: a window that has reached 6000 frames becomes idle and the
count returns to 0 (R142). Each sets the Movers mark (R147). Otherwise nothing changes (log entry 3). -/
def Obligations.CooldownAndWindowRunOut : Prop :=
  ∀ (b : Blower) (s : State), OwnedConditions s →
    (∀ k, (s.blowers.get b).protection = .tripped → (s.blowers.get b).cooldown = some k → 200 ≤ k →
      ∃ t, exec (.cooldownEnd b) s = .next t ∧
        t.blowers.get b = { s.blowers.get b with
          protection := .running
          cooldown := none
          shortTimer := freshTimer (s.blowers.get b).current s.settings.shortLevel
          overloadTimer := freshTimer (s.blowers.get b).current (s.settings.overloadLevel.get b) } ∧
        (∀ b', b' ≠ b → t.blowers.get b' = s.blowers.get b') ∧
        MarkedAll .movers t ∧ MarksChangeOnly [.movers] s t ∧ ChangesOnly [.blowers, .marks] s t) ∧
    ((s.blowers.get b).protection ≠ .tripped ∨ (s.blowers.get b).cooldown = none ∨
        (∃ k, (s.blowers.get b).cooldown = some k ∧ k < 200) → exec (.cooldownEnd b) s = .next s) ∧
    (∀ k, (s.blowers.get b).window = some k → 6000 ≤ k →
      ∃ t, exec (.tripWindowExpiry b) s = .next t ∧
        t.blowers.get b = { s.blowers.get b with window := none, trips := 0 } ∧
        (∀ b', b' ≠ b → t.blowers.get b' = s.blowers.get b') ∧
        MarkedAll .movers t ∧ MarksChangeOnly [.movers] s t ∧ ChangesOnly [.blowers, .marks] s t) ∧
    ((s.blowers.get b).window = none ∨ (∃ k, (s.blowers.get b).window = some k ∧ k < 6000) →
      exec (.tripWindowExpiry b) s = .next s)

/-- Every step keeps each blower's output within 0 to 1000 ‰ and at 0 while it is Tripped or Latched (R135), with the
levels the targets come from in range. -/
def Obligations.StepKeepsStoppedBlowersAtZero : Prop :=
  ∀ s t : State, StoppedAtZero s → step s = .next t → StoppedAtZero t

/-- CLEAR_LATCHES: below rank 4 it is answered Denied; otherwise every Latched blower becomes Running with a count of 0
and its detectors judged afresh, every Stuck actuator becomes Still with its retry back and takes its target afresh,
and the Answer counts both (R143, R155); Motor Fault and Actuator Stuck are then Clear (R144, R156). -/
def Obligations.ClearLatchesRestartsTheMovers : Prop :=
  ∀ (n : Station) (s : State), s.receives n → mayRequest (s.slot n).cls 0x0A#8 = true →
    ((s.slot n).rank < 4 → Refused (.clearLatches n) n 0x0A#8 .denied s) ∧
    (4 ≤ (s.slot n).rank →
      Handled (.clearLatches n) n 0x0A#8 s fun a t ans =>
        (∀ b, (a.blowers.get b).protection = .latched →
          t.blowers.get b = { a.blowers.get b with
            target := (t.blowers.get b).target
            protection := .running
            cooldown := none
            trips := 0
            window := none
            shortTimer := freshTimer (a.blowers.get b).current a.settings.shortLevel
            overloadTimer := freshTimer (a.blowers.get b).current (a.settings.overloadLevel.get b) }) ∧
        (∀ b, (a.blowers.get b).protection ≠ .latched →
          t.blowers.get b = { a.blowers.get b with target := (t.blowers.get b).target }) ∧
        (t.plan = a.plan → ∀ x, (a.actuators.get x).motion = .stuck →
          let r := t.actuators.get x
          r.target = (a.actuators.get x).target ∧ r.position = (a.actuators.get x).position ∧
          r.lastFault = (a.actuators.get x).lastFault ∧ r.retryUsed = false ∧ r.stallRef = r.position ∧
          r.stallTimer = 0 ∧ r.reversal = none ∧ r.stallWait = none ∧
          (r.target ≤ r.position + 2 ∧ r.position ≤ r.target + 2 → r.motion = .still ∧ r.drive = .off) ∧
          (r.position + 2 < r.target → r.motion = .moving ∧ r.drive = .opening) ∧
          (r.target + 2 < r.position → r.motion = .moving ∧ r.drive = .closing)) ∧
        (t.plan = a.plan → ∀ x, (a.actuators.get x).motion ≠ .stuck → t.actuators.get x = a.actuators.get x) ∧
        t.conditions.motorFault = false ∧ t.conditions.actuatorStuck = false ∧
        (∃ blowers actuators : Nat,
          ans = ⟨.done, Word.ofNat blowers, Word.ofNat actuators, 0#16⟩ ∧
          blowers = (Blower.all.filter fun b => decide ((a.blowers.get b).protection = .latched)).length ∧
          actuators = (ActuatorId.all.filter fun x => decide ((a.actuators.get x).motion = .stuck)).length ∧
          (0 < blowers + actuators → MarkedAll .movers t)) ∧
        ChangesOnly resolutionParts a t ∧
        ConditionsChangeOnly [.motorFault, .actuatorStuck, .holdShortfall, .coUnderSeal] a t)

/-- ACTUATOR_STALL at 150 frames without progress: Stalled, or Stuck once the retry is used (R152). REVERSAL_END at 10
frames and STALL_WAIT_END at 500: Still where the target is within 2, else Moving toward it, the latter with the retry
used (R153, R154). Each sets what R156 and R159 say; otherwise nothing changes (log entry 3). FRAME_MARK reads every
actuator's feedback and takes its motion on by R149, R150, R152, R153, R154 and R160, under the target then in force
(R151), in any order of its blocks (log entry 5), with RESETN released (log entry 36). That the stall timer is 0 in Still
after a move, in Reversing, in Stalled and in Stuck is the model's reading (log entry 19); that an entry to Stuck keeps
retry used (log entry 38) and that the stall reference takes the position at the end of the wait for the first mark (log
entry 39) are its choices. -/
def Obligations.ActuatorTimersRunOut : Prop :=
  (∀ (x : ActuatorId) (s : State), OwnedConditions s →
    let a := s.actuators.get x
    let near := a.target ≤ a.position + 2 ∧ a.position ≤ a.target + 2
    let moving := fun (retry : Bool) (r : ActuatorState) =>
      r = { a with
        motion := .moving
        drive := if a.position < a.target then .opening else .closing
        stallRef := a.position
        stallTimer := 0
        reversal := none
        stallWait := none
        retryUsed := retry }
    let still := fun (r : ActuatorState) =>
      r = { a with motion := .still, drive := .off, stallTimer := 0, reversal := none, stallWait := none }
    (a.motion = .moving → 150 ≤ a.stallTimer → a.retryUsed = false →
      ∃ t, exec (.actuatorStall x) s = .next t ∧
        t.actuators.get x =
          { a with motion := .stalled, drive := .off, stallTimer := 0, stallWait := some 0, lastFault := .stall } ∧
        (∀ y, y ≠ x → t.actuators.get y = s.actuators.get y) ∧
        MarkedAll .movers t ∧ MarksChangeOnly [.movers] s t ∧ ChangesOnly [.actuators, .marks] s t) ∧
    (a.motion = .moving → 150 ≤ a.stallTimer → a.retryUsed = true →
      ∃ t, exec (.actuatorStall x) s = .next t ∧
        t.actuators.get x =
          { a with
            target := (t.actuators.get x).target, motion := .stuck, drive := .off, stallTimer := 0, reversal := none,
            stallWait := none, lastFault := .stall, waiting := false } ∧
        t.conditions.actuatorStuck = true ∧ MarkedAll .movers t ∧ ChangesOnly resolutionParts s t) ∧
    (¬(a.motion = .moving ∧ 150 ≤ a.stallTimer) → exec (.actuatorStall x) s = .next s) ∧
    (∀ k, a.motion = .reversing → a.reversal = some k → 10 ≤ k →
      ∃ t, exec (.reversalEnd x) s = .next t ∧
        (near → still (t.actuators.get x)) ∧ (¬near → moving a.retryUsed (t.actuators.get x)) ∧
        (∀ y, y ≠ x → t.actuators.get y = s.actuators.get y) ∧ ChangesOnly [.actuators] s t) ∧
    (¬(a.motion = .reversing ∧ ∃ k, a.reversal = some k ∧ 10 ≤ k) → exec (.reversalEnd x) s = .next s) ∧
    (∀ k, a.motion = .stalled → a.stallWait = some k → 500 ≤ k →
      ∃ t, exec (.stallWaitEnd x) s = .next t ∧
        (near → still (t.actuators.get x) ∧ ChangesOnly [.actuators] s t) ∧
        (¬near → moving true (t.actuators.get x) ∧ MarkedAll .movers t) ∧
        (∀ y, y ≠ x → t.actuators.get y = s.actuators.get y) ∧
        MarksChangeOnly [.movers] s t ∧ ChangesOnly [.actuators, .marks] s t) ∧
    (¬(a.motion = .stalled ∧ ∃ k, a.stallWait = some k ∧ 500 ≤ k) → exec (.stallWaitEnd x) s = .next s)) ∧
  ∀ (fb : PerActuator Nat) (order : List MarkBlock) (turn : Turn) (s : State), s.resetHeld = false →
    ∃ t, exec (.frameMark fb order turn) s = .next t ∧
      (t.conditions.actuatorStuck = true ↔ ∃ x, (t.actuators.get x).motion = .stuck) ∧
      ∀ x, ∃ u v, Retargeted (s.actuators.get x) u ∧ Retargeted v (t.actuators.get x) ∧
        (order.head? = some .actuators → u = s.actuators.get x) ∧
        (Calm s → u = s.actuators.get x ∧ v = t.actuators.get x) ∧
        ActuatorMarked (fb.get x) (s.settings.closedEnd.get x) (s.settings.openEnd.get x) u v ∧
        ((v.motion ≠ u.motion ∧ (v.motion = .stuck ∨ v.motion = .stalled)) ∨
          (u.motion = .stalled ∧ v.motion = .moving) → MarkedAll .movers t)

/-- Every step keeps every actuator's target and position within 0 to 100 %, and its drive off exactly where it is not
Moving (R148). -/
def Obligations.StepKeepsActuatorsInRange : Prop :=
  ∀ s t : State, ActuatorsInRange s → step s = .next t → ActuatorsInRange t

/-! ## The Crew Loop -/

/-- FRAME_MARK_END: a mark is good where the break was seen and the three bytes match, frame number and check, with
valid stop bits; the runs and Loop Fault move by the table of R171, with the effects of R124. LOOP_FAULT_RAISE is the
third of three mismatches and LOOP_FAULT_CLEAR the tenth of ten good marks (log entry 4). FRAME_MARK_END comes with RESETN
released (log entry 36). -/
def Obligations.FrameMarkEndCountsTheReadback : Prop :=
  ∀ (h : Readback) (s : State),
    let good := h.breakSeen = true ∧ h.stopsValid = true ∧ h.high = highByte s.loop.frame ∧
      h.low = lowByte s.loop.frame ∧ h.check = crc8 [highByte s.loop.frame, lowByte s.loop.frame]
    let runs := fun (mismatch goodRun : Nat) =>
      s.setLoop { s.loop with mismatchRun := mismatch, goodRun := goodRun }
    let changed := fun (fault : Bool) (t : State) =>
      t.conditions.loopFault = fault ∧ t.loop = (runs 0 0).loop ∧ t.plan.body = formPlan t ∧
      MarkedAll .conditions t ∧ ChangesOnly (.loop :: resolutionParts) s t ∧
      ConditionsChangeOnly [.loopFault, .holdShortfall, .coUnderSeal] s t ∧ BlowersKeepAllButTargets s t
    (s.resetHeld = false → s.conditions.loopFault = false →
      (good → exec (.frameMarkEnd h) s = .next (runs 0 s.loop.goodRun)) ∧
      (¬good → s.loop.mismatchRun < 2 →
        exec (.frameMarkEnd h) s = .next (runs (s.loop.mismatchRun + 1) s.loop.goodRun)) ∧
      (¬good → 2 ≤ s.loop.mismatchRun → ∃ t, exec (.frameMarkEnd h) s = .next t ∧ changed true t)) ∧
    (s.resetHeld = false → s.conditions.loopFault = true →
      (¬good → exec (.frameMarkEnd h) s = .next (runs s.loop.mismatchRun 0)) ∧
      (good → s.loop.goodRun < 9 →
        exec (.frameMarkEnd h) s = .next (runs s.loop.mismatchRun (s.loop.goodRun + 1))) ∧
      (good → 9 ≤ s.loop.goodRun → ∃ t, exec (.frameMarkEnd h) s = .next t ∧ changed false t)) ∧
    (s.conditions.loopFault = false → 2 ≤ s.loop.mismatchRun →
      ∃ t, exec .loopFaultRaise s = .next t ∧ changed true t) ∧
    (¬(s.conditions.loopFault = false ∧ 2 ≤ s.loop.mismatchRun) → exec .loopFaultRaise s = .next s) ∧
    (s.conditions.loopFault = true → 9 ≤ s.loop.goodRun →
      ∃ t, exec .loopFaultClear s = .next t ∧ changed false t) ∧
    (¬(s.conditions.loopFault = true ∧ 9 ≤ s.loop.goodRun) → exec .loopFaultClear s = .next s)

/-- UPLINK_WINDOW_END of a slot that can take no cell changes nothing (R162, R163). Where the cell was taken by its own
row, its Answer is chosen, or after Idle Data where words wait and Status otherwise, and nothing else changes (R167, log
entry 17). Otherwise a silent window gives Data where words wait and Status where none do; a Garbled one changes nothing
else and is answered Garbled; a valid cell is taken as its kind's command is, and its Answer chosen, or Data or Status
after Idle (R165, R167). -/
def Obligations.WindowEndJudgesAndChooses : Prop :=
  ∀ (n : Station) (rx : Reception) (turn : Turn) (s : State),
    let waiting := fun (u : State) => (u.buffers.get n).isSome = true ∨
      (∃ h, u.trend.hold = some h ∧ h.station = n ∧ u.trend.queue ≠ [])
    let chosen := fun (u : State) (choice : Downlink) =>
      (∀ k ans, (u.loop.lines.get n).window = .taken k (some ans) → choice = .answer k ans) ∧
      (∀ k, (u.loop.lines.get n).window = .taken k none → waiting u → choice = .data) ∧
      (∀ k, (u.loop.lines.get n).window = .taken k none → ¬waiting u → choice = .status)
    (s.receives n = false → exec (.uplinkWindowEnd n rx turn) s = .next s) ∧
    (s.receives n = true → (∃ k a, (s.loop.lines.get n).window = .taken k a) →
      ∃ t choice, exec (.uplinkWindowEnd n rx turn) s = .next t ∧ chosen s choice ∧
        LineBecomes n { s.loop.lines.get n with choice := choice } s t ∧ ChangesOnly [.loop] s t) ∧
    (s.receives n = true → (∀ k a, (s.loop.lines.get n).window ≠ .taken k a) →
      (rx.started = false →
        ∃ t choice, exec (.uplinkWindowEnd n rx turn) s = .next t ∧
          (waiting s → choice = Downlink.data) ∧ (¬waiting s → choice = .status) ∧
          LineBecomes n { s.loop.lines.get n with window := .silent, choice := choice } s t ∧
          ChangesOnly [.loop] s t) ∧
      (rx.started = true →
        (rx.stopsValid = false ∨ rx.bytes.length < 11 ∨
          (∃ b, rx.bytes[0]? = some b ∧ b ≠ stationByte n) ∨ rx.bytes[10]? ≠ some (crc8 (rx.bytes.take 10))) →
        ∃ t, exec (.uplinkWindowEnd n rx turn) s = .next t ∧
          LineBecomes n { s.loop.lines.get n with
            window := .garbled, choice := .answer 0xFF#8 ⟨.garbled, 0#16, 0#16, 0#16⟩ } s t ∧
          ChangesOnly [.loop] s t) ∧
      (∀ (c : Cell) (command : Instr), c.station = n → rx = ⟨true, c.bytes, true⟩ → commandOf c turn = command →
        ∃ u t choice, exec command s = .next u ∧ exec (.uplinkWindowEnd n rx turn) s = .next t ∧
          LineBecomes n { u.loop.lines.get n with choice := choice } u t ∧ ChangesOnly [.loop] u t ∧
          (u.receives n = false → choice = .none) ∧ (u.receives n = true → chosen u choice)))

/-- DOWNLINK_START sends the cell chosen: an Answer with its kind and code in word 0 (R168); a Data cell of the station's
readout before the stream, its position, Last and run kind in word 0 and the run's next three words (R169, R174, R178);
a Status cell with the state, the marks, the stream state and the plan's version and summary (R170). That the run of a
record counts as begun at the start of a downlink of its cells, which decides the record a full queue loses, is the
model's choice (log entry 26). -/
def Obligations.DownlinkStartSendsTheChosenCell : Prop :=
  ∀ (n : Station) (s : State),
    let sent := fun (c : Cell) (run : Option RunKind) (t : State) =>
      LineBecomes n { s.loop.lines.get n with choice := .none, onAir := some ⟨c, run⟩ } s t
    ((s.loop.lines.get n).choice = .none → exec (.downlinkStart n) s = .next s) ∧
    (∀ k ans, (s.loop.lines.get n).choice = .answer k ans →
      ∃ t w0, exec (.downlinkStart n) s = .next t ∧ sent ⟨n, 0x01#8, w0, ans.w1, ans.w2, ans.w3⟩ none t ∧
        w0.toNat = k.toNat + 256 * ans.code.num ∧ ChangesOnly [.loop] s t) ∧
    ((s.loop.lines.get n).choice = .status →
      ∃ t w0 w2, exec (.downlinkStart n) s = .next t ∧
        sent ⟨n, 0x03#8, w0, s.plan.version, w2, Word.ofNat s.trend.queue.length⟩ none t ∧
        (s.modeOf n ≠ .disabled → w0.toNat % 8 = match s.modeOf n with
          | .absent => 0 | .live => 1 | .quiet => 2 | .lost => 3 | .disabled => 4) ∧
        (w0.getLsbD 4 = (s.marks.get n).plan ∧ w0.getLsbD 5 = (s.marks.get n).conditions ∧
          w0.getLsbD 6 = (s.marks.get n).purge ∧ w0.getLsbD 7 = (s.marks.get n).vehicle ∧
          w0.getLsbD 8 = (s.marks.get n).movers ∧ w0.getLsbD 9 = (s.marks.get n).settings) ∧
        w0.toNat / 4096 = (if s.holdsStream n then 1 else if s.detached.get n then 2 else 0) ∧
        w2.toNat % 4 = s.plan.body.shelter.code ∧ w2.toNat / 16 = s.plan.body.phase.code ∧
        ChangesOnly [.loop] s t) ∧
    (∀ b, (s.loop.lines.get n).choice = .data → s.buffers.get n = some b → b.sent ≤ 15 →
      ∃ t w0, exec (.downlinkStart n) s = .next t ∧
        sent ⟨n, 0x02#8, w0, (b.words[3 * b.sent]?).getD 0#16, (b.words[3 * b.sent + 1]?).getD 0#16,
          (b.words[3 * b.sent + 2]?).getD 0#16⟩ (some .readout) t ∧
        w0.toNat % 16 = b.sent ∧
        (w0.getLsbD 4 = true ↔ (b.words.length + 2) / 3 = b.sent + 1) ∧ w0.toNat / 32 = 0 ∧ ChangesOnly [.loop] s t) ∧
    (∀ r rest words, (s.loop.lines.get n).choice = .data → s.buffers.get n = none → s.holdsStream n = true →
      s.trend.queue = r :: rest → s.trend.sent ≤ 15 → words = r.words →
      ∃ t w0, exec (.downlinkStart n) s = .next t ∧
        sent ⟨n, 0x02#8, w0, (words[3 * s.trend.sent]?).getD 0#16, (words[3 * s.trend.sent + 1]?).getD 0#16,
          (words[3 * s.trend.sent + 2]?).getD 0#16⟩ (some .stream) t ∧
        w0.toNat % 16 = s.trend.sent ∧ (w0.getLsbD 4 = true ↔ (words.length + 2) / 3 = s.trend.sent + 1) ∧
        w0.toNat / 32 = 1 ∧ t.trend = { s.trend with begun := true } ∧ ChangesOnly [.loop, .trend] s t)

/-- DOWNLINK_END counts the cell on the line as sent (R169): a readout ends with its last cell and its buffer is then
empty (R174), a trend record leaves the queue with its last cell (R178), and any other cell changes nothing else. -/
def Obligations.DownlinkEndAdvancesTheRun : Prop :=
  ∀ (n : Station) (s : State),
    ((s.loop.lines.get n).onAir = none → exec (.downlinkEnd n) s = .next s) ∧
    (∀ a, (s.loop.lines.get n).onAir = some a →
      ∃ t, exec (.downlinkEnd n) s = .next t ∧ LineBecomes n { s.loop.lines.get n with onAir := none } s t ∧
        (a.run = none → ChangesOnly [.loop] s t) ∧
        (a.run = some .readout → ChangesOnly [.loop, .buffers] s t ∧
          (∀ m, m ≠ n → t.buffers.get m = s.buffers.get m) ∧
          ∀ b, s.buffers.get n = some b →
            (b.words.length ≤ 3 * (b.sent + 1) → t.buffers.get n = none) ∧
            (3 * (b.sent + 1) < b.words.length → t.buffers.get n = some ⟨b.words, b.sent + 1⟩)) ∧
        (a.run = some .stream → ChangesOnly [.loop, .trend] s t ∧
          ∀ r rest, s.trend.queue = r :: rest →
            (2 + r.entries.length ≤ 3 * (s.trend.sent + 1) →
              t.trend = { s.trend with queue := rest, begun := false, sent := 0 }) ∧
            (3 * (s.trend.sent + 1) < 2 + r.entries.length →
              t.trend = { s.trend with sent := s.trend.sent + 1 })))

/-- The eleven bytes of a cell, received whole in its own station's window, are judged to be that cell, word for word;
in another station's window, with another check byte, or with a bad stop bit they are Garbled, and without a start
bit the window is silent (R164, R165). -/
def Obligations.CellBytesJudgeBackToTheCell : Prop :=
  ∀ c : Cell,
    judgeWindow c.station ⟨true, c.bytes, true⟩ = .valid c ∧
    (∀ n, n ≠ c.station → judgeWindow n ⟨true, c.bytes, true⟩ = .garbled) ∧
    (∀ b, b ≠ crc8 c.body → judgeWindow c.station ⟨true, c.body ++ [b], true⟩ = .garbled) ∧
    judgeWindow c.station ⟨true, c.bytes, false⟩ = .garbled ∧
    ∀ bytes stops, judgeWindow c.station ⟨false, bytes, stops⟩ = .silent

/-! ## The Readout Unit -/

/-- READOUT: a start word above 361 is answered Range and a station with a readout in flight Busy; otherwise the count is
brought into 1 to 24 and to the end of the Record Space, the words are copied as they stand after the refresh, and the
marks of the groups whose regions overlap them are cleared (R172, R173). -/
def Obligations.ReadoutCopiesAndClearsMarks : Prop :=
  ∀ (n : Station) (start count : Word) (s : State), s.receives n →
    (361 < start.toNat → Refused (.readout n start count) n 0x0B#8 .range s) ∧
    (start.toNat ≤ 361 → (s.buffers.get n).isSome = true → Refused (.readout n start count) n 0x0B#8 .busy s) ∧
    (start.toNat ≤ 361 → s.buffers.get n = none →
      Handled (.readout n start count) n 0x0B#8 s fun a t ans =>
        ∃ k : Nat, k = min (max 1 (min 24 count.toNat)) (362 - start.toNat) ∧
          a.recordSpace.length = 362 ∧
          t.buffers = a.buffers.set n (some ⟨(a.recordSpace.drop start.toNat).take k, 0⟩) ∧
          ans = ⟨if k = count.toNat then .done else .clamped, start, Word.ofNat k, 0#16⟩ ∧
          (∀ m, m ≠ n → t.marks.get m = a.marks.get m) ∧
          (∀ g lo hi, (g, lo, hi) ∈ [(Group.plan, 92, 115), (.vehicle, 157, 160), (.conditions, 155, 156),
              (.purge, 161, 171), (.movers, 178, 201), (.settings, 202, 361)] →
            (t.marks.get n).get g =
              if start.toNat ≤ hi ∧ lo < start.toNat + k then false else (a.marks.get n).get g) ∧
          ChangesOnly [.buffers, .marks] a t)

/-- JOIN_STREAM: a mask of no channel or more than eight is answered Range; a stream held by another station of equal or
higher rank Busy; otherwise it is granted with an empty queue and the pass counter at 0, and another holder is
Detached. LEAVE_STREAM releases the holder's stream. Each clears the sender's own indication (R175, R176). -/
def Obligations.StreamIsJoinedAndLeft : Prop :=
  ∀ (n : Station) (mask decimation : Word) (s : State), s.receives n → mayRequest (s.slot n).cls 0x0C#8 = true →
    let chosen := (Channel.all.filter fun c => mask.getLsbD c.num).length
    let busy := ∃ h, s.trend.hold = some h ∧ h.station ≠ n ∧ (s.slot n).rank ≤ (s.slot h.station).rank
    (chosen = 0 ∨ 8 < chosen →
      Handled (.joinStream n mask decimation) n 0x0C#8 s fun a t ans =>
        ans = ⟨.range, 0#16, 0#16, 0#16⟩ ∧ t = a.setDetached (a.detached.set n false)) ∧
    (1 ≤ chosen → chosen ≤ 8 → busy →
      Handled (.joinStream n mask decimation) n 0x0C#8 s fun a t ans =>
        ans = ⟨.busy, 0#16, 0#16, 0#16⟩ ∧ t = a.setDetached (a.detached.set n false)) ∧
    (1 ≤ chosen → chosen ≤ 8 → ¬busy →
      ∃ a t k, exec (.idle n) s = .next a ∧ exec (.joinStream n mask decimation) s = .next t ∧
        k = max 1 (min 50 decimation.toNat) ∧
        t.trend = ⟨some ⟨n, mask &&& 0x1FFF#16, k⟩, 0, [], false, 0⟩ ∧
        (∀ m, t.detached.get m =
          if m ≠ n ∧ s.holdsStream m = true then true else if m = n then false else s.detached.get m) ∧
        (t.loop.lines.get n).window = .taken 0x0C#8
          (some ⟨if k = decimation.toNat then .done else .clamped, mask &&& 0x1FFF#16, Word.ofNat k, 0#16⟩) ∧
        ChangesOnly [.trend, .detached, .loop] a t) ∧
    (∃ a t, exec (.idle n) s = .next a ∧ exec (.leaveStream n) s = .next t ∧
      t.trend = a.trend.without n ∧ t.detached = a.detached.set n false ∧
      (t.loop.lines.get n).window = .taken 0x0D#8
        (some ⟨.done, if s.holdsStream n then 1#16 else 0#16, 0#16, 0#16⟩) ∧
      ChangesOnly [.trend, .detached, .loop] a t)

/-! ## Settings -/

/-- Every row of the settings family, and SETTINGS_STORE, is answered Blocked and changes nothing beyond the refresh
where the permit does not hold after it (R181). With the permit, a write whose index names no setting, whose code is
none of the setting's, or that would leave two enabled slots with the Vehicle class, is answered Range, and a store
while one is in progress Busy, each with nothing changed (R182, R183). -/
def Obligations.ServiceRequestsAreRefusedInOrder : Prop :=
  ∀ (n : Station) (s : State), s.receives n → (s.slot n).cls = .service →
    (¬Permit (arrive n s) → ∀ c k, requestOf c = some (n, k) → (k = 0x0F#8 ∨ k = 0x10#8) → Refused c n k .blocked s) ∧
    (Permit (arrive n s) →
      (∀ index value, (∀ st ∈ Setting.all, st.index ≠ index.toNat) →
        Refused (.settingsWrite n index value) n 0x0F#8 .range s) ∧
      (∀ st value, ¬MayHold s st value → Refused (writeRow n st value) n 0x0F#8 .range s) ∧
      (s.store.writing.isSome → Refused (.settingsStore n) n 0x10#8 .busy s))

/-- A write of a setting with a numerical range holds the value brought into the range (section 12.4, R7, R20, R48, R63,
R91, R103, R110, R133, R146, R157), and one of a setting with codes holds the code; the Answer is Clamped exactly where
the value was moved, and carries the index and the value held; the setting its rule pairs with it is moved as far as the
rule asks (R7, R133, R157) and every other stays; the Settings mark is set, also for the station of a slot that the
write itself enables (log entry 22), the stored copy and its check word stay (R182). SETTINGS_WRITE at the index does
the same as the setting's own row. Words are read unsigned but for gains and offsets (log entry 14). -/
def Obligations.SettingsWritesHoldTheirValue : Prop :=
  ∀ (n : Station) (st : Setting) (value : Word) (s : State),
    s.receives n → (s.slot n).cls = .service → Permit (arrive n s) → MayHold s st value → SettingsInRange s.settings →
      ∃ a t ans v, exec (.idle n) s = .next a ∧ exec (writeRow n st value) s = .next t ∧
        exec (.settingsWrite n (Word.ofNat st.index) value) s = .next t ∧
        HeldAs s.settings st value v ∧ settingValue t.settings st = v ∧
        (∀ st', st' ≠ st → followsFrom st st' = false → settingValue t.settings st' = settingValue s.settings st') ∧
        (∀ st', followsFrom st st' = true →
          settingValue t.settings st' = keptApart st v (settingValue s.settings st')) ∧
        (t.loop.lines.get n).window = .taken 0x0F#8 (some ans) ∧
        ans = ⟨if v = writtenAs st value then .done else .clamped, Word.ofNat st.index, Word.ofInt v, 0#16⟩ ∧
        MarkedAll .settings t ∧
        ChangesOnly (.settings :: .loop :: .marks :: settingParts st) a t

/-- Slot writes act at once. Enabled to no drops what Lost drops, makes the station Disabled and its slot send nothing
more in the frame; enabled to yes makes it Absent (R9). A class written Vehicle removes an enabled station's entries and
detaches it from the stream; a scope removes its entries outside the scope; a rank changes none; each keeps the state,
the count and a readout in flight (R10); the rank's word is read unsigned, so every word above 7 is held as 7 (the
model's choice, log entry 14). Where entries or a rank changed the plan is formed anew. A write of the value held, and
one to a disabled slot, change nothing but the settings and their mark. -/
def Obligations.SlotWritesActAtOnce : Prop :=
  ∀ (n m : Station) (s : State),
    s.receives n → (s.slot n).cls = .service → Permit (arrive n s) → SettingsInRange s.settings →
    ∃ a, exec (.idle n) s = .next a ∧
    let own := ∃ e ∈ a.table, e.station = m
    let rest := a.table.filter fun e => decide (e.station ≠ m)
    (∃ t, exec (.slotEnableWrite n m 0#16) s = .next t ∧ t.slot m = { a.slot m with enabled := false } ∧
      ((a.slot m).enabled = false → ChangesOnly [.loop, .marks] a t) ∧
      ((a.slot m).enabled = true →
        t.stations = a.stations.set m ⟨.disabled, 0⟩ ∧ t.table = rest ∧ t.buffers = a.buffers.set m none ∧
        t.trend = a.trend.without m ∧ (t.loop.lines.get m).cut = true ∧ t.receives m = false ∧
        (own → t.plan.body = formPlan t) ∧
        ((a.slot m).cls = .vehicle → t.vehicle.record.verified = false ∧ ∀ d, t.vehicle.record.doors.get d = false))) ∧
    (MayHold s (.slotEnabled m) 1#16 →
      ∃ t, exec (.slotEnableWrite n m 1#16) s = .next t ∧ t.slot m = { a.slot m with enabled := true } ∧
        ((a.slot m).enabled = true → ChangesOnly [.loop, .marks] a t) ∧
        ((a.slot m).enabled = false → t.stations = a.stations.set m ⟨.absent, 0⟩) ∧
        t.table = a.table ∧ t.buffers = a.buffers ∧ t.trend = a.trend) ∧
    (∀ c : StationClass, MayHold s (.slotClass m) (Word.ofNat c.code) →
      ∃ t, exec (.slotClassWrite n m (Word.ofNat c.code)) s = .next t ∧ t.slot m = { a.slot m with cls := c } ∧
        t.stations = a.stations ∧ t.buffers = a.buffers ∧
        ((a.slot m).enabled = true → c = .vehicle → (a.slot m).cls ≠ .vehicle →
          t.table = rest ∧ t.trend = a.trend.without m ∧
          t.detached = (if a.holdsStream m then a.detached.set m true else a.detached) ∧
          (own → t.plan.body = formPlan t)) ∧
        ((a.slot m).enabled = false ∨ c ≠ .vehicle ∨ (a.slot m).cls = .vehicle →
          t.table = a.table ∧ t.trend = a.trend ∧ t.detached = a.detached) ∧
        ((a.slot m).enabled = true → c ≠ .vehicle → (a.slot m).cls = .vehicle → t.vehicle.record.verified = false) ∧
        ((a.slot m).enabled = false ∨ (a.slot m).cls = c → ChangesOnly [.settings, .loop, .marks] a t)) ∧
    (∀ value : Word,
      ∃ t, exec (.slotRankWrite n m value) s = .next t ∧ t.slot m = { a.slot m with rank := min 7 value.toNat } ∧
        ((a.slot m).enabled = true → (a.slot m).rank ≠ min 7 value.toNat → t.plan.body = formPlan t) ∧
        ((a.slot m).enabled = false ∨ (a.slot m).rank = min 7 value.toNat →
          ChangesOnly [.settings, .loop, .marks] a t) ∧
        ChangesOnly (.settings :: .loop :: resolutionParts) a t) ∧
    (∀ sc : Scope,
      ∃ t, exec (.slotScopeWrite n m (Word.ofNat sc.code)) s = .next t ∧ t.slot m = { a.slot m with scope := sc } ∧
        ((a.slot m).enabled = true → (a.slot m).scope ≠ sc →
          t.table = a.table.filter (fun e => decide (e.station ≠ m) || e.demand.within sc)) ∧
        ((∃ e ∈ a.table, e.station = m ∧ e.demand.within sc = false) → (a.slot m).enabled = true →
          (a.slot m).scope ≠ sc → t.plan.body = formPlan t) ∧
        ((a.slot m).enabled = false ∨ (a.slot m).scope = sc → ChangesOnly [.settings, .loop, .marks] a t) ∧
        ChangesOnly (.table :: .settings :: .loop :: resolutionParts) a t)

/-- Every step keeps every setting in its range, in the working copy, in a snapshot and in the stored copy (R1, R110,
R133, R157, R182, section 12.4). -/
def Obligations.StepKeepsTheSettingsInRange : Prop :=
  ∀ s t : State, SettingsSound s → step s = .next t → SettingsSound t

/-- SETTINGS_STORE with the permit and no store in progress snapshots the working copy and starts Writing, answered
Done. STORE_COMPLETE puts the snapshot with its check word in the stored copy's place, 40 ms after the acceptance,
shows the new check word, clears Settings Defaulted and sets the Settings marks. POWER_LOSS while Writing leaves a
stored copy whose check fails and no snapshot (R183); its other effects come with the reset that follows (log entry
12). -/
def Obligations.StoreSnapshotsAndCompletes : Prop :=
  ∀ s : State,
    (∀ n : Station, s.receives n → (s.slot n).cls = .service → Permit (arrive n s) → s.store.writing = none →
        Handled (.settingsStore n) n 0x10#8 s fun a t ans =>
          t = a.setStore { a.store with writing := some ⟨s.settings, s.clock.ms⟩ } ∧
          ans = ⟨.done, 0#16, 0#16, 0#16⟩) ∧
    (∀ w, s.store.writing = some w →
      ∃ t, exec .storeComplete s = .next t ∧
        t.store = ⟨.whole w.snapshot w.snapshot.checkWord, w.snapshot.checkWord, none⟩ ∧
        t.conditions.settingsDefaulted = false ∧ MarkedAll .settings t ∧
        (s.clock.tenths < 10 → (w.since + 40#32 - s.clock.ms).toNat < 2 ^ 31 → t.clock.ms = w.since + 40#32) ∧
        (s.conditions.settingsDefaulted = true → t.plan.body = formPlan t) ∧
        (s.conditions.settingsDefaulted = false →
          MarksChangeOnly [.settings] s t ∧ ChangesOnly [.store, .clock, .blowers, .marks] s t) ∧
        ChangesOnly (.store :: .clock :: resolutionParts) s t) ∧
    (s.store.writing = none → exec .storeComplete s = .next s) ∧
    (∃ t, exec .powerLoss s = .next t ∧ ChangesOnly [.store] s t ∧
      (s.store.writing.isSome → t.store = ⟨.torn, s.store.shownCheck, none⟩) ∧
      (s.store.writing = none → t = s))
end

