-- ==== Sys2Proof/Laws/State.lean ====
section
/-! SUPPORT. What each setter of `State` leaves: one lemma for each field and each setter, so that no proof unfolds a
record update. -/

namespace Sys2Proof.Machine

/-! ### setPending -/

@[simp] theorem State.setPending_pending (s : State) (v : List Instr) : (s.setPending v).pending = v := rfl
@[simp] theorem State.setPending_settings (s : State) (v : List Instr) : (s.setPending v).settings = s.settings := rfl
@[simp] theorem State.setPending_store (s : State) (v : List Instr) : (s.setPending v).store = s.store := rfl
@[simp] theorem State.setPending_loop (s : State) (v : List Instr) : (s.setPending v).loop = s.loop := rfl
@[simp] theorem State.setPending_stations (s : State) (v : List Instr) : (s.setPending v).stations = s.stations := rfl
@[simp] theorem State.setPending_table (s : State) (v : List Instr) : (s.setPending v).table = s.table := rfl
@[simp] theorem State.setPending_plan (s : State) (v : List Instr) : (s.setPending v).plan = s.plan := rfl
@[simp] theorem State.setPending_resolver (s : State) (v : List Instr) : (s.setPending v).resolver = s.resolver := rfl
@[simp] theorem State.setPending_reg (s : State) (v : List Instr) : (s.setPending v).reg = s.reg := rfl
@[simp] theorem State.setPending_purge (s : State) (v : List Instr) : (s.setPending v).purge = s.purge := rfl
@[simp] theorem State.setPending_vehicle (s : State) (v : List Instr) : (s.setPending v).vehicle = s.vehicle := rfl
@[simp] theorem State.setPending_clock (s : State) (v : List Instr) : (s.setPending v).clock = s.clock := rfl
@[simp] theorem State.setPending_scan (s : State) (v : List Instr) : (s.setPending v).scan = s.scan := rfl
@[simp] theorem State.setPending_record (s : State) (v : List Instr) : (s.setPending v).record = s.record := rfl
@[simp] theorem State.setPending_scene (s : State) (v : List Instr) : (s.setPending v).scene = s.scene := rfl
@[simp] theorem State.setPending_conditions (s : State) (v : List Instr) : (s.setPending v).conditions = s.conditions := rfl
@[simp] theorem State.setPending_alert (s : State) (v : List Instr) : (s.setPending v).alert = s.alert := rfl
@[simp] theorem State.setPending_blowers (s : State) (v : List Instr) : (s.setPending v).blowers = s.blowers := rfl
@[simp] theorem State.setPending_actuators (s : State) (v : List Instr) : (s.setPending v).actuators = s.actuators := rfl
@[simp] theorem State.setPending_buffers (s : State) (v : List Instr) : (s.setPending v).buffers = s.buffers := rfl
@[simp] theorem State.setPending_marks (s : State) (v : List Instr) : (s.setPending v).marks = s.marks := rfl
@[simp] theorem State.setPending_detached (s : State) (v : List Instr) : (s.setPending v).detached = s.detached := rfl
@[simp] theorem State.setPending_resetHeld (s : State) (v : List Instr) : (s.setPending v).resetHeld = s.resetHeld := rfl
@[simp] theorem State.setPending_trend (s : State) (v : List Instr) : (s.setPending v).trend = s.trend := rfl
@[simp] theorem State.setPending_setPending (s : State) (v w : List Instr) : (s.setPending v).setPending w = s.setPending w := rfl
@[simp] theorem State.setPending_self (s : State) : s.setPending s.pending = s := rfl

/-! ### setSettings -/

@[simp] theorem State.setSettings_pending (s : State) (v : Settings) : (s.setSettings v).pending = s.pending := rfl
@[simp] theorem State.setSettings_settings (s : State) (v : Settings) : (s.setSettings v).settings = v := rfl
@[simp] theorem State.setSettings_store (s : State) (v : Settings) : (s.setSettings v).store = s.store := rfl
@[simp] theorem State.setSettings_loop (s : State) (v : Settings) : (s.setSettings v).loop = s.loop := rfl
@[simp] theorem State.setSettings_stations (s : State) (v : Settings) : (s.setSettings v).stations = s.stations := rfl
@[simp] theorem State.setSettings_table (s : State) (v : Settings) : (s.setSettings v).table = s.table := rfl
@[simp] theorem State.setSettings_plan (s : State) (v : Settings) : (s.setSettings v).plan = s.plan := rfl
@[simp] theorem State.setSettings_resolver (s : State) (v : Settings) : (s.setSettings v).resolver = s.resolver := rfl
@[simp] theorem State.setSettings_reg (s : State) (v : Settings) : (s.setSettings v).reg = s.reg := rfl
@[simp] theorem State.setSettings_purge (s : State) (v : Settings) : (s.setSettings v).purge = s.purge := rfl
@[simp] theorem State.setSettings_vehicle (s : State) (v : Settings) : (s.setSettings v).vehicle = s.vehicle := rfl
@[simp] theorem State.setSettings_clock (s : State) (v : Settings) : (s.setSettings v).clock = s.clock := rfl
@[simp] theorem State.setSettings_scan (s : State) (v : Settings) : (s.setSettings v).scan = s.scan := rfl
@[simp] theorem State.setSettings_record (s : State) (v : Settings) : (s.setSettings v).record = s.record := rfl
@[simp] theorem State.setSettings_scene (s : State) (v : Settings) : (s.setSettings v).scene = s.scene := rfl
@[simp] theorem State.setSettings_conditions (s : State) (v : Settings) : (s.setSettings v).conditions = s.conditions := rfl
@[simp] theorem State.setSettings_alert (s : State) (v : Settings) : (s.setSettings v).alert = s.alert := rfl
@[simp] theorem State.setSettings_blowers (s : State) (v : Settings) : (s.setSettings v).blowers = s.blowers := rfl
@[simp] theorem State.setSettings_actuators (s : State) (v : Settings) : (s.setSettings v).actuators = s.actuators := rfl
@[simp] theorem State.setSettings_buffers (s : State) (v : Settings) : (s.setSettings v).buffers = s.buffers := rfl
@[simp] theorem State.setSettings_marks (s : State) (v : Settings) : (s.setSettings v).marks = s.marks := rfl
@[simp] theorem State.setSettings_detached (s : State) (v : Settings) : (s.setSettings v).detached = s.detached := rfl
@[simp] theorem State.setSettings_resetHeld (s : State) (v : Settings) : (s.setSettings v).resetHeld = s.resetHeld := rfl
@[simp] theorem State.setSettings_trend (s : State) (v : Settings) : (s.setSettings v).trend = s.trend := rfl
@[simp] theorem State.setSettings_setSettings (s : State) (v w : Settings) : (s.setSettings v).setSettings w = s.setSettings w := rfl
@[simp] theorem State.setSettings_self (s : State) : s.setSettings s.settings = s := rfl

/-! ### setStore -/

@[simp] theorem State.setStore_pending (s : State) (v : Store) : (s.setStore v).pending = s.pending := rfl
@[simp] theorem State.setStore_settings (s : State) (v : Store) : (s.setStore v).settings = s.settings := rfl
@[simp] theorem State.setStore_store (s : State) (v : Store) : (s.setStore v).store = v := rfl
@[simp] theorem State.setStore_loop (s : State) (v : Store) : (s.setStore v).loop = s.loop := rfl
@[simp] theorem State.setStore_stations (s : State) (v : Store) : (s.setStore v).stations = s.stations := rfl
@[simp] theorem State.setStore_table (s : State) (v : Store) : (s.setStore v).table = s.table := rfl
@[simp] theorem State.setStore_plan (s : State) (v : Store) : (s.setStore v).plan = s.plan := rfl
@[simp] theorem State.setStore_resolver (s : State) (v : Store) : (s.setStore v).resolver = s.resolver := rfl
@[simp] theorem State.setStore_reg (s : State) (v : Store) : (s.setStore v).reg = s.reg := rfl
@[simp] theorem State.setStore_purge (s : State) (v : Store) : (s.setStore v).purge = s.purge := rfl
@[simp] theorem State.setStore_vehicle (s : State) (v : Store) : (s.setStore v).vehicle = s.vehicle := rfl
@[simp] theorem State.setStore_clock (s : State) (v : Store) : (s.setStore v).clock = s.clock := rfl
@[simp] theorem State.setStore_scan (s : State) (v : Store) : (s.setStore v).scan = s.scan := rfl
@[simp] theorem State.setStore_record (s : State) (v : Store) : (s.setStore v).record = s.record := rfl
@[simp] theorem State.setStore_scene (s : State) (v : Store) : (s.setStore v).scene = s.scene := rfl
@[simp] theorem State.setStore_conditions (s : State) (v : Store) : (s.setStore v).conditions = s.conditions := rfl
@[simp] theorem State.setStore_alert (s : State) (v : Store) : (s.setStore v).alert = s.alert := rfl
@[simp] theorem State.setStore_blowers (s : State) (v : Store) : (s.setStore v).blowers = s.blowers := rfl
@[simp] theorem State.setStore_actuators (s : State) (v : Store) : (s.setStore v).actuators = s.actuators := rfl
@[simp] theorem State.setStore_buffers (s : State) (v : Store) : (s.setStore v).buffers = s.buffers := rfl
@[simp] theorem State.setStore_marks (s : State) (v : Store) : (s.setStore v).marks = s.marks := rfl
@[simp] theorem State.setStore_detached (s : State) (v : Store) : (s.setStore v).detached = s.detached := rfl
@[simp] theorem State.setStore_resetHeld (s : State) (v : Store) : (s.setStore v).resetHeld = s.resetHeld := rfl
@[simp] theorem State.setStore_trend (s : State) (v : Store) : (s.setStore v).trend = s.trend := rfl
@[simp] theorem State.setStore_setStore (s : State) (v w : Store) : (s.setStore v).setStore w = s.setStore w := rfl
@[simp] theorem State.setStore_self (s : State) : s.setStore s.store = s := rfl

/-! ### setLoop -/

@[simp] theorem State.setLoop_pending (s : State) (v : Loop) : (s.setLoop v).pending = s.pending := rfl
@[simp] theorem State.setLoop_settings (s : State) (v : Loop) : (s.setLoop v).settings = s.settings := rfl
@[simp] theorem State.setLoop_store (s : State) (v : Loop) : (s.setLoop v).store = s.store := rfl
@[simp] theorem State.setLoop_loop (s : State) (v : Loop) : (s.setLoop v).loop = v := rfl
@[simp] theorem State.setLoop_stations (s : State) (v : Loop) : (s.setLoop v).stations = s.stations := rfl
@[simp] theorem State.setLoop_table (s : State) (v : Loop) : (s.setLoop v).table = s.table := rfl
@[simp] theorem State.setLoop_plan (s : State) (v : Loop) : (s.setLoop v).plan = s.plan := rfl
@[simp] theorem State.setLoop_resolver (s : State) (v : Loop) : (s.setLoop v).resolver = s.resolver := rfl
@[simp] theorem State.setLoop_reg (s : State) (v : Loop) : (s.setLoop v).reg = s.reg := rfl
@[simp] theorem State.setLoop_purge (s : State) (v : Loop) : (s.setLoop v).purge = s.purge := rfl
@[simp] theorem State.setLoop_vehicle (s : State) (v : Loop) : (s.setLoop v).vehicle = s.vehicle := rfl
@[simp] theorem State.setLoop_clock (s : State) (v : Loop) : (s.setLoop v).clock = s.clock := rfl
@[simp] theorem State.setLoop_scan (s : State) (v : Loop) : (s.setLoop v).scan = s.scan := rfl
@[simp] theorem State.setLoop_record (s : State) (v : Loop) : (s.setLoop v).record = s.record := rfl
@[simp] theorem State.setLoop_scene (s : State) (v : Loop) : (s.setLoop v).scene = s.scene := rfl
@[simp] theorem State.setLoop_conditions (s : State) (v : Loop) : (s.setLoop v).conditions = s.conditions := rfl
@[simp] theorem State.setLoop_alert (s : State) (v : Loop) : (s.setLoop v).alert = s.alert := rfl
@[simp] theorem State.setLoop_blowers (s : State) (v : Loop) : (s.setLoop v).blowers = s.blowers := rfl
@[simp] theorem State.setLoop_actuators (s : State) (v : Loop) : (s.setLoop v).actuators = s.actuators := rfl
@[simp] theorem State.setLoop_buffers (s : State) (v : Loop) : (s.setLoop v).buffers = s.buffers := rfl
@[simp] theorem State.setLoop_marks (s : State) (v : Loop) : (s.setLoop v).marks = s.marks := rfl
@[simp] theorem State.setLoop_detached (s : State) (v : Loop) : (s.setLoop v).detached = s.detached := rfl
@[simp] theorem State.setLoop_resetHeld (s : State) (v : Loop) : (s.setLoop v).resetHeld = s.resetHeld := rfl
@[simp] theorem State.setLoop_trend (s : State) (v : Loop) : (s.setLoop v).trend = s.trend := rfl
@[simp] theorem State.setLoop_setLoop (s : State) (v w : Loop) : (s.setLoop v).setLoop w = s.setLoop w := rfl
@[simp] theorem State.setLoop_self (s : State) : s.setLoop s.loop = s := rfl

/-! ### setStations -/

@[simp] theorem State.setStations_pending (s : State) (v : PerStation StationState) : (s.setStations v).pending = s.pending := rfl
@[simp] theorem State.setStations_settings (s : State) (v : PerStation StationState) : (s.setStations v).settings = s.settings := rfl
@[simp] theorem State.setStations_store (s : State) (v : PerStation StationState) : (s.setStations v).store = s.store := rfl
@[simp] theorem State.setStations_loop (s : State) (v : PerStation StationState) : (s.setStations v).loop = s.loop := rfl
@[simp] theorem State.setStations_stations (s : State) (v : PerStation StationState) : (s.setStations v).stations = v := rfl
@[simp] theorem State.setStations_table (s : State) (v : PerStation StationState) : (s.setStations v).table = s.table := rfl
@[simp] theorem State.setStations_plan (s : State) (v : PerStation StationState) : (s.setStations v).plan = s.plan := rfl
@[simp] theorem State.setStations_resolver (s : State) (v : PerStation StationState) : (s.setStations v).resolver = s.resolver := rfl
@[simp] theorem State.setStations_reg (s : State) (v : PerStation StationState) : (s.setStations v).reg = s.reg := rfl
@[simp] theorem State.setStations_purge (s : State) (v : PerStation StationState) : (s.setStations v).purge = s.purge := rfl
@[simp] theorem State.setStations_vehicle (s : State) (v : PerStation StationState) : (s.setStations v).vehicle = s.vehicle := rfl
@[simp] theorem State.setStations_clock (s : State) (v : PerStation StationState) : (s.setStations v).clock = s.clock := rfl
@[simp] theorem State.setStations_scan (s : State) (v : PerStation StationState) : (s.setStations v).scan = s.scan := rfl
@[simp] theorem State.setStations_record (s : State) (v : PerStation StationState) : (s.setStations v).record = s.record := rfl
@[simp] theorem State.setStations_scene (s : State) (v : PerStation StationState) : (s.setStations v).scene = s.scene := rfl
@[simp] theorem State.setStations_conditions (s : State) (v : PerStation StationState) : (s.setStations v).conditions = s.conditions := rfl
@[simp] theorem State.setStations_alert (s : State) (v : PerStation StationState) : (s.setStations v).alert = s.alert := rfl
@[simp] theorem State.setStations_blowers (s : State) (v : PerStation StationState) : (s.setStations v).blowers = s.blowers := rfl
@[simp] theorem State.setStations_actuators (s : State) (v : PerStation StationState) : (s.setStations v).actuators = s.actuators := rfl
@[simp] theorem State.setStations_buffers (s : State) (v : PerStation StationState) : (s.setStations v).buffers = s.buffers := rfl
@[simp] theorem State.setStations_marks (s : State) (v : PerStation StationState) : (s.setStations v).marks = s.marks := rfl
@[simp] theorem State.setStations_detached (s : State) (v : PerStation StationState) : (s.setStations v).detached = s.detached := rfl
@[simp] theorem State.setStations_resetHeld (s : State) (v : PerStation StationState) : (s.setStations v).resetHeld = s.resetHeld := rfl
@[simp] theorem State.setStations_trend (s : State) (v : PerStation StationState) : (s.setStations v).trend = s.trend := rfl
@[simp] theorem State.setStations_setStations (s : State) (v w : PerStation StationState) : (s.setStations v).setStations w = s.setStations w := rfl
@[simp] theorem State.setStations_self (s : State) : s.setStations s.stations = s := rfl

/-! ### setTable -/

@[simp] theorem State.setTable_pending (s : State) (v : List Entry) : (s.setTable v).pending = s.pending := rfl
@[simp] theorem State.setTable_settings (s : State) (v : List Entry) : (s.setTable v).settings = s.settings := rfl
@[simp] theorem State.setTable_store (s : State) (v : List Entry) : (s.setTable v).store = s.store := rfl
@[simp] theorem State.setTable_loop (s : State) (v : List Entry) : (s.setTable v).loop = s.loop := rfl
@[simp] theorem State.setTable_stations (s : State) (v : List Entry) : (s.setTable v).stations = s.stations := rfl
@[simp] theorem State.setTable_table (s : State) (v : List Entry) : (s.setTable v).table = v := rfl
@[simp] theorem State.setTable_plan (s : State) (v : List Entry) : (s.setTable v).plan = s.plan := rfl
@[simp] theorem State.setTable_resolver (s : State) (v : List Entry) : (s.setTable v).resolver = s.resolver := rfl
@[simp] theorem State.setTable_reg (s : State) (v : List Entry) : (s.setTable v).reg = s.reg := rfl
@[simp] theorem State.setTable_purge (s : State) (v : List Entry) : (s.setTable v).purge = s.purge := rfl
@[simp] theorem State.setTable_vehicle (s : State) (v : List Entry) : (s.setTable v).vehicle = s.vehicle := rfl
@[simp] theorem State.setTable_clock (s : State) (v : List Entry) : (s.setTable v).clock = s.clock := rfl
@[simp] theorem State.setTable_scan (s : State) (v : List Entry) : (s.setTable v).scan = s.scan := rfl
@[simp] theorem State.setTable_record (s : State) (v : List Entry) : (s.setTable v).record = s.record := rfl
@[simp] theorem State.setTable_scene (s : State) (v : List Entry) : (s.setTable v).scene = s.scene := rfl
@[simp] theorem State.setTable_conditions (s : State) (v : List Entry) : (s.setTable v).conditions = s.conditions := rfl
@[simp] theorem State.setTable_alert (s : State) (v : List Entry) : (s.setTable v).alert = s.alert := rfl
@[simp] theorem State.setTable_blowers (s : State) (v : List Entry) : (s.setTable v).blowers = s.blowers := rfl
@[simp] theorem State.setTable_actuators (s : State) (v : List Entry) : (s.setTable v).actuators = s.actuators := rfl
@[simp] theorem State.setTable_buffers (s : State) (v : List Entry) : (s.setTable v).buffers = s.buffers := rfl
@[simp] theorem State.setTable_marks (s : State) (v : List Entry) : (s.setTable v).marks = s.marks := rfl
@[simp] theorem State.setTable_detached (s : State) (v : List Entry) : (s.setTable v).detached = s.detached := rfl
@[simp] theorem State.setTable_resetHeld (s : State) (v : List Entry) : (s.setTable v).resetHeld = s.resetHeld := rfl
@[simp] theorem State.setTable_trend (s : State) (v : List Entry) : (s.setTable v).trend = s.trend := rfl
@[simp] theorem State.setTable_setTable (s : State) (v w : List Entry) : (s.setTable v).setTable w = s.setTable w := rfl
@[simp] theorem State.setTable_self (s : State) : s.setTable s.table = s := rfl

/-! ### setPlan -/

@[simp] theorem State.setPlan_pending (s : State) (v : Plan) : (s.setPlan v).pending = s.pending := rfl
@[simp] theorem State.setPlan_settings (s : State) (v : Plan) : (s.setPlan v).settings = s.settings := rfl
@[simp] theorem State.setPlan_store (s : State) (v : Plan) : (s.setPlan v).store = s.store := rfl
@[simp] theorem State.setPlan_loop (s : State) (v : Plan) : (s.setPlan v).loop = s.loop := rfl
@[simp] theorem State.setPlan_stations (s : State) (v : Plan) : (s.setPlan v).stations = s.stations := rfl
@[simp] theorem State.setPlan_table (s : State) (v : Plan) : (s.setPlan v).table = s.table := rfl
@[simp] theorem State.setPlan_plan (s : State) (v : Plan) : (s.setPlan v).plan = v := rfl
@[simp] theorem State.setPlan_resolver (s : State) (v : Plan) : (s.setPlan v).resolver = s.resolver := rfl
@[simp] theorem State.setPlan_reg (s : State) (v : Plan) : (s.setPlan v).reg = s.reg := rfl
@[simp] theorem State.setPlan_purge (s : State) (v : Plan) : (s.setPlan v).purge = s.purge := rfl
@[simp] theorem State.setPlan_vehicle (s : State) (v : Plan) : (s.setPlan v).vehicle = s.vehicle := rfl
@[simp] theorem State.setPlan_clock (s : State) (v : Plan) : (s.setPlan v).clock = s.clock := rfl
@[simp] theorem State.setPlan_scan (s : State) (v : Plan) : (s.setPlan v).scan = s.scan := rfl
@[simp] theorem State.setPlan_record (s : State) (v : Plan) : (s.setPlan v).record = s.record := rfl
@[simp] theorem State.setPlan_scene (s : State) (v : Plan) : (s.setPlan v).scene = s.scene := rfl
@[simp] theorem State.setPlan_conditions (s : State) (v : Plan) : (s.setPlan v).conditions = s.conditions := rfl
@[simp] theorem State.setPlan_alert (s : State) (v : Plan) : (s.setPlan v).alert = s.alert := rfl
@[simp] theorem State.setPlan_blowers (s : State) (v : Plan) : (s.setPlan v).blowers = s.blowers := rfl
@[simp] theorem State.setPlan_actuators (s : State) (v : Plan) : (s.setPlan v).actuators = s.actuators := rfl
@[simp] theorem State.setPlan_buffers (s : State) (v : Plan) : (s.setPlan v).buffers = s.buffers := rfl
@[simp] theorem State.setPlan_marks (s : State) (v : Plan) : (s.setPlan v).marks = s.marks := rfl
@[simp] theorem State.setPlan_detached (s : State) (v : Plan) : (s.setPlan v).detached = s.detached := rfl
@[simp] theorem State.setPlan_resetHeld (s : State) (v : Plan) : (s.setPlan v).resetHeld = s.resetHeld := rfl
@[simp] theorem State.setPlan_trend (s : State) (v : Plan) : (s.setPlan v).trend = s.trend := rfl
@[simp] theorem State.setPlan_setPlan (s : State) (v w : Plan) : (s.setPlan v).setPlan w = s.setPlan w := rfl
@[simp] theorem State.setPlan_self (s : State) : s.setPlan s.plan = s := rfl

/-! ### setResolver -/

@[simp] theorem State.setResolver_pending (s : State) (v : Resolver) : (s.setResolver v).pending = s.pending := rfl
@[simp] theorem State.setResolver_settings (s : State) (v : Resolver) : (s.setResolver v).settings = s.settings := rfl
@[simp] theorem State.setResolver_store (s : State) (v : Resolver) : (s.setResolver v).store = s.store := rfl
@[simp] theorem State.setResolver_loop (s : State) (v : Resolver) : (s.setResolver v).loop = s.loop := rfl
@[simp] theorem State.setResolver_stations (s : State) (v : Resolver) : (s.setResolver v).stations = s.stations := rfl
@[simp] theorem State.setResolver_table (s : State) (v : Resolver) : (s.setResolver v).table = s.table := rfl
@[simp] theorem State.setResolver_plan (s : State) (v : Resolver) : (s.setResolver v).plan = s.plan := rfl
@[simp] theorem State.setResolver_resolver (s : State) (v : Resolver) : (s.setResolver v).resolver = v := rfl
@[simp] theorem State.setResolver_reg (s : State) (v : Resolver) : (s.setResolver v).reg = s.reg := rfl
@[simp] theorem State.setResolver_purge (s : State) (v : Resolver) : (s.setResolver v).purge = s.purge := rfl
@[simp] theorem State.setResolver_vehicle (s : State) (v : Resolver) : (s.setResolver v).vehicle = s.vehicle := rfl
@[simp] theorem State.setResolver_clock (s : State) (v : Resolver) : (s.setResolver v).clock = s.clock := rfl
@[simp] theorem State.setResolver_scan (s : State) (v : Resolver) : (s.setResolver v).scan = s.scan := rfl
@[simp] theorem State.setResolver_record (s : State) (v : Resolver) : (s.setResolver v).record = s.record := rfl
@[simp] theorem State.setResolver_scene (s : State) (v : Resolver) : (s.setResolver v).scene = s.scene := rfl
@[simp] theorem State.setResolver_conditions (s : State) (v : Resolver) : (s.setResolver v).conditions = s.conditions := rfl
@[simp] theorem State.setResolver_alert (s : State) (v : Resolver) : (s.setResolver v).alert = s.alert := rfl
@[simp] theorem State.setResolver_blowers (s : State) (v : Resolver) : (s.setResolver v).blowers = s.blowers := rfl
@[simp] theorem State.setResolver_actuators (s : State) (v : Resolver) : (s.setResolver v).actuators = s.actuators := rfl
@[simp] theorem State.setResolver_buffers (s : State) (v : Resolver) : (s.setResolver v).buffers = s.buffers := rfl
@[simp] theorem State.setResolver_marks (s : State) (v : Resolver) : (s.setResolver v).marks = s.marks := rfl
@[simp] theorem State.setResolver_detached (s : State) (v : Resolver) : (s.setResolver v).detached = s.detached := rfl
@[simp] theorem State.setResolver_resetHeld (s : State) (v : Resolver) : (s.setResolver v).resetHeld = s.resetHeld := rfl
@[simp] theorem State.setResolver_trend (s : State) (v : Resolver) : (s.setResolver v).trend = s.trend := rfl
@[simp] theorem State.setResolver_setResolver (s : State) (v w : Resolver) : (s.setResolver v).setResolver w = s.setResolver w := rfl
@[simp] theorem State.setResolver_self (s : State) : s.setResolver s.resolver = s := rfl

/-! ### setReg -/

@[simp] theorem State.setReg_pending (s : State) (v : Regulator) : (s.setReg v).pending = s.pending := rfl
@[simp] theorem State.setReg_settings (s : State) (v : Regulator) : (s.setReg v).settings = s.settings := rfl
@[simp] theorem State.setReg_store (s : State) (v : Regulator) : (s.setReg v).store = s.store := rfl
@[simp] theorem State.setReg_loop (s : State) (v : Regulator) : (s.setReg v).loop = s.loop := rfl
@[simp] theorem State.setReg_stations (s : State) (v : Regulator) : (s.setReg v).stations = s.stations := rfl
@[simp] theorem State.setReg_table (s : State) (v : Regulator) : (s.setReg v).table = s.table := rfl
@[simp] theorem State.setReg_plan (s : State) (v : Regulator) : (s.setReg v).plan = s.plan := rfl
@[simp] theorem State.setReg_resolver (s : State) (v : Regulator) : (s.setReg v).resolver = s.resolver := rfl
@[simp] theorem State.setReg_reg (s : State) (v : Regulator) : (s.setReg v).reg = v := rfl
@[simp] theorem State.setReg_purge (s : State) (v : Regulator) : (s.setReg v).purge = s.purge := rfl
@[simp] theorem State.setReg_vehicle (s : State) (v : Regulator) : (s.setReg v).vehicle = s.vehicle := rfl
@[simp] theorem State.setReg_clock (s : State) (v : Regulator) : (s.setReg v).clock = s.clock := rfl
@[simp] theorem State.setReg_scan (s : State) (v : Regulator) : (s.setReg v).scan = s.scan := rfl
@[simp] theorem State.setReg_record (s : State) (v : Regulator) : (s.setReg v).record = s.record := rfl
@[simp] theorem State.setReg_scene (s : State) (v : Regulator) : (s.setReg v).scene = s.scene := rfl
@[simp] theorem State.setReg_conditions (s : State) (v : Regulator) : (s.setReg v).conditions = s.conditions := rfl
@[simp] theorem State.setReg_alert (s : State) (v : Regulator) : (s.setReg v).alert = s.alert := rfl
@[simp] theorem State.setReg_blowers (s : State) (v : Regulator) : (s.setReg v).blowers = s.blowers := rfl
@[simp] theorem State.setReg_actuators (s : State) (v : Regulator) : (s.setReg v).actuators = s.actuators := rfl
@[simp] theorem State.setReg_buffers (s : State) (v : Regulator) : (s.setReg v).buffers = s.buffers := rfl
@[simp] theorem State.setReg_marks (s : State) (v : Regulator) : (s.setReg v).marks = s.marks := rfl
@[simp] theorem State.setReg_detached (s : State) (v : Regulator) : (s.setReg v).detached = s.detached := rfl
@[simp] theorem State.setReg_resetHeld (s : State) (v : Regulator) : (s.setReg v).resetHeld = s.resetHeld := rfl
@[simp] theorem State.setReg_trend (s : State) (v : Regulator) : (s.setReg v).trend = s.trend := rfl
@[simp] theorem State.setReg_setReg (s : State) (v w : Regulator) : (s.setReg v).setReg w = s.setReg w := rfl
@[simp] theorem State.setReg_self (s : State) : s.setReg s.reg = s := rfl

/-! ### setPurge -/

@[simp] theorem State.setPurge_pending (s : State) (v : Purge) : (s.setPurge v).pending = s.pending := rfl
@[simp] theorem State.setPurge_settings (s : State) (v : Purge) : (s.setPurge v).settings = s.settings := rfl
@[simp] theorem State.setPurge_store (s : State) (v : Purge) : (s.setPurge v).store = s.store := rfl
@[simp] theorem State.setPurge_loop (s : State) (v : Purge) : (s.setPurge v).loop = s.loop := rfl
@[simp] theorem State.setPurge_stations (s : State) (v : Purge) : (s.setPurge v).stations = s.stations := rfl
@[simp] theorem State.setPurge_table (s : State) (v : Purge) : (s.setPurge v).table = s.table := rfl
@[simp] theorem State.setPurge_plan (s : State) (v : Purge) : (s.setPurge v).plan = s.plan := rfl
@[simp] theorem State.setPurge_resolver (s : State) (v : Purge) : (s.setPurge v).resolver = s.resolver := rfl
@[simp] theorem State.setPurge_reg (s : State) (v : Purge) : (s.setPurge v).reg = s.reg := rfl
@[simp] theorem State.setPurge_purge (s : State) (v : Purge) : (s.setPurge v).purge = v := rfl
@[simp] theorem State.setPurge_vehicle (s : State) (v : Purge) : (s.setPurge v).vehicle = s.vehicle := rfl
@[simp] theorem State.setPurge_clock (s : State) (v : Purge) : (s.setPurge v).clock = s.clock := rfl
@[simp] theorem State.setPurge_scan (s : State) (v : Purge) : (s.setPurge v).scan = s.scan := rfl
@[simp] theorem State.setPurge_record (s : State) (v : Purge) : (s.setPurge v).record = s.record := rfl
@[simp] theorem State.setPurge_scene (s : State) (v : Purge) : (s.setPurge v).scene = s.scene := rfl
@[simp] theorem State.setPurge_conditions (s : State) (v : Purge) : (s.setPurge v).conditions = s.conditions := rfl
@[simp] theorem State.setPurge_alert (s : State) (v : Purge) : (s.setPurge v).alert = s.alert := rfl
@[simp] theorem State.setPurge_blowers (s : State) (v : Purge) : (s.setPurge v).blowers = s.blowers := rfl
@[simp] theorem State.setPurge_actuators (s : State) (v : Purge) : (s.setPurge v).actuators = s.actuators := rfl
@[simp] theorem State.setPurge_buffers (s : State) (v : Purge) : (s.setPurge v).buffers = s.buffers := rfl
@[simp] theorem State.setPurge_marks (s : State) (v : Purge) : (s.setPurge v).marks = s.marks := rfl
@[simp] theorem State.setPurge_detached (s : State) (v : Purge) : (s.setPurge v).detached = s.detached := rfl
@[simp] theorem State.setPurge_resetHeld (s : State) (v : Purge) : (s.setPurge v).resetHeld = s.resetHeld := rfl
@[simp] theorem State.setPurge_trend (s : State) (v : Purge) : (s.setPurge v).trend = s.trend := rfl
@[simp] theorem State.setPurge_setPurge (s : State) (v w : Purge) : (s.setPurge v).setPurge w = s.setPurge w := rfl
@[simp] theorem State.setPurge_self (s : State) : s.setPurge s.purge = s := rfl

/-! ### setVehicle -/

@[simp] theorem State.setVehicle_pending (s : State) (v : Vehicle) : (s.setVehicle v).pending = s.pending := rfl
@[simp] theorem State.setVehicle_settings (s : State) (v : Vehicle) : (s.setVehicle v).settings = s.settings := rfl
@[simp] theorem State.setVehicle_store (s : State) (v : Vehicle) : (s.setVehicle v).store = s.store := rfl
@[simp] theorem State.setVehicle_loop (s : State) (v : Vehicle) : (s.setVehicle v).loop = s.loop := rfl
@[simp] theorem State.setVehicle_stations (s : State) (v : Vehicle) : (s.setVehicle v).stations = s.stations := rfl
@[simp] theorem State.setVehicle_table (s : State) (v : Vehicle) : (s.setVehicle v).table = s.table := rfl
@[simp] theorem State.setVehicle_plan (s : State) (v : Vehicle) : (s.setVehicle v).plan = s.plan := rfl
@[simp] theorem State.setVehicle_resolver (s : State) (v : Vehicle) : (s.setVehicle v).resolver = s.resolver := rfl
@[simp] theorem State.setVehicle_reg (s : State) (v : Vehicle) : (s.setVehicle v).reg = s.reg := rfl
@[simp] theorem State.setVehicle_purge (s : State) (v : Vehicle) : (s.setVehicle v).purge = s.purge := rfl
@[simp] theorem State.setVehicle_vehicle (s : State) (v : Vehicle) : (s.setVehicle v).vehicle = v := rfl
@[simp] theorem State.setVehicle_clock (s : State) (v : Vehicle) : (s.setVehicle v).clock = s.clock := rfl
@[simp] theorem State.setVehicle_scan (s : State) (v : Vehicle) : (s.setVehicle v).scan = s.scan := rfl
@[simp] theorem State.setVehicle_record (s : State) (v : Vehicle) : (s.setVehicle v).record = s.record := rfl
@[simp] theorem State.setVehicle_scene (s : State) (v : Vehicle) : (s.setVehicle v).scene = s.scene := rfl
@[simp] theorem State.setVehicle_conditions (s : State) (v : Vehicle) : (s.setVehicle v).conditions = s.conditions := rfl
@[simp] theorem State.setVehicle_alert (s : State) (v : Vehicle) : (s.setVehicle v).alert = s.alert := rfl
@[simp] theorem State.setVehicle_blowers (s : State) (v : Vehicle) : (s.setVehicle v).blowers = s.blowers := rfl
@[simp] theorem State.setVehicle_actuators (s : State) (v : Vehicle) : (s.setVehicle v).actuators = s.actuators := rfl
@[simp] theorem State.setVehicle_buffers (s : State) (v : Vehicle) : (s.setVehicle v).buffers = s.buffers := rfl
@[simp] theorem State.setVehicle_marks (s : State) (v : Vehicle) : (s.setVehicle v).marks = s.marks := rfl
@[simp] theorem State.setVehicle_detached (s : State) (v : Vehicle) : (s.setVehicle v).detached = s.detached := rfl
@[simp] theorem State.setVehicle_resetHeld (s : State) (v : Vehicle) : (s.setVehicle v).resetHeld = s.resetHeld := rfl
@[simp] theorem State.setVehicle_trend (s : State) (v : Vehicle) : (s.setVehicle v).trend = s.trend := rfl
@[simp] theorem State.setVehicle_setVehicle (s : State) (v w : Vehicle) : (s.setVehicle v).setVehicle w = s.setVehicle w := rfl
@[simp] theorem State.setVehicle_self (s : State) : s.setVehicle s.vehicle = s := rfl

/-! ### setClock -/

@[simp] theorem State.setClock_pending (s : State) (v : Clock) : (s.setClock v).pending = s.pending := rfl
@[simp] theorem State.setClock_settings (s : State) (v : Clock) : (s.setClock v).settings = s.settings := rfl
@[simp] theorem State.setClock_store (s : State) (v : Clock) : (s.setClock v).store = s.store := rfl
@[simp] theorem State.setClock_loop (s : State) (v : Clock) : (s.setClock v).loop = s.loop := rfl
@[simp] theorem State.setClock_stations (s : State) (v : Clock) : (s.setClock v).stations = s.stations := rfl
@[simp] theorem State.setClock_table (s : State) (v : Clock) : (s.setClock v).table = s.table := rfl
@[simp] theorem State.setClock_plan (s : State) (v : Clock) : (s.setClock v).plan = s.plan := rfl
@[simp] theorem State.setClock_resolver (s : State) (v : Clock) : (s.setClock v).resolver = s.resolver := rfl
@[simp] theorem State.setClock_reg (s : State) (v : Clock) : (s.setClock v).reg = s.reg := rfl
@[simp] theorem State.setClock_purge (s : State) (v : Clock) : (s.setClock v).purge = s.purge := rfl
@[simp] theorem State.setClock_vehicle (s : State) (v : Clock) : (s.setClock v).vehicle = s.vehicle := rfl
@[simp] theorem State.setClock_clock (s : State) (v : Clock) : (s.setClock v).clock = v := rfl
@[simp] theorem State.setClock_scan (s : State) (v : Clock) : (s.setClock v).scan = s.scan := rfl
@[simp] theorem State.setClock_record (s : State) (v : Clock) : (s.setClock v).record = s.record := rfl
@[simp] theorem State.setClock_scene (s : State) (v : Clock) : (s.setClock v).scene = s.scene := rfl
@[simp] theorem State.setClock_conditions (s : State) (v : Clock) : (s.setClock v).conditions = s.conditions := rfl
@[simp] theorem State.setClock_alert (s : State) (v : Clock) : (s.setClock v).alert = s.alert := rfl
@[simp] theorem State.setClock_blowers (s : State) (v : Clock) : (s.setClock v).blowers = s.blowers := rfl
@[simp] theorem State.setClock_actuators (s : State) (v : Clock) : (s.setClock v).actuators = s.actuators := rfl
@[simp] theorem State.setClock_buffers (s : State) (v : Clock) : (s.setClock v).buffers = s.buffers := rfl
@[simp] theorem State.setClock_marks (s : State) (v : Clock) : (s.setClock v).marks = s.marks := rfl
@[simp] theorem State.setClock_detached (s : State) (v : Clock) : (s.setClock v).detached = s.detached := rfl
@[simp] theorem State.setClock_resetHeld (s : State) (v : Clock) : (s.setClock v).resetHeld = s.resetHeld := rfl
@[simp] theorem State.setClock_trend (s : State) (v : Clock) : (s.setClock v).trend = s.trend := rfl
@[simp] theorem State.setClock_setClock (s : State) (v w : Clock) : (s.setClock v).setClock w = s.setClock w := rfl
@[simp] theorem State.setClock_self (s : State) : s.setClock s.clock = s := rfl

/-! ### setScan -/

@[simp] theorem State.setScan_pending (s : State) (v : Scan) : (s.setScan v).pending = s.pending := rfl
@[simp] theorem State.setScan_settings (s : State) (v : Scan) : (s.setScan v).settings = s.settings := rfl
@[simp] theorem State.setScan_store (s : State) (v : Scan) : (s.setScan v).store = s.store := rfl
@[simp] theorem State.setScan_loop (s : State) (v : Scan) : (s.setScan v).loop = s.loop := rfl
@[simp] theorem State.setScan_stations (s : State) (v : Scan) : (s.setScan v).stations = s.stations := rfl
@[simp] theorem State.setScan_table (s : State) (v : Scan) : (s.setScan v).table = s.table := rfl
@[simp] theorem State.setScan_plan (s : State) (v : Scan) : (s.setScan v).plan = s.plan := rfl
@[simp] theorem State.setScan_resolver (s : State) (v : Scan) : (s.setScan v).resolver = s.resolver := rfl
@[simp] theorem State.setScan_reg (s : State) (v : Scan) : (s.setScan v).reg = s.reg := rfl
@[simp] theorem State.setScan_purge (s : State) (v : Scan) : (s.setScan v).purge = s.purge := rfl
@[simp] theorem State.setScan_vehicle (s : State) (v : Scan) : (s.setScan v).vehicle = s.vehicle := rfl
@[simp] theorem State.setScan_clock (s : State) (v : Scan) : (s.setScan v).clock = s.clock := rfl
@[simp] theorem State.setScan_scan (s : State) (v : Scan) : (s.setScan v).scan = v := rfl
@[simp] theorem State.setScan_record (s : State) (v : Scan) : (s.setScan v).record = s.record := rfl
@[simp] theorem State.setScan_scene (s : State) (v : Scan) : (s.setScan v).scene = s.scene := rfl
@[simp] theorem State.setScan_conditions (s : State) (v : Scan) : (s.setScan v).conditions = s.conditions := rfl
@[simp] theorem State.setScan_alert (s : State) (v : Scan) : (s.setScan v).alert = s.alert := rfl
@[simp] theorem State.setScan_blowers (s : State) (v : Scan) : (s.setScan v).blowers = s.blowers := rfl
@[simp] theorem State.setScan_actuators (s : State) (v : Scan) : (s.setScan v).actuators = s.actuators := rfl
@[simp] theorem State.setScan_buffers (s : State) (v : Scan) : (s.setScan v).buffers = s.buffers := rfl
@[simp] theorem State.setScan_marks (s : State) (v : Scan) : (s.setScan v).marks = s.marks := rfl
@[simp] theorem State.setScan_detached (s : State) (v : Scan) : (s.setScan v).detached = s.detached := rfl
@[simp] theorem State.setScan_resetHeld (s : State) (v : Scan) : (s.setScan v).resetHeld = s.resetHeld := rfl
@[simp] theorem State.setScan_trend (s : State) (v : Scan) : (s.setScan v).trend = s.trend := rfl
@[simp] theorem State.setScan_setScan (s : State) (v w : Scan) : (s.setScan v).setScan w = s.setScan w := rfl
@[simp] theorem State.setScan_self (s : State) : s.setScan s.scan = s := rfl

/-! ### setRecord -/

@[simp] theorem State.setRecord_pending (s : State) (v : PerChannel ChannelRecord) : (s.setRecord v).pending = s.pending := rfl
@[simp] theorem State.setRecord_settings (s : State) (v : PerChannel ChannelRecord) : (s.setRecord v).settings = s.settings := rfl
@[simp] theorem State.setRecord_store (s : State) (v : PerChannel ChannelRecord) : (s.setRecord v).store = s.store := rfl
@[simp] theorem State.setRecord_loop (s : State) (v : PerChannel ChannelRecord) : (s.setRecord v).loop = s.loop := rfl
@[simp] theorem State.setRecord_stations (s : State) (v : PerChannel ChannelRecord) : (s.setRecord v).stations = s.stations := rfl
@[simp] theorem State.setRecord_table (s : State) (v : PerChannel ChannelRecord) : (s.setRecord v).table = s.table := rfl
@[simp] theorem State.setRecord_plan (s : State) (v : PerChannel ChannelRecord) : (s.setRecord v).plan = s.plan := rfl
@[simp] theorem State.setRecord_resolver (s : State) (v : PerChannel ChannelRecord) : (s.setRecord v).resolver = s.resolver := rfl
@[simp] theorem State.setRecord_reg (s : State) (v : PerChannel ChannelRecord) : (s.setRecord v).reg = s.reg := rfl
@[simp] theorem State.setRecord_purge (s : State) (v : PerChannel ChannelRecord) : (s.setRecord v).purge = s.purge := rfl
@[simp] theorem State.setRecord_vehicle (s : State) (v : PerChannel ChannelRecord) : (s.setRecord v).vehicle = s.vehicle := rfl
@[simp] theorem State.setRecord_clock (s : State) (v : PerChannel ChannelRecord) : (s.setRecord v).clock = s.clock := rfl
@[simp] theorem State.setRecord_scan (s : State) (v : PerChannel ChannelRecord) : (s.setRecord v).scan = s.scan := rfl
@[simp] theorem State.setRecord_record (s : State) (v : PerChannel ChannelRecord) : (s.setRecord v).record = v := rfl
@[simp] theorem State.setRecord_scene (s : State) (v : PerChannel ChannelRecord) : (s.setRecord v).scene = s.scene := rfl
@[simp] theorem State.setRecord_conditions (s : State) (v : PerChannel ChannelRecord) : (s.setRecord v).conditions = s.conditions := rfl
@[simp] theorem State.setRecord_alert (s : State) (v : PerChannel ChannelRecord) : (s.setRecord v).alert = s.alert := rfl
@[simp] theorem State.setRecord_blowers (s : State) (v : PerChannel ChannelRecord) : (s.setRecord v).blowers = s.blowers := rfl
@[simp] theorem State.setRecord_actuators (s : State) (v : PerChannel ChannelRecord) : (s.setRecord v).actuators = s.actuators := rfl
@[simp] theorem State.setRecord_buffers (s : State) (v : PerChannel ChannelRecord) : (s.setRecord v).buffers = s.buffers := rfl
@[simp] theorem State.setRecord_marks (s : State) (v : PerChannel ChannelRecord) : (s.setRecord v).marks = s.marks := rfl
@[simp] theorem State.setRecord_detached (s : State) (v : PerChannel ChannelRecord) : (s.setRecord v).detached = s.detached := rfl
@[simp] theorem State.setRecord_resetHeld (s : State) (v : PerChannel ChannelRecord) : (s.setRecord v).resetHeld = s.resetHeld := rfl
@[simp] theorem State.setRecord_trend (s : State) (v : PerChannel ChannelRecord) : (s.setRecord v).trend = s.trend := rfl
@[simp] theorem State.setRecord_setRecord (s : State) (v w : PerChannel ChannelRecord) : (s.setRecord v).setRecord w = s.setRecord w := rfl
@[simp] theorem State.setRecord_self (s : State) : s.setRecord s.record = s := rfl

/-! ### setScene -/

@[simp] theorem State.setScene_pending (s : State) (v : SceneTimers) : (s.setScene v).pending = s.pending := rfl
@[simp] theorem State.setScene_settings (s : State) (v : SceneTimers) : (s.setScene v).settings = s.settings := rfl
@[simp] theorem State.setScene_store (s : State) (v : SceneTimers) : (s.setScene v).store = s.store := rfl
@[simp] theorem State.setScene_loop (s : State) (v : SceneTimers) : (s.setScene v).loop = s.loop := rfl
@[simp] theorem State.setScene_stations (s : State) (v : SceneTimers) : (s.setScene v).stations = s.stations := rfl
@[simp] theorem State.setScene_table (s : State) (v : SceneTimers) : (s.setScene v).table = s.table := rfl
@[simp] theorem State.setScene_plan (s : State) (v : SceneTimers) : (s.setScene v).plan = s.plan := rfl
@[simp] theorem State.setScene_resolver (s : State) (v : SceneTimers) : (s.setScene v).resolver = s.resolver := rfl
@[simp] theorem State.setScene_reg (s : State) (v : SceneTimers) : (s.setScene v).reg = s.reg := rfl
@[simp] theorem State.setScene_purge (s : State) (v : SceneTimers) : (s.setScene v).purge = s.purge := rfl
@[simp] theorem State.setScene_vehicle (s : State) (v : SceneTimers) : (s.setScene v).vehicle = s.vehicle := rfl
@[simp] theorem State.setScene_clock (s : State) (v : SceneTimers) : (s.setScene v).clock = s.clock := rfl
@[simp] theorem State.setScene_scan (s : State) (v : SceneTimers) : (s.setScene v).scan = s.scan := rfl
@[simp] theorem State.setScene_record (s : State) (v : SceneTimers) : (s.setScene v).record = s.record := rfl
@[simp] theorem State.setScene_scene (s : State) (v : SceneTimers) : (s.setScene v).scene = v := rfl
@[simp] theorem State.setScene_conditions (s : State) (v : SceneTimers) : (s.setScene v).conditions = s.conditions := rfl
@[simp] theorem State.setScene_alert (s : State) (v : SceneTimers) : (s.setScene v).alert = s.alert := rfl
@[simp] theorem State.setScene_blowers (s : State) (v : SceneTimers) : (s.setScene v).blowers = s.blowers := rfl
@[simp] theorem State.setScene_actuators (s : State) (v : SceneTimers) : (s.setScene v).actuators = s.actuators := rfl
@[simp] theorem State.setScene_buffers (s : State) (v : SceneTimers) : (s.setScene v).buffers = s.buffers := rfl
@[simp] theorem State.setScene_marks (s : State) (v : SceneTimers) : (s.setScene v).marks = s.marks := rfl
@[simp] theorem State.setScene_detached (s : State) (v : SceneTimers) : (s.setScene v).detached = s.detached := rfl
@[simp] theorem State.setScene_resetHeld (s : State) (v : SceneTimers) : (s.setScene v).resetHeld = s.resetHeld := rfl
@[simp] theorem State.setScene_trend (s : State) (v : SceneTimers) : (s.setScene v).trend = s.trend := rfl
@[simp] theorem State.setScene_setScene (s : State) (v w : SceneTimers) : (s.setScene v).setScene w = s.setScene w := rfl
@[simp] theorem State.setScene_self (s : State) : s.setScene s.scene = s := rfl

/-! ### setConditions -/

@[simp] theorem State.setConditions_pending (s : State) (v : Conditions) : (s.setConditions v).pending = s.pending := rfl
@[simp] theorem State.setConditions_settings (s : State) (v : Conditions) : (s.setConditions v).settings = s.settings := rfl
@[simp] theorem State.setConditions_store (s : State) (v : Conditions) : (s.setConditions v).store = s.store := rfl
@[simp] theorem State.setConditions_loop (s : State) (v : Conditions) : (s.setConditions v).loop = s.loop := rfl
@[simp] theorem State.setConditions_stations (s : State) (v : Conditions) : (s.setConditions v).stations = s.stations := rfl
@[simp] theorem State.setConditions_table (s : State) (v : Conditions) : (s.setConditions v).table = s.table := rfl
@[simp] theorem State.setConditions_plan (s : State) (v : Conditions) : (s.setConditions v).plan = s.plan := rfl
@[simp] theorem State.setConditions_resolver (s : State) (v : Conditions) : (s.setConditions v).resolver = s.resolver := rfl
@[simp] theorem State.setConditions_reg (s : State) (v : Conditions) : (s.setConditions v).reg = s.reg := rfl
@[simp] theorem State.setConditions_purge (s : State) (v : Conditions) : (s.setConditions v).purge = s.purge := rfl
@[simp] theorem State.setConditions_vehicle (s : State) (v : Conditions) : (s.setConditions v).vehicle = s.vehicle := rfl
@[simp] theorem State.setConditions_clock (s : State) (v : Conditions) : (s.setConditions v).clock = s.clock := rfl
@[simp] theorem State.setConditions_scan (s : State) (v : Conditions) : (s.setConditions v).scan = s.scan := rfl
@[simp] theorem State.setConditions_record (s : State) (v : Conditions) : (s.setConditions v).record = s.record := rfl
@[simp] theorem State.setConditions_scene (s : State) (v : Conditions) : (s.setConditions v).scene = s.scene := rfl
@[simp] theorem State.setConditions_conditions (s : State) (v : Conditions) : (s.setConditions v).conditions = v := rfl
@[simp] theorem State.setConditions_alert (s : State) (v : Conditions) : (s.setConditions v).alert = s.alert := rfl
@[simp] theorem State.setConditions_blowers (s : State) (v : Conditions) : (s.setConditions v).blowers = s.blowers := rfl
@[simp] theorem State.setConditions_actuators (s : State) (v : Conditions) : (s.setConditions v).actuators = s.actuators := rfl
@[simp] theorem State.setConditions_buffers (s : State) (v : Conditions) : (s.setConditions v).buffers = s.buffers := rfl
@[simp] theorem State.setConditions_marks (s : State) (v : Conditions) : (s.setConditions v).marks = s.marks := rfl
@[simp] theorem State.setConditions_detached (s : State) (v : Conditions) : (s.setConditions v).detached = s.detached := rfl
@[simp] theorem State.setConditions_resetHeld (s : State) (v : Conditions) : (s.setConditions v).resetHeld = s.resetHeld := rfl
@[simp] theorem State.setConditions_trend (s : State) (v : Conditions) : (s.setConditions v).trend = s.trend := rfl
@[simp] theorem State.setConditions_setConditions (s : State) (v w : Conditions) : (s.setConditions v).setConditions w = s.setConditions w := rfl
@[simp] theorem State.setConditions_self (s : State) : s.setConditions s.conditions = s := rfl

/-! ### setAlert -/

@[simp] theorem State.setAlert_pending (s : State) (v : Bool) : (s.setAlert v).pending = s.pending := rfl
@[simp] theorem State.setAlert_settings (s : State) (v : Bool) : (s.setAlert v).settings = s.settings := rfl
@[simp] theorem State.setAlert_store (s : State) (v : Bool) : (s.setAlert v).store = s.store := rfl
@[simp] theorem State.setAlert_loop (s : State) (v : Bool) : (s.setAlert v).loop = s.loop := rfl
@[simp] theorem State.setAlert_stations (s : State) (v : Bool) : (s.setAlert v).stations = s.stations := rfl
@[simp] theorem State.setAlert_table (s : State) (v : Bool) : (s.setAlert v).table = s.table := rfl
@[simp] theorem State.setAlert_plan (s : State) (v : Bool) : (s.setAlert v).plan = s.plan := rfl
@[simp] theorem State.setAlert_resolver (s : State) (v : Bool) : (s.setAlert v).resolver = s.resolver := rfl
@[simp] theorem State.setAlert_reg (s : State) (v : Bool) : (s.setAlert v).reg = s.reg := rfl
@[simp] theorem State.setAlert_purge (s : State) (v : Bool) : (s.setAlert v).purge = s.purge := rfl
@[simp] theorem State.setAlert_vehicle (s : State) (v : Bool) : (s.setAlert v).vehicle = s.vehicle := rfl
@[simp] theorem State.setAlert_clock (s : State) (v : Bool) : (s.setAlert v).clock = s.clock := rfl
@[simp] theorem State.setAlert_scan (s : State) (v : Bool) : (s.setAlert v).scan = s.scan := rfl
@[simp] theorem State.setAlert_record (s : State) (v : Bool) : (s.setAlert v).record = s.record := rfl
@[simp] theorem State.setAlert_scene (s : State) (v : Bool) : (s.setAlert v).scene = s.scene := rfl
@[simp] theorem State.setAlert_conditions (s : State) (v : Bool) : (s.setAlert v).conditions = s.conditions := rfl
@[simp] theorem State.setAlert_alert (s : State) (v : Bool) : (s.setAlert v).alert = v := rfl
@[simp] theorem State.setAlert_blowers (s : State) (v : Bool) : (s.setAlert v).blowers = s.blowers := rfl
@[simp] theorem State.setAlert_actuators (s : State) (v : Bool) : (s.setAlert v).actuators = s.actuators := rfl
@[simp] theorem State.setAlert_buffers (s : State) (v : Bool) : (s.setAlert v).buffers = s.buffers := rfl
@[simp] theorem State.setAlert_marks (s : State) (v : Bool) : (s.setAlert v).marks = s.marks := rfl
@[simp] theorem State.setAlert_detached (s : State) (v : Bool) : (s.setAlert v).detached = s.detached := rfl
@[simp] theorem State.setAlert_resetHeld (s : State) (v : Bool) : (s.setAlert v).resetHeld = s.resetHeld := rfl
@[simp] theorem State.setAlert_trend (s : State) (v : Bool) : (s.setAlert v).trend = s.trend := rfl
@[simp] theorem State.setAlert_setAlert (s : State) (v w : Bool) : (s.setAlert v).setAlert w = s.setAlert w := rfl
@[simp] theorem State.setAlert_self (s : State) : s.setAlert s.alert = s := rfl

/-! ### setBlowers -/

@[simp] theorem State.setBlowers_pending (s : State) (v : PerBlower BlowerState) : (s.setBlowers v).pending = s.pending := rfl
@[simp] theorem State.setBlowers_settings (s : State) (v : PerBlower BlowerState) : (s.setBlowers v).settings = s.settings := rfl
@[simp] theorem State.setBlowers_store (s : State) (v : PerBlower BlowerState) : (s.setBlowers v).store = s.store := rfl
@[simp] theorem State.setBlowers_loop (s : State) (v : PerBlower BlowerState) : (s.setBlowers v).loop = s.loop := rfl
@[simp] theorem State.setBlowers_stations (s : State) (v : PerBlower BlowerState) : (s.setBlowers v).stations = s.stations := rfl
@[simp] theorem State.setBlowers_table (s : State) (v : PerBlower BlowerState) : (s.setBlowers v).table = s.table := rfl
@[simp] theorem State.setBlowers_plan (s : State) (v : PerBlower BlowerState) : (s.setBlowers v).plan = s.plan := rfl
@[simp] theorem State.setBlowers_resolver (s : State) (v : PerBlower BlowerState) : (s.setBlowers v).resolver = s.resolver := rfl
@[simp] theorem State.setBlowers_reg (s : State) (v : PerBlower BlowerState) : (s.setBlowers v).reg = s.reg := rfl
@[simp] theorem State.setBlowers_purge (s : State) (v : PerBlower BlowerState) : (s.setBlowers v).purge = s.purge := rfl
@[simp] theorem State.setBlowers_vehicle (s : State) (v : PerBlower BlowerState) : (s.setBlowers v).vehicle = s.vehicle := rfl
@[simp] theorem State.setBlowers_clock (s : State) (v : PerBlower BlowerState) : (s.setBlowers v).clock = s.clock := rfl
@[simp] theorem State.setBlowers_scan (s : State) (v : PerBlower BlowerState) : (s.setBlowers v).scan = s.scan := rfl
@[simp] theorem State.setBlowers_record (s : State) (v : PerBlower BlowerState) : (s.setBlowers v).record = s.record := rfl
@[simp] theorem State.setBlowers_scene (s : State) (v : PerBlower BlowerState) : (s.setBlowers v).scene = s.scene := rfl
@[simp] theorem State.setBlowers_conditions (s : State) (v : PerBlower BlowerState) : (s.setBlowers v).conditions = s.conditions := rfl
@[simp] theorem State.setBlowers_alert (s : State) (v : PerBlower BlowerState) : (s.setBlowers v).alert = s.alert := rfl
@[simp] theorem State.setBlowers_blowers (s : State) (v : PerBlower BlowerState) : (s.setBlowers v).blowers = v := rfl
@[simp] theorem State.setBlowers_actuators (s : State) (v : PerBlower BlowerState) : (s.setBlowers v).actuators = s.actuators := rfl
@[simp] theorem State.setBlowers_buffers (s : State) (v : PerBlower BlowerState) : (s.setBlowers v).buffers = s.buffers := rfl
@[simp] theorem State.setBlowers_marks (s : State) (v : PerBlower BlowerState) : (s.setBlowers v).marks = s.marks := rfl
@[simp] theorem State.setBlowers_detached (s : State) (v : PerBlower BlowerState) : (s.setBlowers v).detached = s.detached := rfl
@[simp] theorem State.setBlowers_resetHeld (s : State) (v : PerBlower BlowerState) : (s.setBlowers v).resetHeld = s.resetHeld := rfl
@[simp] theorem State.setBlowers_trend (s : State) (v : PerBlower BlowerState) : (s.setBlowers v).trend = s.trend := rfl
@[simp] theorem State.setBlowers_setBlowers (s : State) (v w : PerBlower BlowerState) : (s.setBlowers v).setBlowers w = s.setBlowers w := rfl
@[simp] theorem State.setBlowers_self (s : State) : s.setBlowers s.blowers = s := rfl

/-! ### setActuators -/

@[simp] theorem State.setActuators_pending (s : State) (v : PerActuator ActuatorState) : (s.setActuators v).pending = s.pending := rfl
@[simp] theorem State.setActuators_settings (s : State) (v : PerActuator ActuatorState) : (s.setActuators v).settings = s.settings := rfl
@[simp] theorem State.setActuators_store (s : State) (v : PerActuator ActuatorState) : (s.setActuators v).store = s.store := rfl
@[simp] theorem State.setActuators_loop (s : State) (v : PerActuator ActuatorState) : (s.setActuators v).loop = s.loop := rfl
@[simp] theorem State.setActuators_stations (s : State) (v : PerActuator ActuatorState) : (s.setActuators v).stations = s.stations := rfl
@[simp] theorem State.setActuators_table (s : State) (v : PerActuator ActuatorState) : (s.setActuators v).table = s.table := rfl
@[simp] theorem State.setActuators_plan (s : State) (v : PerActuator ActuatorState) : (s.setActuators v).plan = s.plan := rfl
@[simp] theorem State.setActuators_resolver (s : State) (v : PerActuator ActuatorState) : (s.setActuators v).resolver = s.resolver := rfl
@[simp] theorem State.setActuators_reg (s : State) (v : PerActuator ActuatorState) : (s.setActuators v).reg = s.reg := rfl
@[simp] theorem State.setActuators_purge (s : State) (v : PerActuator ActuatorState) : (s.setActuators v).purge = s.purge := rfl
@[simp] theorem State.setActuators_vehicle (s : State) (v : PerActuator ActuatorState) : (s.setActuators v).vehicle = s.vehicle := rfl
@[simp] theorem State.setActuators_clock (s : State) (v : PerActuator ActuatorState) : (s.setActuators v).clock = s.clock := rfl
@[simp] theorem State.setActuators_scan (s : State) (v : PerActuator ActuatorState) : (s.setActuators v).scan = s.scan := rfl
@[simp] theorem State.setActuators_record (s : State) (v : PerActuator ActuatorState) : (s.setActuators v).record = s.record := rfl
@[simp] theorem State.setActuators_scene (s : State) (v : PerActuator ActuatorState) : (s.setActuators v).scene = s.scene := rfl
@[simp] theorem State.setActuators_conditions (s : State) (v : PerActuator ActuatorState) : (s.setActuators v).conditions = s.conditions := rfl
@[simp] theorem State.setActuators_alert (s : State) (v : PerActuator ActuatorState) : (s.setActuators v).alert = s.alert := rfl
@[simp] theorem State.setActuators_blowers (s : State) (v : PerActuator ActuatorState) : (s.setActuators v).blowers = s.blowers := rfl
@[simp] theorem State.setActuators_actuators (s : State) (v : PerActuator ActuatorState) : (s.setActuators v).actuators = v := rfl
@[simp] theorem State.setActuators_buffers (s : State) (v : PerActuator ActuatorState) : (s.setActuators v).buffers = s.buffers := rfl
@[simp] theorem State.setActuators_marks (s : State) (v : PerActuator ActuatorState) : (s.setActuators v).marks = s.marks := rfl
@[simp] theorem State.setActuators_detached (s : State) (v : PerActuator ActuatorState) : (s.setActuators v).detached = s.detached := rfl
@[simp] theorem State.setActuators_resetHeld (s : State) (v : PerActuator ActuatorState) : (s.setActuators v).resetHeld = s.resetHeld := rfl
@[simp] theorem State.setActuators_trend (s : State) (v : PerActuator ActuatorState) : (s.setActuators v).trend = s.trend := rfl
@[simp] theorem State.setActuators_setActuators (s : State) (v w : PerActuator ActuatorState) : (s.setActuators v).setActuators w = s.setActuators w := rfl
@[simp] theorem State.setActuators_self (s : State) : s.setActuators s.actuators = s := rfl

/-! ### setBuffers -/

@[simp] theorem State.setBuffers_pending (s : State) (v : PerStation (Option ReadoutBuffer)) : (s.setBuffers v).pending = s.pending := rfl
@[simp] theorem State.setBuffers_settings (s : State) (v : PerStation (Option ReadoutBuffer)) : (s.setBuffers v).settings = s.settings := rfl
@[simp] theorem State.setBuffers_store (s : State) (v : PerStation (Option ReadoutBuffer)) : (s.setBuffers v).store = s.store := rfl
@[simp] theorem State.setBuffers_loop (s : State) (v : PerStation (Option ReadoutBuffer)) : (s.setBuffers v).loop = s.loop := rfl
@[simp] theorem State.setBuffers_stations (s : State) (v : PerStation (Option ReadoutBuffer)) : (s.setBuffers v).stations = s.stations := rfl
@[simp] theorem State.setBuffers_table (s : State) (v : PerStation (Option ReadoutBuffer)) : (s.setBuffers v).table = s.table := rfl
@[simp] theorem State.setBuffers_plan (s : State) (v : PerStation (Option ReadoutBuffer)) : (s.setBuffers v).plan = s.plan := rfl
@[simp] theorem State.setBuffers_resolver (s : State) (v : PerStation (Option ReadoutBuffer)) : (s.setBuffers v).resolver = s.resolver := rfl
@[simp] theorem State.setBuffers_reg (s : State) (v : PerStation (Option ReadoutBuffer)) : (s.setBuffers v).reg = s.reg := rfl
@[simp] theorem State.setBuffers_purge (s : State) (v : PerStation (Option ReadoutBuffer)) : (s.setBuffers v).purge = s.purge := rfl
@[simp] theorem State.setBuffers_vehicle (s : State) (v : PerStation (Option ReadoutBuffer)) : (s.setBuffers v).vehicle = s.vehicle := rfl
@[simp] theorem State.setBuffers_clock (s : State) (v : PerStation (Option ReadoutBuffer)) : (s.setBuffers v).clock = s.clock := rfl
@[simp] theorem State.setBuffers_scan (s : State) (v : PerStation (Option ReadoutBuffer)) : (s.setBuffers v).scan = s.scan := rfl
@[simp] theorem State.setBuffers_record (s : State) (v : PerStation (Option ReadoutBuffer)) : (s.setBuffers v).record = s.record := rfl
@[simp] theorem State.setBuffers_scene (s : State) (v : PerStation (Option ReadoutBuffer)) : (s.setBuffers v).scene = s.scene := rfl
@[simp] theorem State.setBuffers_conditions (s : State) (v : PerStation (Option ReadoutBuffer)) : (s.setBuffers v).conditions = s.conditions := rfl
@[simp] theorem State.setBuffers_alert (s : State) (v : PerStation (Option ReadoutBuffer)) : (s.setBuffers v).alert = s.alert := rfl
@[simp] theorem State.setBuffers_blowers (s : State) (v : PerStation (Option ReadoutBuffer)) : (s.setBuffers v).blowers = s.blowers := rfl
@[simp] theorem State.setBuffers_actuators (s : State) (v : PerStation (Option ReadoutBuffer)) : (s.setBuffers v).actuators = s.actuators := rfl
@[simp] theorem State.setBuffers_buffers (s : State) (v : PerStation (Option ReadoutBuffer)) : (s.setBuffers v).buffers = v := rfl
@[simp] theorem State.setBuffers_marks (s : State) (v : PerStation (Option ReadoutBuffer)) : (s.setBuffers v).marks = s.marks := rfl
@[simp] theorem State.setBuffers_detached (s : State) (v : PerStation (Option ReadoutBuffer)) : (s.setBuffers v).detached = s.detached := rfl
@[simp] theorem State.setBuffers_resetHeld (s : State) (v : PerStation (Option ReadoutBuffer)) : (s.setBuffers v).resetHeld = s.resetHeld := rfl
@[simp] theorem State.setBuffers_trend (s : State) (v : PerStation (Option ReadoutBuffer)) : (s.setBuffers v).trend = s.trend := rfl
@[simp] theorem State.setBuffers_setBuffers (s : State) (v w : PerStation (Option ReadoutBuffer)) : (s.setBuffers v).setBuffers w = s.setBuffers w := rfl
@[simp] theorem State.setBuffers_self (s : State) : s.setBuffers s.buffers = s := rfl

/-! ### setMarks -/

@[simp] theorem State.setMarks_pending (s : State) (v : PerStation Marks) : (s.setMarks v).pending = s.pending := rfl
@[simp] theorem State.setMarks_settings (s : State) (v : PerStation Marks) : (s.setMarks v).settings = s.settings := rfl
@[simp] theorem State.setMarks_store (s : State) (v : PerStation Marks) : (s.setMarks v).store = s.store := rfl
@[simp] theorem State.setMarks_loop (s : State) (v : PerStation Marks) : (s.setMarks v).loop = s.loop := rfl
@[simp] theorem State.setMarks_stations (s : State) (v : PerStation Marks) : (s.setMarks v).stations = s.stations := rfl
@[simp] theorem State.setMarks_table (s : State) (v : PerStation Marks) : (s.setMarks v).table = s.table := rfl
@[simp] theorem State.setMarks_plan (s : State) (v : PerStation Marks) : (s.setMarks v).plan = s.plan := rfl
@[simp] theorem State.setMarks_resolver (s : State) (v : PerStation Marks) : (s.setMarks v).resolver = s.resolver := rfl
@[simp] theorem State.setMarks_reg (s : State) (v : PerStation Marks) : (s.setMarks v).reg = s.reg := rfl
@[simp] theorem State.setMarks_purge (s : State) (v : PerStation Marks) : (s.setMarks v).purge = s.purge := rfl
@[simp] theorem State.setMarks_vehicle (s : State) (v : PerStation Marks) : (s.setMarks v).vehicle = s.vehicle := rfl
@[simp] theorem State.setMarks_clock (s : State) (v : PerStation Marks) : (s.setMarks v).clock = s.clock := rfl
@[simp] theorem State.setMarks_scan (s : State) (v : PerStation Marks) : (s.setMarks v).scan = s.scan := rfl
@[simp] theorem State.setMarks_record (s : State) (v : PerStation Marks) : (s.setMarks v).record = s.record := rfl
@[simp] theorem State.setMarks_scene (s : State) (v : PerStation Marks) : (s.setMarks v).scene = s.scene := rfl
@[simp] theorem State.setMarks_conditions (s : State) (v : PerStation Marks) : (s.setMarks v).conditions = s.conditions := rfl
@[simp] theorem State.setMarks_alert (s : State) (v : PerStation Marks) : (s.setMarks v).alert = s.alert := rfl
@[simp] theorem State.setMarks_blowers (s : State) (v : PerStation Marks) : (s.setMarks v).blowers = s.blowers := rfl
@[simp] theorem State.setMarks_actuators (s : State) (v : PerStation Marks) : (s.setMarks v).actuators = s.actuators := rfl
@[simp] theorem State.setMarks_buffers (s : State) (v : PerStation Marks) : (s.setMarks v).buffers = s.buffers := rfl
@[simp] theorem State.setMarks_marks (s : State) (v : PerStation Marks) : (s.setMarks v).marks = v := rfl
@[simp] theorem State.setMarks_detached (s : State) (v : PerStation Marks) : (s.setMarks v).detached = s.detached := rfl
@[simp] theorem State.setMarks_resetHeld (s : State) (v : PerStation Marks) : (s.setMarks v).resetHeld = s.resetHeld := rfl
@[simp] theorem State.setMarks_trend (s : State) (v : PerStation Marks) : (s.setMarks v).trend = s.trend := rfl
@[simp] theorem State.setMarks_setMarks (s : State) (v w : PerStation Marks) : (s.setMarks v).setMarks w = s.setMarks w := rfl
@[simp] theorem State.setMarks_self (s : State) : s.setMarks s.marks = s := rfl

/-! ### setDetached -/

@[simp] theorem State.setDetached_pending (s : State) (v : PerStation Bool) : (s.setDetached v).pending = s.pending := rfl
@[simp] theorem State.setDetached_settings (s : State) (v : PerStation Bool) : (s.setDetached v).settings = s.settings := rfl
@[simp] theorem State.setDetached_store (s : State) (v : PerStation Bool) : (s.setDetached v).store = s.store := rfl
@[simp] theorem State.setDetached_loop (s : State) (v : PerStation Bool) : (s.setDetached v).loop = s.loop := rfl
@[simp] theorem State.setDetached_stations (s : State) (v : PerStation Bool) : (s.setDetached v).stations = s.stations := rfl
@[simp] theorem State.setDetached_table (s : State) (v : PerStation Bool) : (s.setDetached v).table = s.table := rfl
@[simp] theorem State.setDetached_plan (s : State) (v : PerStation Bool) : (s.setDetached v).plan = s.plan := rfl
@[simp] theorem State.setDetached_resolver (s : State) (v : PerStation Bool) : (s.setDetached v).resolver = s.resolver := rfl
@[simp] theorem State.setDetached_reg (s : State) (v : PerStation Bool) : (s.setDetached v).reg = s.reg := rfl
@[simp] theorem State.setDetached_purge (s : State) (v : PerStation Bool) : (s.setDetached v).purge = s.purge := rfl
@[simp] theorem State.setDetached_vehicle (s : State) (v : PerStation Bool) : (s.setDetached v).vehicle = s.vehicle := rfl
@[simp] theorem State.setDetached_clock (s : State) (v : PerStation Bool) : (s.setDetached v).clock = s.clock := rfl
@[simp] theorem State.setDetached_scan (s : State) (v : PerStation Bool) : (s.setDetached v).scan = s.scan := rfl
@[simp] theorem State.setDetached_record (s : State) (v : PerStation Bool) : (s.setDetached v).record = s.record := rfl
@[simp] theorem State.setDetached_scene (s : State) (v : PerStation Bool) : (s.setDetached v).scene = s.scene := rfl
@[simp] theorem State.setDetached_conditions (s : State) (v : PerStation Bool) : (s.setDetached v).conditions = s.conditions := rfl
@[simp] theorem State.setDetached_alert (s : State) (v : PerStation Bool) : (s.setDetached v).alert = s.alert := rfl
@[simp] theorem State.setDetached_blowers (s : State) (v : PerStation Bool) : (s.setDetached v).blowers = s.blowers := rfl
@[simp] theorem State.setDetached_actuators (s : State) (v : PerStation Bool) : (s.setDetached v).actuators = s.actuators := rfl
@[simp] theorem State.setDetached_buffers (s : State) (v : PerStation Bool) : (s.setDetached v).buffers = s.buffers := rfl
@[simp] theorem State.setDetached_marks (s : State) (v : PerStation Bool) : (s.setDetached v).marks = s.marks := rfl
@[simp] theorem State.setDetached_detached (s : State) (v : PerStation Bool) : (s.setDetached v).detached = v := rfl
@[simp] theorem State.setDetached_resetHeld (s : State) (v : PerStation Bool) : (s.setDetached v).resetHeld = s.resetHeld := rfl
@[simp] theorem State.setDetached_trend (s : State) (v : PerStation Bool) : (s.setDetached v).trend = s.trend := rfl
@[simp] theorem State.setDetached_setDetached (s : State) (v w : PerStation Bool) : (s.setDetached v).setDetached w = s.setDetached w := rfl
@[simp] theorem State.setDetached_self (s : State) : s.setDetached s.detached = s := rfl

/-! ### setTrend -/

@[simp] theorem State.setTrend_pending (s : State) (v : Trend) : (s.setTrend v).pending = s.pending := rfl
@[simp] theorem State.setTrend_settings (s : State) (v : Trend) : (s.setTrend v).settings = s.settings := rfl
@[simp] theorem State.setTrend_store (s : State) (v : Trend) : (s.setTrend v).store = s.store := rfl
@[simp] theorem State.setTrend_loop (s : State) (v : Trend) : (s.setTrend v).loop = s.loop := rfl
@[simp] theorem State.setTrend_stations (s : State) (v : Trend) : (s.setTrend v).stations = s.stations := rfl
@[simp] theorem State.setTrend_table (s : State) (v : Trend) : (s.setTrend v).table = s.table := rfl
@[simp] theorem State.setTrend_plan (s : State) (v : Trend) : (s.setTrend v).plan = s.plan := rfl
@[simp] theorem State.setTrend_resolver (s : State) (v : Trend) : (s.setTrend v).resolver = s.resolver := rfl
@[simp] theorem State.setTrend_reg (s : State) (v : Trend) : (s.setTrend v).reg = s.reg := rfl
@[simp] theorem State.setTrend_purge (s : State) (v : Trend) : (s.setTrend v).purge = s.purge := rfl
@[simp] theorem State.setTrend_vehicle (s : State) (v : Trend) : (s.setTrend v).vehicle = s.vehicle := rfl
@[simp] theorem State.setTrend_clock (s : State) (v : Trend) : (s.setTrend v).clock = s.clock := rfl
@[simp] theorem State.setTrend_scan (s : State) (v : Trend) : (s.setTrend v).scan = s.scan := rfl
@[simp] theorem State.setTrend_record (s : State) (v : Trend) : (s.setTrend v).record = s.record := rfl
@[simp] theorem State.setTrend_scene (s : State) (v : Trend) : (s.setTrend v).scene = s.scene := rfl
@[simp] theorem State.setTrend_conditions (s : State) (v : Trend) : (s.setTrend v).conditions = s.conditions := rfl
@[simp] theorem State.setTrend_alert (s : State) (v : Trend) : (s.setTrend v).alert = s.alert := rfl
@[simp] theorem State.setTrend_blowers (s : State) (v : Trend) : (s.setTrend v).blowers = s.blowers := rfl
@[simp] theorem State.setTrend_actuators (s : State) (v : Trend) : (s.setTrend v).actuators = s.actuators := rfl
@[simp] theorem State.setTrend_buffers (s : State) (v : Trend) : (s.setTrend v).buffers = s.buffers := rfl
@[simp] theorem State.setTrend_marks (s : State) (v : Trend) : (s.setTrend v).marks = s.marks := rfl
@[simp] theorem State.setTrend_detached (s : State) (v : Trend) : (s.setTrend v).detached = s.detached := rfl
@[simp] theorem State.setTrend_resetHeld (s : State) (v : Trend) : (s.setTrend v).resetHeld = s.resetHeld := rfl
@[simp] theorem State.setTrend_trend (s : State) (v : Trend) : (s.setTrend v).trend = v := rfl
@[simp] theorem State.setTrend_setTrend (s : State) (v w : Trend) : (s.setTrend v).setTrend w = s.setTrend w := rfl
@[simp] theorem State.setTrend_self (s : State) : s.setTrend s.trend = s := rfl

/-! ### setResetHeld -/

@[simp] theorem State.setResetHeld_pending (s : State) (v : Bool) : (s.setResetHeld v).pending = s.pending := rfl
@[simp] theorem State.setResetHeld_settings (s : State) (v : Bool) : (s.setResetHeld v).settings = s.settings := rfl
@[simp] theorem State.setResetHeld_store (s : State) (v : Bool) : (s.setResetHeld v).store = s.store := rfl
@[simp] theorem State.setResetHeld_loop (s : State) (v : Bool) : (s.setResetHeld v).loop = s.loop := rfl
@[simp] theorem State.setResetHeld_stations (s : State) (v : Bool) : (s.setResetHeld v).stations = s.stations := rfl
@[simp] theorem State.setResetHeld_table (s : State) (v : Bool) : (s.setResetHeld v).table = s.table := rfl
@[simp] theorem State.setResetHeld_plan (s : State) (v : Bool) : (s.setResetHeld v).plan = s.plan := rfl
@[simp] theorem State.setResetHeld_resolver (s : State) (v : Bool) : (s.setResetHeld v).resolver = s.resolver := rfl
@[simp] theorem State.setResetHeld_reg (s : State) (v : Bool) : (s.setResetHeld v).reg = s.reg := rfl
@[simp] theorem State.setResetHeld_purge (s : State) (v : Bool) : (s.setResetHeld v).purge = s.purge := rfl
@[simp] theorem State.setResetHeld_vehicle (s : State) (v : Bool) : (s.setResetHeld v).vehicle = s.vehicle := rfl
@[simp] theorem State.setResetHeld_clock (s : State) (v : Bool) : (s.setResetHeld v).clock = s.clock := rfl
@[simp] theorem State.setResetHeld_scan (s : State) (v : Bool) : (s.setResetHeld v).scan = s.scan := rfl
@[simp] theorem State.setResetHeld_record (s : State) (v : Bool) : (s.setResetHeld v).record = s.record := rfl
@[simp] theorem State.setResetHeld_scene (s : State) (v : Bool) : (s.setResetHeld v).scene = s.scene := rfl
@[simp] theorem State.setResetHeld_conditions (s : State) (v : Bool) : (s.setResetHeld v).conditions = s.conditions := rfl
@[simp] theorem State.setResetHeld_alert (s : State) (v : Bool) : (s.setResetHeld v).alert = s.alert := rfl
@[simp] theorem State.setResetHeld_blowers (s : State) (v : Bool) : (s.setResetHeld v).blowers = s.blowers := rfl
@[simp] theorem State.setResetHeld_actuators (s : State) (v : Bool) : (s.setResetHeld v).actuators = s.actuators := rfl
@[simp] theorem State.setResetHeld_buffers (s : State) (v : Bool) : (s.setResetHeld v).buffers = s.buffers := rfl
@[simp] theorem State.setResetHeld_marks (s : State) (v : Bool) : (s.setResetHeld v).marks = s.marks := rfl
@[simp] theorem State.setResetHeld_detached (s : State) (v : Bool) : (s.setResetHeld v).detached = s.detached := rfl
@[simp] theorem State.setResetHeld_resetHeld (s : State) (v : Bool) : (s.setResetHeld v).resetHeld = v := rfl
@[simp] theorem State.setResetHeld_trend (s : State) (v : Bool) : (s.setResetHeld v).trend = s.trend := rfl
@[simp] theorem State.setResetHeld_setResetHeld (s : State) (v w : Bool) : (s.setResetHeld v).setResetHeld w = s.setResetHeld w := rfl
@[simp] theorem State.setResetHeld_self (s : State) : s.setResetHeld s.resetHeld = s := rfl

end Sys2Proof.Machine
end

