-- ==== Sys2Proof/Laws/FramesCore.lean ====
section
/-! SUPPORT. Frames: what each operation of Flags, Ops and PurgeControl keeps: one lemma per operation, a conjunct per part of the state. -/

namespace Sys2Proof.Machine

open Sys2Proof

/-- A fold keeps what each of its steps keeps. -/
theorem foldl_keeps {α β : Type} (g : State → α) (f : State → β → State) (h : ∀ s x, g (f s x) = g s) (l : List β)
    (s : State) : g (l.foldl f s) = g s := by
  induction l generalizing s with
  | nil => rfl
  | cons x xs ih => simp [ih, h]

@[simp] theorem markAll_kept (g : Group) (s : State) :
    (markAll g s).pending = s.pending ∧ (markAll g s).settings = s.settings ∧ (markAll g s).store = s.store ∧
    (markAll g s).loop = s.loop ∧ (markAll g s).stations = s.stations ∧ (markAll g s).table = s.table ∧
    (markAll g s).plan = s.plan ∧ (markAll g s).resolver = s.resolver ∧ (markAll g s).reg = s.reg ∧
    (markAll g s).purge = s.purge ∧ (markAll g s).vehicle = s.vehicle ∧ (markAll g s).clock = s.clock ∧
    (markAll g s).scan = s.scan ∧ (markAll g s).record = s.record ∧ (markAll g s).scene = s.scene ∧
    (markAll g s).conditions = s.conditions ∧ (markAll g s).alert = s.alert ∧ (markAll g s).blowers = s.blowers ∧
    (markAll g s).actuators = s.actuators ∧ (markAll g s).buffers = s.buffers ∧ (markAll g s).detached = s.detached ∧
    (markAll g s).trend = s.trend ∧ (markAll g s).resetHeld = s.resetHeld := by
  unfold markAll; simp

@[simp] theorem markAllIf_kept (b : Bool) (g : Group) (s : State) :
    (markAllIf b g s).pending = s.pending ∧ (markAllIf b g s).settings = s.settings ∧
    (markAllIf b g s).store = s.store ∧ (markAllIf b g s).loop = s.loop ∧ (markAllIf b g s).stations = s.stations ∧
    (markAllIf b g s).table = s.table ∧ (markAllIf b g s).plan = s.plan ∧ (markAllIf b g s).resolver = s.resolver ∧
    (markAllIf b g s).reg = s.reg ∧ (markAllIf b g s).purge = s.purge ∧ (markAllIf b g s).vehicle = s.vehicle ∧
    (markAllIf b g s).clock = s.clock ∧ (markAllIf b g s).scan = s.scan ∧ (markAllIf b g s).record = s.record ∧
    (markAllIf b g s).scene = s.scene ∧ (markAllIf b g s).conditions = s.conditions ∧
    (markAllIf b g s).alert = s.alert ∧ (markAllIf b g s).blowers = s.blowers ∧
    (markAllIf b g s).actuators = s.actuators ∧ (markAllIf b g s).buffers = s.buffers ∧
    (markAllIf b g s).detached = s.detached ∧ (markAllIf b g s).trend = s.trend ∧
    (markAllIf b g s).resetHeld = s.resetHeld := by
  unfold markAllIf; split <;> simp

@[simp] theorem setCondition_kept (c : Condition) (v : Bool) (s : State) :
    (setCondition c v s).pending = s.pending ∧ (setCondition c v s).settings = s.settings ∧
    (setCondition c v s).store = s.store ∧ (setCondition c v s).loop = s.loop ∧
    (setCondition c v s).stations = s.stations ∧ (setCondition c v s).table = s.table ∧
    (setCondition c v s).plan = s.plan ∧ (setCondition c v s).resolver = s.resolver ∧
    (setCondition c v s).reg = s.reg ∧ (setCondition c v s).purge = s.purge ∧
    (setCondition c v s).vehicle = s.vehicle ∧ (setCondition c v s).clock = s.clock ∧
    (setCondition c v s).scan = s.scan ∧ (setCondition c v s).record = s.record ∧
    (setCondition c v s).scene = s.scene ∧ (setCondition c v s).blowers = s.blowers ∧
    (setCondition c v s).actuators = s.actuators ∧ (setCondition c v s).buffers = s.buffers ∧
    (setCondition c v s).detached = s.detached ∧ (setCondition c v s).trend = s.trend ∧
    (setCondition c v s).resetHeld = s.resetHeld := by
  unfold setCondition; split <;> simp

@[simp] theorem checkShortfall_kept (s : State) :
    (checkShortfall s).pending = s.pending ∧ (checkShortfall s).settings = s.settings ∧
    (checkShortfall s).store = s.store ∧ (checkShortfall s).loop = s.loop ∧ (checkShortfall s).stations = s.stations ∧
    (checkShortfall s).table = s.table ∧ (checkShortfall s).plan = s.plan ∧ (checkShortfall s).resolver = s.resolver ∧
    (checkShortfall s).purge = s.purge ∧ (checkShortfall s).vehicle = s.vehicle ∧ (checkShortfall s).clock = s.clock ∧
    (checkShortfall s).scan = s.scan ∧ (checkShortfall s).record = s.record ∧ (checkShortfall s).scene = s.scene ∧
    (checkShortfall s).blowers = s.blowers ∧ (checkShortfall s).actuators = s.actuators ∧
    (checkShortfall s).buffers = s.buffers ∧ (checkShortfall s).detached = s.detached ∧
    (checkShortfall s).trend = s.trend ∧ (checkShortfall s).resetHeld = s.resetHeld := by
  unfold checkShortfall; split <;> simp

@[simp] theorem syncIntake_kept (s : State) :
    (syncIntake s).pending = s.pending ∧ (syncIntake s).settings = s.settings ∧ (syncIntake s).store = s.store ∧
    (syncIntake s).loop = s.loop ∧ (syncIntake s).stations = s.stations ∧ (syncIntake s).table = s.table ∧
    (syncIntake s).plan = s.plan ∧ (syncIntake s).resolver = s.resolver ∧ (syncIntake s).reg = s.reg ∧
    (syncIntake s).purge = s.purge ∧ (syncIntake s).vehicle = s.vehicle ∧ (syncIntake s).clock = s.clock ∧
    (syncIntake s).scan = s.scan ∧ (syncIntake s).record = s.record ∧ (syncIntake s).scene = s.scene ∧
    (syncIntake s).conditions = s.conditions ∧ (syncIntake s).alert = s.alert ∧
    (syncIntake s).actuators = s.actuators ∧ (syncIntake s).buffers = s.buffers ∧ (syncIntake s).marks = s.marks ∧
    (syncIntake s).detached = s.detached ∧ (syncIntake s).trend = s.trend ∧
    (syncIntake s).resetHeld = s.resetHeld := by
  unfold syncIntake; simp

@[simp] theorem withRegulator_kept (r : Regulator) (s : State) :
    (withRegulator r s).pending = s.pending ∧ (withRegulator r s).settings = s.settings ∧
    (withRegulator r s).store = s.store ∧ (withRegulator r s).loop = s.loop ∧
    (withRegulator r s).stations = s.stations ∧ (withRegulator r s).table = s.table ∧
    (withRegulator r s).plan = s.plan ∧ (withRegulator r s).resolver = s.resolver ∧
    (withRegulator r s).purge = s.purge ∧ (withRegulator r s).vehicle = s.vehicle ∧
    (withRegulator r s).clock = s.clock ∧ (withRegulator r s).scan = s.scan ∧ (withRegulator r s).record = s.record ∧
    (withRegulator r s).scene = s.scene ∧ (withRegulator r s).actuators = s.actuators ∧
    (withRegulator r s).buffers = s.buffers ∧ (withRegulator r s).detached = s.detached ∧
    (withRegulator r s).trend = s.trend ∧ (withRegulator r s).resetHeld = s.resetHeld := by
  unfold withRegulator; simp

@[simp] theorem updateCoUnderSeal_kept (s : State) :
    (updateCoUnderSeal s).pending = s.pending ∧ (updateCoUnderSeal s).settings = s.settings ∧
    (updateCoUnderSeal s).store = s.store ∧ (updateCoUnderSeal s).loop = s.loop ∧
    (updateCoUnderSeal s).stations = s.stations ∧ (updateCoUnderSeal s).table = s.table ∧
    (updateCoUnderSeal s).plan = s.plan ∧ (updateCoUnderSeal s).resolver = s.resolver ∧
    (updateCoUnderSeal s).reg = s.reg ∧ (updateCoUnderSeal s).purge = s.purge ∧
    (updateCoUnderSeal s).vehicle = s.vehicle ∧ (updateCoUnderSeal s).clock = s.clock ∧
    (updateCoUnderSeal s).scan = s.scan ∧ (updateCoUnderSeal s).record = s.record ∧
    (updateCoUnderSeal s).scene = s.scene ∧ (updateCoUnderSeal s).blowers = s.blowers ∧
    (updateCoUnderSeal s).actuators = s.actuators ∧ (updateCoUnderSeal s).buffers = s.buffers ∧
    (updateCoUnderSeal s).detached = s.detached ∧ (updateCoUnderSeal s).trend = s.trend ∧
    (updateCoUnderSeal s).resetHeld = s.resetHeld := by
  unfold updateCoUnderSeal; simp

@[simp] theorem takeZoneBlowers_kept (s : State) :
    (takeZoneBlowers s).pending = s.pending ∧ (takeZoneBlowers s).settings = s.settings ∧
    (takeZoneBlowers s).store = s.store ∧ (takeZoneBlowers s).loop = s.loop ∧
    (takeZoneBlowers s).stations = s.stations ∧ (takeZoneBlowers s).table = s.table ∧
    (takeZoneBlowers s).plan = s.plan ∧ (takeZoneBlowers s).resolver = s.resolver ∧ (takeZoneBlowers s).reg = s.reg ∧
    (takeZoneBlowers s).purge = s.purge ∧ (takeZoneBlowers s).vehicle = s.vehicle ∧
    (takeZoneBlowers s).clock = s.clock ∧ (takeZoneBlowers s).scan = s.scan ∧ (takeZoneBlowers s).record = s.record ∧
    (takeZoneBlowers s).scene = s.scene ∧ (takeZoneBlowers s).conditions = s.conditions ∧
    (takeZoneBlowers s).alert = s.alert ∧ (takeZoneBlowers s).actuators = s.actuators ∧
    (takeZoneBlowers s).buffers = s.buffers ∧ (takeZoneBlowers s).marks = s.marks ∧
    (takeZoneBlowers s).detached = s.detached ∧ (takeZoneBlowers s).trend = s.trend ∧
    (takeZoneBlowers s).resetHeld = s.resetHeld := by
  unfold takeZoneBlowers; simp

@[simp] theorem takeActuatorTargets_kept (s : State) :
    (takeActuatorTargets s).pending = s.pending ∧ (takeActuatorTargets s).settings = s.settings ∧
    (takeActuatorTargets s).store = s.store ∧ (takeActuatorTargets s).loop = s.loop ∧
    (takeActuatorTargets s).stations = s.stations ∧ (takeActuatorTargets s).table = s.table ∧
    (takeActuatorTargets s).plan = s.plan ∧ (takeActuatorTargets s).resolver = s.resolver ∧
    (takeActuatorTargets s).reg = s.reg ∧ (takeActuatorTargets s).purge = s.purge ∧
    (takeActuatorTargets s).vehicle = s.vehicle ∧ (takeActuatorTargets s).clock = s.clock ∧
    (takeActuatorTargets s).scan = s.scan ∧ (takeActuatorTargets s).record = s.record ∧
    (takeActuatorTargets s).scene = s.scene ∧ (takeActuatorTargets s).conditions = s.conditions ∧
    (takeActuatorTargets s).alert = s.alert ∧ (takeActuatorTargets s).blowers = s.blowers ∧
    (takeActuatorTargets s).buffers = s.buffers ∧ (takeActuatorTargets s).marks = s.marks ∧
    (takeActuatorTargets s).detached = s.detached ∧ (takeActuatorTargets s).trend = s.trend ∧
    (takeActuatorTargets s).resetHeld = s.resetHeld := by
  unfold takeActuatorTargets; simp

@[simp] theorem handOver_kept (s : State) :
    (handOver s).pending = s.pending ∧ (handOver s).settings = s.settings ∧ (handOver s).store = s.store ∧
    (handOver s).loop = s.loop ∧ (handOver s).stations = s.stations ∧ (handOver s).table = s.table ∧
    (handOver s).plan = s.plan ∧ (handOver s).resolver = s.resolver ∧ (handOver s).purge = s.purge ∧
    (handOver s).vehicle = s.vehicle ∧ (handOver s).clock = s.clock ∧ (handOver s).scan = s.scan ∧
    (handOver s).record = s.record ∧ (handOver s).scene = s.scene ∧ (handOver s).buffers = s.buffers ∧
    (handOver s).detached = s.detached ∧ (handOver s).trend = s.trend ∧ (handOver s).resetHeld = s.resetHeld := by
  unfold handOver; simp

@[simp] theorem updateHeater_kept (s : State) :
    (updateHeater s).pending = s.pending ∧ (updateHeater s).settings = s.settings ∧ (updateHeater s).store = s.store ∧
    (updateHeater s).loop = s.loop ∧ (updateHeater s).stations = s.stations ∧ (updateHeater s).table = s.table ∧
    (updateHeater s).plan = s.plan ∧ (updateHeater s).reg = s.reg ∧ (updateHeater s).purge = s.purge ∧
    (updateHeater s).vehicle = s.vehicle ∧ (updateHeater s).clock = s.clock ∧ (updateHeater s).scan = s.scan ∧
    (updateHeater s).record = s.record ∧ (updateHeater s).scene = s.scene ∧
    (updateHeater s).conditions = s.conditions ∧ (updateHeater s).alert = s.alert ∧
    (updateHeater s).blowers = s.blowers ∧ (updateHeater s).actuators = s.actuators ∧
    (updateHeater s).buffers = s.buffers ∧ (updateHeater s).marks = s.marks ∧ (updateHeater s).detached = s.detached ∧
    (updateHeater s).trend = s.trend ∧ (updateHeater s).resetHeld = s.resetHeld := by
  unfold updateHeater; simp

@[simp] theorem install_kept (b : PlanBody) (s : State) :
    (install b s).pending = s.pending ∧ (install b s).settings = s.settings ∧ (install b s).store = s.store ∧
    (install b s).loop = s.loop ∧ (install b s).stations = s.stations ∧ (install b s).table = s.table ∧
    (install b s).resolver = s.resolver ∧ (install b s).reg = s.reg ∧ (install b s).purge = s.purge ∧
    (install b s).vehicle = s.vehicle ∧ (install b s).clock = s.clock ∧ (install b s).scan = s.scan ∧
    (install b s).record = s.record ∧ (install b s).scene = s.scene ∧ (install b s).conditions = s.conditions ∧
    (install b s).alert = s.alert ∧ (install b s).blowers = s.blowers ∧ (install b s).actuators = s.actuators ∧
    (install b s).buffers = s.buffers ∧ (install b s).marks = s.marks ∧ (install b s).detached = s.detached ∧
    (install b s).trend = s.trend ∧ (install b s).resetHeld = s.resetHeld := by
  unfold install; simp

@[simp] theorem resolve_kept (s : State) :
    (resolve s).pending = s.pending ∧ (resolve s).settings = s.settings ∧ (resolve s).store = s.store ∧
    (resolve s).loop = s.loop ∧ (resolve s).stations = s.stations ∧ (resolve s).table = s.table ∧
    (resolve s).purge = s.purge ∧ (resolve s).vehicle = s.vehicle ∧ (resolve s).clock = s.clock ∧
    (resolve s).scan = s.scan ∧ (resolve s).record = s.record ∧ (resolve s).scene = s.scene ∧
    (resolve s).buffers = s.buffers ∧ (resolve s).detached = s.detached ∧ (resolve s).trend = s.trend ∧
    (resolve s).resetHeld = s.resetHeld := by
  unfold resolve; split <;> simp

@[simp] theorem resolveIf_kept (b : Bool) (s : State) :
    (resolveIf b s).pending = s.pending ∧ (resolveIf b s).settings = s.settings ∧ (resolveIf b s).store = s.store ∧
    (resolveIf b s).loop = s.loop ∧ (resolveIf b s).stations = s.stations ∧ (resolveIf b s).table = s.table ∧
    (resolveIf b s).purge = s.purge ∧ (resolveIf b s).vehicle = s.vehicle ∧ (resolveIf b s).clock = s.clock ∧
    (resolveIf b s).scan = s.scan ∧ (resolveIf b s).record = s.record ∧ (resolveIf b s).scene = s.scene ∧
    (resolveIf b s).buffers = s.buffers ∧ (resolveIf b s).detached = s.detached ∧ (resolveIf b s).trend = s.trend ∧
    (resolveIf b s).resetHeld = s.resetHeld := by
  unfold resolveIf; split <;> simp

@[simp] theorem setLatch_kept (v : Bool) (s : State) :
    (setLatch v s).pending = s.pending ∧ (setLatch v s).settings = s.settings ∧ (setLatch v s).store = s.store ∧
    (setLatch v s).loop = s.loop ∧ (setLatch v s).stations = s.stations ∧ (setLatch v s).table = s.table ∧
    (setLatch v s).plan = s.plan ∧ (setLatch v s).reg = s.reg ∧ (setLatch v s).purge = s.purge ∧
    (setLatch v s).vehicle = s.vehicle ∧ (setLatch v s).clock = s.clock ∧ (setLatch v s).scan = s.scan ∧
    (setLatch v s).record = s.record ∧ (setLatch v s).scene = s.scene ∧ (setLatch v s).conditions = s.conditions ∧
    (setLatch v s).alert = s.alert ∧ (setLatch v s).blowers = s.blowers ∧ (setLatch v s).actuators = s.actuators ∧
    (setLatch v s).buffers = s.buffers ∧ (setLatch v s).marks = s.marks ∧ (setLatch v s).detached = s.detached ∧
    (setLatch v s).trend = s.trend ∧ (setLatch v s).resetHeld = s.resetHeld := by
  unfold setLatch; simp

@[simp] theorem elapse_kept (n : Nat) (s : State) :
    (elapse n s).pending = s.pending ∧ (elapse n s).settings = s.settings ∧ (elapse n s).store = s.store ∧
    (elapse n s).loop = s.loop ∧ (elapse n s).stations = s.stations ∧ (elapse n s).table = s.table ∧
    (elapse n s).plan = s.plan ∧ (elapse n s).resolver = s.resolver ∧ (elapse n s).reg = s.reg ∧
    (elapse n s).purge = s.purge ∧ (elapse n s).vehicle = s.vehicle ∧ (elapse n s).scan = s.scan ∧
    (elapse n s).record = s.record ∧ (elapse n s).scene = s.scene ∧ (elapse n s).conditions = s.conditions ∧
    (elapse n s).alert = s.alert ∧ (elapse n s).actuators = s.actuators ∧ (elapse n s).buffers = s.buffers ∧
    (elapse n s).marks = s.marks ∧ (elapse n s).detached = s.detached ∧ (elapse n s).trend = s.trend ∧
    (elapse n s).resetHeld = s.resetHeld := by
  unfold elapse; simp

@[simp] theorem advanceTo_kept (due : BitVec 32) (s : State) :
    (advanceTo due s).pending = s.pending ∧ (advanceTo due s).settings = s.settings ∧
    (advanceTo due s).store = s.store ∧ (advanceTo due s).loop = s.loop ∧ (advanceTo due s).stations = s.stations ∧
    (advanceTo due s).table = s.table ∧ (advanceTo due s).plan = s.plan ∧ (advanceTo due s).resolver = s.resolver ∧
    (advanceTo due s).reg = s.reg ∧ (advanceTo due s).purge = s.purge ∧ (advanceTo due s).vehicle = s.vehicle ∧
    (advanceTo due s).scan = s.scan ∧ (advanceTo due s).record = s.record ∧ (advanceTo due s).scene = s.scene ∧
    (advanceTo due s).conditions = s.conditions ∧ (advanceTo due s).alert = s.alert ∧
    (advanceTo due s).actuators = s.actuators ∧ (advanceTo due s).buffers = s.buffers ∧
    (advanceTo due s).marks = s.marks ∧ (advanceTo due s).detached = s.detached ∧ (advanceTo due s).trend = s.trend ∧
    (advanceTo due s).resetHeld = s.resetHeld := by
  unfold advanceTo; simp

@[simp] theorem setLine_kept (n : Station) (l : Line) (s : State) :
    (setLine n l s).pending = s.pending ∧ (setLine n l s).settings = s.settings ∧ (setLine n l s).store = s.store ∧
    (setLine n l s).stations = s.stations ∧ (setLine n l s).table = s.table ∧ (setLine n l s).plan = s.plan ∧
    (setLine n l s).resolver = s.resolver ∧ (setLine n l s).reg = s.reg ∧ (setLine n l s).purge = s.purge ∧
    (setLine n l s).vehicle = s.vehicle ∧ (setLine n l s).clock = s.clock ∧ (setLine n l s).scan = s.scan ∧
    (setLine n l s).record = s.record ∧ (setLine n l s).scene = s.scene ∧ (setLine n l s).conditions = s.conditions ∧
    (setLine n l s).alert = s.alert ∧ (setLine n l s).blowers = s.blowers ∧ (setLine n l s).actuators = s.actuators ∧
    (setLine n l s).buffers = s.buffers ∧ (setLine n l s).marks = s.marks ∧ (setLine n l s).detached = s.detached ∧
    (setLine n l s).trend = s.trend ∧ (setLine n l s).resetHeld = s.resetHeld := by
  unfold setLine; simp

@[simp] theorem cutRun_kept (n : Station) (k : RunKind) (s : State) :
    (cutRun n k s).pending = s.pending ∧ (cutRun n k s).settings = s.settings ∧ (cutRun n k s).store = s.store ∧
    (cutRun n k s).stations = s.stations ∧ (cutRun n k s).table = s.table ∧ (cutRun n k s).plan = s.plan ∧
    (cutRun n k s).resolver = s.resolver ∧ (cutRun n k s).reg = s.reg ∧ (cutRun n k s).purge = s.purge ∧
    (cutRun n k s).vehicle = s.vehicle ∧ (cutRun n k s).clock = s.clock ∧ (cutRun n k s).scan = s.scan ∧
    (cutRun n k s).record = s.record ∧ (cutRun n k s).scene = s.scene ∧ (cutRun n k s).conditions = s.conditions ∧
    (cutRun n k s).alert = s.alert ∧ (cutRun n k s).blowers = s.blowers ∧ (cutRun n k s).actuators = s.actuators ∧
    (cutRun n k s).buffers = s.buffers ∧ (cutRun n k s).marks = s.marks ∧ (cutRun n k s).detached = s.detached ∧
    (cutRun n k s).trend = s.trend ∧ (cutRun n k s).resetHeld = s.resetHeld := by
  unfold cutRun; split
  · simp
  · split <;> simp

@[simp] theorem discardBuffer_kept (n : Station) (s : State) :
    (discardBuffer n s).pending = s.pending ∧ (discardBuffer n s).settings = s.settings ∧
    (discardBuffer n s).store = s.store ∧ (discardBuffer n s).stations = s.stations ∧
    (discardBuffer n s).table = s.table ∧ (discardBuffer n s).plan = s.plan ∧
    (discardBuffer n s).resolver = s.resolver ∧ (discardBuffer n s).reg = s.reg ∧ (discardBuffer n s).purge = s.purge ∧
    (discardBuffer n s).vehicle = s.vehicle ∧ (discardBuffer n s).clock = s.clock ∧ (discardBuffer n s).scan = s.scan ∧
    (discardBuffer n s).record = s.record ∧ (discardBuffer n s).scene = s.scene ∧
    (discardBuffer n s).conditions = s.conditions ∧ (discardBuffer n s).alert = s.alert ∧
    (discardBuffer n s).blowers = s.blowers ∧ (discardBuffer n s).actuators = s.actuators ∧
    (discardBuffer n s).marks = s.marks ∧ (discardBuffer n s).detached = s.detached ∧
    (discardBuffer n s).trend = s.trend ∧ (discardBuffer n s).resetHeld = s.resetHeld := by
  unfold discardBuffer; simp

@[simp] theorem emptyQueue_kept (s : State) :
    (emptyQueue s).pending = s.pending ∧ (emptyQueue s).settings = s.settings ∧ (emptyQueue s).store = s.store ∧
    (emptyQueue s).stations = s.stations ∧ (emptyQueue s).table = s.table ∧ (emptyQueue s).plan = s.plan ∧
    (emptyQueue s).resolver = s.resolver ∧ (emptyQueue s).reg = s.reg ∧ (emptyQueue s).purge = s.purge ∧
    (emptyQueue s).vehicle = s.vehicle ∧ (emptyQueue s).clock = s.clock ∧ (emptyQueue s).scan = s.scan ∧
    (emptyQueue s).record = s.record ∧ (emptyQueue s).scene = s.scene ∧ (emptyQueue s).conditions = s.conditions ∧
    (emptyQueue s).alert = s.alert ∧ (emptyQueue s).blowers = s.blowers ∧ (emptyQueue s).actuators = s.actuators ∧
    (emptyQueue s).buffers = s.buffers ∧ (emptyQueue s).marks = s.marks ∧ (emptyQueue s).detached = s.detached ∧
    (emptyQueue s).resetHeld = s.resetHeld := by
  unfold emptyQueue; split <;> simp

@[simp] theorem releaseStream_kept (n : Station) (s : State) :
    (releaseStream n s).pending = s.pending ∧ (releaseStream n s).settings = s.settings ∧
    (releaseStream n s).store = s.store ∧ (releaseStream n s).stations = s.stations ∧
    (releaseStream n s).table = s.table ∧ (releaseStream n s).plan = s.plan ∧
    (releaseStream n s).resolver = s.resolver ∧ (releaseStream n s).reg = s.reg ∧ (releaseStream n s).purge = s.purge ∧
    (releaseStream n s).vehicle = s.vehicle ∧ (releaseStream n s).clock = s.clock ∧ (releaseStream n s).scan = s.scan ∧
    (releaseStream n s).record = s.record ∧ (releaseStream n s).scene = s.scene ∧
    (releaseStream n s).conditions = s.conditions ∧ (releaseStream n s).alert = s.alert ∧
    (releaseStream n s).blowers = s.blowers ∧ (releaseStream n s).actuators = s.actuators ∧
    (releaseStream n s).buffers = s.buffers ∧ (releaseStream n s).marks = s.marks ∧
    (releaseStream n s).detached = s.detached ∧ (releaseStream n s).resetHeld = s.resetHeld := by
  unfold releaseStream; split <;> simp

@[simp] theorem setDetached_kept (n : Station) (v : Bool) (s : State) :
    (setDetached n v s).pending = s.pending ∧ (setDetached n v s).settings = s.settings ∧
    (setDetached n v s).store = s.store ∧ (setDetached n v s).loop = s.loop ∧
    (setDetached n v s).stations = s.stations ∧ (setDetached n v s).table = s.table ∧
    (setDetached n v s).plan = s.plan ∧ (setDetached n v s).resolver = s.resolver ∧ (setDetached n v s).reg = s.reg ∧
    (setDetached n v s).purge = s.purge ∧ (setDetached n v s).vehicle = s.vehicle ∧
    (setDetached n v s).clock = s.clock ∧ (setDetached n v s).scan = s.scan ∧ (setDetached n v s).record = s.record ∧
    (setDetached n v s).scene = s.scene ∧ (setDetached n v s).conditions = s.conditions ∧
    (setDetached n v s).alert = s.alert ∧ (setDetached n v s).blowers = s.blowers ∧
    (setDetached n v s).actuators = s.actuators ∧ (setDetached n v s).buffers = s.buffers ∧
    (setDetached n v s).marks = s.marks ∧ (setDetached n v s).trend = s.trend ∧
    (setDetached n v s).resetHeld = s.resetHeld := by
  unfold setDetached; simp

@[simp] theorem markStation_kept (n : Station) (s : State) :
    (markStation n s).pending = s.pending ∧ (markStation n s).settings = s.settings ∧
    (markStation n s).store = s.store ∧ (markStation n s).loop = s.loop ∧ (markStation n s).stations = s.stations ∧
    (markStation n s).table = s.table ∧ (markStation n s).plan = s.plan ∧ (markStation n s).resolver = s.resolver ∧
    (markStation n s).reg = s.reg ∧ (markStation n s).purge = s.purge ∧ (markStation n s).vehicle = s.vehicle ∧
    (markStation n s).clock = s.clock ∧ (markStation n s).scan = s.scan ∧ (markStation n s).record = s.record ∧
    (markStation n s).scene = s.scene ∧ (markStation n s).conditions = s.conditions ∧
    (markStation n s).alert = s.alert ∧ (markStation n s).blowers = s.blowers ∧
    (markStation n s).actuators = s.actuators ∧ (markStation n s).buffers = s.buffers ∧
    (markStation n s).detached = s.detached ∧ (markStation n s).trend = s.trend ∧
    (markStation n s).resetHeld = s.resetHeld := by
  unfold markStation; simp

@[simp] theorem removeEntries_kept (n : Station) (s : State) :
    (removeEntries n s).pending = s.pending ∧ (removeEntries n s).settings = s.settings ∧
    (removeEntries n s).store = s.store ∧ (removeEntries n s).loop = s.loop ∧
    (removeEntries n s).stations = s.stations ∧ (removeEntries n s).plan = s.plan ∧
    (removeEntries n s).resolver = s.resolver ∧ (removeEntries n s).reg = s.reg ∧ (removeEntries n s).purge = s.purge ∧
    (removeEntries n s).vehicle = s.vehicle ∧ (removeEntries n s).clock = s.clock ∧ (removeEntries n s).scan = s.scan ∧
    (removeEntries n s).record = s.record ∧ (removeEntries n s).scene = s.scene ∧
    (removeEntries n s).conditions = s.conditions ∧ (removeEntries n s).alert = s.alert ∧
    (removeEntries n s).blowers = s.blowers ∧ (removeEntries n s).actuators = s.actuators ∧
    (removeEntries n s).buffers = s.buffers ∧ (removeEntries n s).marks = s.marks ∧
    (removeEntries n s).detached = s.detached ∧ (removeEntries n s).trend = s.trend ∧
    (removeEntries n s).resetHeld = s.resetHeld := by
  unfold removeEntries; simp

@[simp] theorem holdEntries_kept (n : Station) (h : Bool) (s : State) :
    (holdEntries n h s).pending = s.pending ∧ (holdEntries n h s).settings = s.settings ∧
    (holdEntries n h s).store = s.store ∧ (holdEntries n h s).loop = s.loop ∧
    (holdEntries n h s).stations = s.stations ∧ (holdEntries n h s).plan = s.plan ∧
    (holdEntries n h s).resolver = s.resolver ∧ (holdEntries n h s).reg = s.reg ∧ (holdEntries n h s).purge = s.purge ∧
    (holdEntries n h s).vehicle = s.vehicle ∧ (holdEntries n h s).clock = s.clock ∧ (holdEntries n h s).scan = s.scan ∧
    (holdEntries n h s).record = s.record ∧ (holdEntries n h s).scene = s.scene ∧
    (holdEntries n h s).conditions = s.conditions ∧ (holdEntries n h s).alert = s.alert ∧
    (holdEntries n h s).blowers = s.blowers ∧ (holdEntries n h s).actuators = s.actuators ∧
    (holdEntries n h s).buffers = s.buffers ∧ (holdEntries n h s).marks = s.marks ∧
    (holdEntries n h s).detached = s.detached ∧ (holdEntries n h s).trend = s.trend ∧
    (holdEntries n h s).resetHeld = s.resetHeld := by
  unfold holdEntries; simp

@[simp] theorem setStation_kept (n : Station) (r : StationState) (s : State) :
    (setStation n r s).pending = s.pending ∧ (setStation n r s).settings = s.settings ∧
    (setStation n r s).store = s.store ∧ (setStation n r s).loop = s.loop ∧ (setStation n r s).table = s.table ∧
    (setStation n r s).plan = s.plan ∧ (setStation n r s).resolver = s.resolver ∧ (setStation n r s).reg = s.reg ∧
    (setStation n r s).purge = s.purge ∧ (setStation n r s).vehicle = s.vehicle ∧ (setStation n r s).clock = s.clock ∧
    (setStation n r s).scan = s.scan ∧ (setStation n r s).record = s.record ∧ (setStation n r s).scene = s.scene ∧
    (setStation n r s).conditions = s.conditions ∧ (setStation n r s).alert = s.alert ∧
    (setStation n r s).blowers = s.blowers ∧ (setStation n r s).actuators = s.actuators ∧
    (setStation n r s).buffers = s.buffers ∧ (setStation n r s).marks = s.marks ∧
    (setStation n r s).detached = s.detached ∧ (setStation n r s).trend = s.trend ∧
    (setStation n r s).resetHeld = s.resetHeld := by
  unfold setStation; simp

@[simp] theorem endPurge_kept (r : PurgeResult) (s : State) :
    (endPurge r s).pending = s.pending ∧ (endPurge r s).settings = s.settings ∧ (endPurge r s).store = s.store ∧
    (endPurge r s).loop = s.loop ∧ (endPurge r s).stations = s.stations ∧ (endPurge r s).table = s.table ∧
    (endPurge r s).plan = s.plan ∧ (endPurge r s).resolver = s.resolver ∧ (endPurge r s).reg = s.reg ∧
    (endPurge r s).vehicle = s.vehicle ∧ (endPurge r s).clock = s.clock ∧ (endPurge r s).scan = s.scan ∧
    (endPurge r s).record = s.record ∧ (endPurge r s).scene = s.scene ∧ (endPurge r s).blowers = s.blowers ∧
    (endPurge r s).actuators = s.actuators ∧ (endPurge r s).buffers = s.buffers ∧
    (endPurge r s).detached = s.detached ∧ (endPurge r s).trend = s.trend ∧
    (endPurge r s).resetHeld = s.resetHeld := by
  unfold endPurge; split <;> simp

@[simp] theorem fallbackTest_kept (s : State) :
    (fallbackTest s).pending = s.pending ∧ (fallbackTest s).settings = s.settings ∧ (fallbackTest s).store = s.store ∧
    (fallbackTest s).loop = s.loop ∧ (fallbackTest s).stations = s.stations ∧ (fallbackTest s).table = s.table ∧
    (fallbackTest s).plan = s.plan ∧ (fallbackTest s).resolver = s.resolver ∧ (fallbackTest s).reg = s.reg ∧
    (fallbackTest s).vehicle = s.vehicle ∧ (fallbackTest s).clock = s.clock ∧ (fallbackTest s).scan = s.scan ∧
    (fallbackTest s).record = s.record ∧ (fallbackTest s).scene = s.scene ∧ (fallbackTest s).blowers = s.blowers ∧
    (fallbackTest s).actuators = s.actuators ∧ (fallbackTest s).buffers = s.buffers ∧
    (fallbackTest s).detached = s.detached ∧ (fallbackTest s).trend = s.trend ∧
    (fallbackTest s).resetHeld = s.resetHeld := by
  unfold fallbackTest; split <;> simp

@[simp] theorem enterPhase_kept (p : PurgePhase) (s : State) :
    (enterPhase p s).pending = s.pending ∧ (enterPhase p s).settings = s.settings ∧ (enterPhase p s).store = s.store ∧
    (enterPhase p s).loop = s.loop ∧ (enterPhase p s).stations = s.stations ∧ (enterPhase p s).table = s.table ∧
    (enterPhase p s).plan = s.plan ∧ (enterPhase p s).resolver = s.resolver ∧ (enterPhase p s).reg = s.reg ∧
    (enterPhase p s).vehicle = s.vehicle ∧ (enterPhase p s).clock = s.clock ∧ (enterPhase p s).scan = s.scan ∧
    (enterPhase p s).record = s.record ∧ (enterPhase p s).scene = s.scene ∧ (enterPhase p s).blowers = s.blowers ∧
    (enterPhase p s).actuators = s.actuators ∧ (enterPhase p s).buffers = s.buffers ∧
    (enterPhase p s).detached = s.detached ∧ (enterPhase p s).trend = s.trend ∧
    (enterPhase p s).resetHeld = s.resetHeld := by
  unfold enterPhase; simp

@[simp] theorem startRecord_kept (sc : PurgeScope) (o : Originator) (s : State) :
    (startRecord sc o s).pending = s.pending ∧ (startRecord sc o s).settings = s.settings ∧
    (startRecord sc o s).store = s.store ∧ (startRecord sc o s).loop = s.loop ∧
    (startRecord sc o s).stations = s.stations ∧ (startRecord sc o s).table = s.table ∧
    (startRecord sc o s).plan = s.plan ∧ (startRecord sc o s).resolver = s.resolver ∧
    (startRecord sc o s).reg = s.reg ∧ (startRecord sc o s).vehicle = s.vehicle ∧
    (startRecord sc o s).clock = s.clock ∧ (startRecord sc o s).scan = s.scan ∧
    (startRecord sc o s).record = s.record ∧ (startRecord sc o s).scene = s.scene ∧
    (startRecord sc o s).conditions = s.conditions ∧ (startRecord sc o s).alert = s.alert ∧
    (startRecord sc o s).blowers = s.blowers ∧ (startRecord sc o s).actuators = s.actuators ∧
    (startRecord sc o s).buffers = s.buffers ∧ (startRecord sc o s).marks = s.marks ∧
    (startRecord sc o s).detached = s.detached ∧ (startRecord sc o s).trend = s.trend ∧
    (startRecord sc o s).resetHeld = s.resetHeld := by
  unfold startRecord; simp

@[simp] theorem startPurge_kept (sc : PurgeScope) (o : Originator) (s : State) :
    (startPurge sc o s).pending = s.pending ∧ (startPurge sc o s).settings = s.settings ∧
    (startPurge sc o s).store = s.store ∧ (startPurge sc o s).loop = s.loop ∧
    (startPurge sc o s).stations = s.stations ∧ (startPurge sc o s).table = s.table ∧
    (startPurge sc o s).plan = s.plan ∧ (startPurge sc o s).resolver = s.resolver ∧ (startPurge sc o s).reg = s.reg ∧
    (startPurge sc o s).vehicle = s.vehicle ∧ (startPurge sc o s).clock = s.clock ∧ (startPurge sc o s).scan = s.scan ∧
    (startPurge sc o s).record = s.record ∧ (startPurge sc o s).scene = s.scene ∧
    (startPurge sc o s).blowers = s.blowers ∧ (startPurge sc o s).actuators = s.actuators ∧
    (startPurge sc o s).buffers = s.buffers ∧ (startPurge sc o s).detached = s.detached ∧
    (startPurge sc o s).trend = s.trend ∧ (startPurge sc o s).resetHeld = s.resetHeld := by
  unfold startPurge; simp

@[simp] theorem widenPurge_kept (s : State) :
    (widenPurge s).pending = s.pending ∧ (widenPurge s).settings = s.settings ∧ (widenPurge s).store = s.store ∧
    (widenPurge s).loop = s.loop ∧ (widenPurge s).stations = s.stations ∧ (widenPurge s).table = s.table ∧
    (widenPurge s).plan = s.plan ∧ (widenPurge s).resolver = s.resolver ∧ (widenPurge s).reg = s.reg ∧
    (widenPurge s).vehicle = s.vehicle ∧ (widenPurge s).clock = s.clock ∧ (widenPurge s).scan = s.scan ∧
    (widenPurge s).record = s.record ∧ (widenPurge s).scene = s.scene ∧ (widenPurge s).conditions = s.conditions ∧
    (widenPurge s).alert = s.alert ∧ (widenPurge s).blowers = s.blowers ∧ (widenPurge s).actuators = s.actuators ∧
    (widenPurge s).buffers = s.buffers ∧ (widenPurge s).marks = s.marks ∧ (widenPurge s).detached = s.detached ∧
    (widenPurge s).trend = s.trend ∧ (widenPurge s).resetHeld = s.resetHeld := by
  unfold widenPurge; simp

@[simp] theorem purgeDoors_kept (d : PerDoor Bool) (s : State) :
    (purgeDoors d s).pending = s.pending ∧ (purgeDoors d s).settings = s.settings ∧ (purgeDoors d s).store = s.store ∧
    (purgeDoors d s).loop = s.loop ∧ (purgeDoors d s).stations = s.stations ∧ (purgeDoors d s).table = s.table ∧
    (purgeDoors d s).plan = s.plan ∧ (purgeDoors d s).resolver = s.resolver ∧ (purgeDoors d s).reg = s.reg ∧
    (purgeDoors d s).vehicle = s.vehicle ∧ (purgeDoors d s).clock = s.clock ∧ (purgeDoors d s).scan = s.scan ∧
    (purgeDoors d s).record = s.record ∧ (purgeDoors d s).scene = s.scene ∧ (purgeDoors d s).blowers = s.blowers ∧
    (purgeDoors d s).actuators = s.actuators ∧ (purgeDoors d s).buffers = s.buffers ∧
    (purgeDoors d s).detached = s.detached ∧ (purgeDoors d s).trend = s.trend ∧
    (purgeDoors d s).resetHeld = s.resetHeld := by
  unfold purgeDoors; split <;> first | (simp; done) | (split <;> simp)

@[simp] theorem purgeHeavy_kept (s : State) :
    (purgeHeavy s).pending = s.pending ∧ (purgeHeavy s).settings = s.settings ∧ (purgeHeavy s).store = s.store ∧
    (purgeHeavy s).loop = s.loop ∧ (purgeHeavy s).stations = s.stations ∧ (purgeHeavy s).table = s.table ∧
    (purgeHeavy s).plan = s.plan ∧ (purgeHeavy s).resolver = s.resolver ∧ (purgeHeavy s).reg = s.reg ∧
    (purgeHeavy s).vehicle = s.vehicle ∧ (purgeHeavy s).clock = s.clock ∧ (purgeHeavy s).scan = s.scan ∧
    (purgeHeavy s).record = s.record ∧ (purgeHeavy s).scene = s.scene ∧ (purgeHeavy s).blowers = s.blowers ∧
    (purgeHeavy s).actuators = s.actuators ∧ (purgeHeavy s).buffers = s.buffers ∧
    (purgeHeavy s).detached = s.detached ∧ (purgeHeavy s).trend = s.trend ∧
    (purgeHeavy s).resetHeld = s.resetHeld := by
  unfold purgeHeavy; split <;> first | (split <;> simp) | simp

@[simp] theorem crewReturn_kept (s : State) :
    (crewReturn s).pending = s.pending ∧ (crewReturn s).settings = s.settings ∧ (crewReturn s).store = s.store ∧
    (crewReturn s).loop = s.loop ∧ (crewReturn s).stations = s.stations ∧ (crewReturn s).table = s.table ∧
    (crewReturn s).plan = s.plan ∧ (crewReturn s).resolver = s.resolver ∧ (crewReturn s).reg = s.reg ∧
    (crewReturn s).vehicle = s.vehicle ∧ (crewReturn s).clock = s.clock ∧ (crewReturn s).scan = s.scan ∧
    (crewReturn s).record = s.record ∧ (crewReturn s).scene = s.scene ∧ (crewReturn s).blowers = s.blowers ∧
    (crewReturn s).actuators = s.actuators ∧ (crewReturn s).buffers = s.buffers ∧
    (crewReturn s).detached = s.detached ∧ (crewReturn s).trend = s.trend ∧
    (crewReturn s).resetHeld = s.resetHeld := by
  unfold crewReturn; split <;> simp

@[simp] theorem armedLimit_kept (s : State) :
    (armedLimit s).pending = s.pending ∧ (armedLimit s).settings = s.settings ∧ (armedLimit s).store = s.store ∧
    (armedLimit s).loop = s.loop ∧ (armedLimit s).stations = s.stations ∧ (armedLimit s).table = s.table ∧
    (armedLimit s).plan = s.plan ∧ (armedLimit s).resolver = s.resolver ∧ (armedLimit s).reg = s.reg ∧
    (armedLimit s).vehicle = s.vehicle ∧ (armedLimit s).clock = s.clock ∧ (armedLimit s).scan = s.scan ∧
    (armedLimit s).record = s.record ∧ (armedLimit s).scene = s.scene ∧ (armedLimit s).blowers = s.blowers ∧
    (armedLimit s).actuators = s.actuators ∧ (armedLimit s).buffers = s.buffers ∧
    (armedLimit s).detached = s.detached ∧ (armedLimit s).trend = s.trend ∧
    (armedLimit s).resetHeld = s.resetHeld := by
  unfold armedLimit; split <;> simp

@[simp] theorem deferredLimit_kept (s : State) :
    (deferredLimit s).pending = s.pending ∧ (deferredLimit s).settings = s.settings ∧
    (deferredLimit s).store = s.store ∧ (deferredLimit s).loop = s.loop ∧ (deferredLimit s).stations = s.stations ∧
    (deferredLimit s).table = s.table ∧ (deferredLimit s).plan = s.plan ∧ (deferredLimit s).resolver = s.resolver ∧
    (deferredLimit s).reg = s.reg ∧ (deferredLimit s).vehicle = s.vehicle ∧ (deferredLimit s).clock = s.clock ∧
    (deferredLimit s).scan = s.scan ∧ (deferredLimit s).record = s.record ∧ (deferredLimit s).scene = s.scene ∧
    (deferredLimit s).blowers = s.blowers ∧ (deferredLimit s).actuators = s.actuators ∧
    (deferredLimit s).buffers = s.buffers ∧ (deferredLimit s).detached = s.detached ∧
    (deferredLimit s).trend = s.trend ∧ (deferredLimit s).resetHeld = s.resetHeld := by
  unfold deferredLimit; split <;> simp

@[simp] theorem flushingLimit_kept (s : State) :
    (flushingLimit s).pending = s.pending ∧ (flushingLimit s).settings = s.settings ∧
    (flushingLimit s).store = s.store ∧ (flushingLimit s).loop = s.loop ∧ (flushingLimit s).stations = s.stations ∧
    (flushingLimit s).table = s.table ∧ (flushingLimit s).plan = s.plan ∧ (flushingLimit s).resolver = s.resolver ∧
    (flushingLimit s).reg = s.reg ∧ (flushingLimit s).vehicle = s.vehicle ∧ (flushingLimit s).clock = s.clock ∧
    (flushingLimit s).scan = s.scan ∧ (flushingLimit s).record = s.record ∧ (flushingLimit s).scene = s.scene ∧
    (flushingLimit s).blowers = s.blowers ∧ (flushingLimit s).actuators = s.actuators ∧
    (flushingLimit s).buffers = s.buffers ∧ (flushingLimit s).detached = s.detached ∧
    (flushingLimit s).trend = s.trend ∧ (flushingLimit s).resetHeld = s.resetHeld := by
  unfold flushingLimit; split <;> simp

@[simp] theorem purgeLimits_kept (s : State) :
    (purgeLimits s).pending = s.pending ∧ (purgeLimits s).settings = s.settings ∧ (purgeLimits s).store = s.store ∧
    (purgeLimits s).loop = s.loop ∧ (purgeLimits s).stations = s.stations ∧ (purgeLimits s).table = s.table ∧
    (purgeLimits s).plan = s.plan ∧ (purgeLimits s).resolver = s.resolver ∧ (purgeLimits s).reg = s.reg ∧
    (purgeLimits s).vehicle = s.vehicle ∧ (purgeLimits s).clock = s.clock ∧ (purgeLimits s).scan = s.scan ∧
    (purgeLimits s).record = s.record ∧ (purgeLimits s).scene = s.scene ∧ (purgeLimits s).blowers = s.blowers ∧
    (purgeLimits s).actuators = s.actuators ∧ (purgeLimits s).buffers = s.buffers ∧
    (purgeLimits s).detached = s.detached ∧ (purgeLimits s).trend = s.trend ∧
    (purgeLimits s).resetHeld = s.resetHeld := by
  unfold purgeLimits; simp

@[simp] theorem countSample_kept (u : Nat) (s : State) :
    (countSample u s).pending = s.pending ∧ (countSample u s).settings = s.settings ∧
    (countSample u s).store = s.store ∧ (countSample u s).loop = s.loop ∧ (countSample u s).stations = s.stations ∧
    (countSample u s).table = s.table ∧ (countSample u s).plan = s.plan ∧ (countSample u s).resolver = s.resolver ∧
    (countSample u s).reg = s.reg ∧ (countSample u s).vehicle = s.vehicle ∧ (countSample u s).clock = s.clock ∧
    (countSample u s).scan = s.scan ∧ (countSample u s).record = s.record ∧ (countSample u s).scene = s.scene ∧
    (countSample u s).blowers = s.blowers ∧ (countSample u s).actuators = s.actuators ∧
    (countSample u s).buffers = s.buffers ∧ (countSample u s).detached = s.detached ∧
    (countSample u s).trend = s.trend ∧ (countSample u s).resetHeld = s.resetHeld := by
  unfold countSample; split <;> simp

@[simp] theorem flowSample_kept (p : Option (BitVec 32)) (t : BitVec 32) (s : State) :
    (flowSample p t s).pending = s.pending ∧ (flowSample p t s).settings = s.settings ∧
    (flowSample p t s).store = s.store ∧ (flowSample p t s).loop = s.loop ∧ (flowSample p t s).stations = s.stations ∧
    (flowSample p t s).table = s.table ∧ (flowSample p t s).plan = s.plan ∧ (flowSample p t s).resolver = s.resolver ∧
    (flowSample p t s).reg = s.reg ∧ (flowSample p t s).vehicle = s.vehicle ∧ (flowSample p t s).clock = s.clock ∧
    (flowSample p t s).scan = s.scan ∧ (flowSample p t s).record = s.record ∧ (flowSample p t s).scene = s.scene ∧
    (flowSample p t s).blowers = s.blowers ∧ (flowSample p t s).actuators = s.actuators ∧
    (flowSample p t s).buffers = s.buffers ∧ (flowSample p t s).detached = s.detached ∧
    (flowSample p t s).trend = s.trend ∧
    (flowSample p t s).resetHeld = s.resetHeld := by
  unfold flowSample; split
  · split <;> simp
  · simp

/-- A purge event keeps what the Purge Controller's own step keeps, the plan and what takes it apart. -/
@[simp] theorem purgeEvent_kept (f : State → State) (s : State) :
    (purgeEvent f s).pending = (f s).pending ∧ (purgeEvent f s).settings = (f s).settings ∧
    (purgeEvent f s).store = (f s).store ∧ (purgeEvent f s).loop = (f s).loop ∧
    (purgeEvent f s).stations = (f s).stations ∧ (purgeEvent f s).table = (f s).table ∧
    (purgeEvent f s).purge = (f s).purge ∧ (purgeEvent f s).vehicle = (f s).vehicle ∧
    (purgeEvent f s).clock = (f s).clock ∧ (purgeEvent f s).scan = (f s).scan ∧
    (purgeEvent f s).record = (f s).record ∧ (purgeEvent f s).scene = (f s).scene ∧
    (purgeEvent f s).buffers = (f s).buffers ∧ (purgeEvent f s).detached = (f s).detached ∧
    (purgeEvent f s).trend = (f s).trend ∧ (purgeEvent f s).resetHeld = (f s).resetHeld := by
  unfold purgeEvent; split <;> simp

end Sys2Proof.Machine
end

