-- ==== Sys2Proof/Laws/FramesRequests.lean ====
section
/-! SUPPORT. Frames: what each operation of the vehicle, of supervision and of the requests keeps. -/

namespace Sys2Proof.Machine

open Sys2Proof

@[simp] theorem putVehicle_kept (v : Vehicle) (s : State) :
    (putVehicle v s).pending = s.pending ∧ (putVehicle v s).settings = s.settings ∧ (putVehicle v s).store = s.store ∧
    (putVehicle v s).loop = s.loop ∧ (putVehicle v s).stations = s.stations ∧ (putVehicle v s).table = s.table ∧
    (putVehicle v s).plan = s.plan ∧ (putVehicle v s).resolver = s.resolver ∧ (putVehicle v s).reg = s.reg ∧
    (putVehicle v s).purge = s.purge ∧ (putVehicle v s).clock = s.clock ∧ (putVehicle v s).scan = s.scan ∧
    (putVehicle v s).record = s.record ∧ (putVehicle v s).scene = s.scene ∧ (putVehicle v s).blowers = s.blowers ∧
    (putVehicle v s).actuators = s.actuators ∧ (putVehicle v s).buffers = s.buffers ∧
    (putVehicle v s).detached = s.detached ∧ (putVehicle v s).trend = s.trend ∧
    (putVehicle v s).resetHeld = s.resetHeld := by
  unfold putVehicle; simp

@[simp] theorem handDoors_kept (s : State) :
    (handDoors s).pending = s.pending ∧ (handDoors s).settings = s.settings ∧ (handDoors s).store = s.store ∧
    (handDoors s).loop = s.loop ∧ (handDoors s).stations = s.stations ∧ (handDoors s).table = s.table ∧
    (handDoors s).plan = s.plan ∧ (handDoors s).resolver = s.resolver ∧ (handDoors s).purge = s.purge ∧
    (handDoors s).vehicle = s.vehicle ∧ (handDoors s).clock = s.clock ∧ (handDoors s).scan = s.scan ∧
    (handDoors s).record = s.record ∧ (handDoors s).scene = s.scene ∧ (handDoors s).actuators = s.actuators ∧
    (handDoors s).buffers = s.buffers ∧ (handDoors s).detached = s.detached ∧ (handDoors s).trend = s.trend ∧
    (handDoors s).resetHeld = s.resetHeld := by
  unfold handDoors; simp

@[simp] theorem tickDoors_kept (s : State) :
    (tickDoors s).pending = s.pending ∧ (tickDoors s).settings = s.settings ∧ (tickDoors s).store = s.store ∧
    (tickDoors s).loop = s.loop ∧ (tickDoors s).stations = s.stations ∧ (tickDoors s).table = s.table ∧
    (tickDoors s).plan = s.plan ∧ (tickDoors s).resolver = s.resolver ∧ (tickDoors s).reg = s.reg ∧
    (tickDoors s).purge = s.purge ∧ (tickDoors s).clock = s.clock ∧ (tickDoors s).scan = s.scan ∧
    (tickDoors s).record = s.record ∧ (tickDoors s).scene = s.scene ∧ (tickDoors s).conditions = s.conditions ∧
    (tickDoors s).alert = s.alert ∧ (tickDoors s).blowers = s.blowers ∧ (tickDoors s).actuators = s.actuators ∧
    (tickDoors s).buffers = s.buffers ∧ (tickDoors s).marks = s.marks ∧ (tickDoors s).detached = s.detached ∧
    (tickDoors s).trend = s.trend ∧ (tickDoors s).resetHeld = s.resetHeld := by
  unfold tickDoors; simp

@[simp] theorem handPurge_kept (d : PerDoor Bool) (crew : Bool) (s : State) :
    (handPurge d crew s).pending = s.pending ∧ (handPurge d crew s).settings = s.settings ∧
    (handPurge d crew s).store = s.store ∧ (handPurge d crew s).loop = s.loop ∧
    (handPurge d crew s).stations = s.stations ∧ (handPurge d crew s).table = s.table ∧
    (handPurge d crew s).vehicle = s.vehicle ∧ (handPurge d crew s).clock = s.clock ∧
    (handPurge d crew s).scan = s.scan ∧ (handPurge d crew s).record = s.record ∧
    (handPurge d crew s).scene = s.scene ∧ (handPurge d crew s).buffers = s.buffers ∧
    (handPurge d crew s).detached = s.detached ∧ (handPurge d crew s).trend = s.trend ∧
    (handPurge d crew s).resetHeld = s.resetHeld := by
  unfold handPurge; cases crew <;> simp

@[simp] theorem handOnVehicle_kept (turn : Turn) (trigger crew : Bool) (v : Vehicle) (s : State) :
    (handOnVehicle turn trigger crew v s).pending = s.pending ∧
    (handOnVehicle turn trigger crew v s).settings = s.settings ∧
    (handOnVehicle turn trigger crew v s).store = s.store ∧ (handOnVehicle turn trigger crew v s).loop = s.loop ∧
    (handOnVehicle turn trigger crew v s).stations = s.stations ∧
    (handOnVehicle turn trigger crew v s).table = s.table ∧ (handOnVehicle turn trigger crew v s).clock = s.clock ∧
    (handOnVehicle turn trigger crew v s).scan = s.scan ∧ (handOnVehicle turn trigger crew v s).record = s.record ∧
    (handOnVehicle turn trigger crew v s).scene = s.scene ∧ (handOnVehicle turn trigger crew v s).buffers = s.buffers ∧
    (handOnVehicle turn trigger crew v s).detached = s.detached ∧
    (handOnVehicle turn trigger crew v s).trend = s.trend ∧
    (handOnVehicle turn trigger crew v s).resetHeld = s.resetHeld := by
  unfold handOnVehicle; split
  · simp
  · cases turn <;> simp [shareEvent]

@[simp] theorem settleVehicle_kept (turn : Turn) (trigger : Bool) (b s : State) :
    (settleVehicle turn trigger b s).pending = s.pending ∧ (settleVehicle turn trigger b s).settings = s.settings ∧
    (settleVehicle turn trigger b s).store = s.store ∧ (settleVehicle turn trigger b s).loop = s.loop ∧
    (settleVehicle turn trigger b s).stations = s.stations ∧ (settleVehicle turn trigger b s).table = s.table ∧
    (settleVehicle turn trigger b s).clock = s.clock ∧ (settleVehicle turn trigger b s).scan = s.scan ∧
    (settleVehicle turn trigger b s).record = s.record ∧ (settleVehicle turn trigger b s).scene = s.scene ∧
    (settleVehicle turn trigger b s).buffers = s.buffers ∧ (settleVehicle turn trigger b s).detached = s.detached ∧
    (settleVehicle turn trigger b s).trend = s.trend ∧ (settleVehicle turn trigger b s).resetHeld = s.resetHeld := by
  unfold settleVehicle; split <;> simp

@[simp] theorem takeReport_kept (fields doors : Word) (turn : Turn) (trigger : Bool) (s : State) :
    (takeReport fields doors turn trigger s).pending = s.pending ∧
    (takeReport fields doors turn trigger s).settings = s.settings ∧
    (takeReport fields doors turn trigger s).store = s.store ∧ (takeReport fields doors turn trigger s).loop = s.loop ∧
    (takeReport fields doors turn trigger s).stations = s.stations ∧
    (takeReport fields doors turn trigger s).table = s.table ∧
    (takeReport fields doors turn trigger s).clock = s.clock ∧ (takeReport fields doors turn trigger s).scan = s.scan ∧
    (takeReport fields doors turn trigger s).record = s.record ∧
    (takeReport fields doors turn trigger s).scene = s.scene ∧
    (takeReport fields doors turn trigger s).buffers = s.buffers ∧
    (takeReport fields doors turn trigger s).detached = s.detached ∧
    (takeReport fields doors turn trigger s).trend = s.trend ∧
    (takeReport fields doors turn trigger s).resetHeld = s.resetHeld := by
  unfold takeReport; simp

@[simp] theorem refresh_kept (n : Station) (s : State) :
    (refresh n s).pending = s.pending ∧ (refresh n s).settings = s.settings ∧ (refresh n s).store = s.store ∧
    (refresh n s).loop = s.loop ∧ (refresh n s).plan = s.plan ∧ (refresh n s).resolver = s.resolver ∧
    (refresh n s).reg = s.reg ∧ (refresh n s).purge = s.purge ∧ (refresh n s).vehicle = s.vehicle ∧
    (refresh n s).clock = s.clock ∧ (refresh n s).scan = s.scan ∧ (refresh n s).record = s.record ∧
    (refresh n s).scene = s.scene ∧ (refresh n s).conditions = s.conditions ∧ (refresh n s).alert = s.alert ∧
    (refresh n s).blowers = s.blowers ∧ (refresh n s).actuators = s.actuators ∧ (refresh n s).buffers = s.buffers ∧
    (refresh n s).detached = s.detached ∧ (refresh n s).trend = s.trend ∧ (refresh n s).resetHeld = s.resetHeld := by
  unfold refresh; split <;> simp

@[simp] theorem arrive_kept (n : Station) (s : State) :
    (arrive n s).pending = s.pending ∧ (arrive n s).settings = s.settings ∧ (arrive n s).store = s.store ∧
    (arrive n s).loop = s.loop ∧ (arrive n s).clock = s.clock ∧ (arrive n s).scan = s.scan ∧
    (arrive n s).record = s.record ∧ (arrive n s).scene = s.scene ∧ (arrive n s).buffers = s.buffers ∧
    (arrive n s).detached = s.detached ∧ (arrive n s).trend = s.trend ∧ (arrive n s).resetHeld = s.resetHeld := by
  unfold arrive; simp

@[simp] theorem enterQuiet_kept (n : Station) (s : State) :
    (enterQuiet n s).pending = s.pending ∧ (enterQuiet n s).settings = s.settings ∧ (enterQuiet n s).store = s.store ∧
    (enterQuiet n s).loop = s.loop ∧ (enterQuiet n s).plan = s.plan ∧ (enterQuiet n s).resolver = s.resolver ∧
    (enterQuiet n s).reg = s.reg ∧ (enterQuiet n s).purge = s.purge ∧ (enterQuiet n s).vehicle = s.vehicle ∧
    (enterQuiet n s).clock = s.clock ∧ (enterQuiet n s).scan = s.scan ∧ (enterQuiet n s).record = s.record ∧
    (enterQuiet n s).scene = s.scene ∧ (enterQuiet n s).conditions = s.conditions ∧ (enterQuiet n s).alert = s.alert ∧
    (enterQuiet n s).blowers = s.blowers ∧ (enterQuiet n s).actuators = s.actuators ∧
    (enterQuiet n s).buffers = s.buffers ∧ (enterQuiet n s).marks = s.marks ∧ (enterQuiet n s).detached = s.detached ∧
    (enterQuiet n s).trend = s.trend ∧ (enterQuiet n s).resetHeld = s.resetHeld := by
  unfold enterQuiet; simp

@[simp] theorem dropStation_kept (n : Station) (s : State) :
    (dropStation n s).pending = s.pending ∧ (dropStation n s).settings = s.settings ∧
    (dropStation n s).store = s.store ∧ (dropStation n s).stations = s.stations ∧ (dropStation n s).plan = s.plan ∧
    (dropStation n s).resolver = s.resolver ∧ (dropStation n s).reg = s.reg ∧ (dropStation n s).purge = s.purge ∧
    (dropStation n s).vehicle = s.vehicle ∧ (dropStation n s).clock = s.clock ∧ (dropStation n s).scan = s.scan ∧
    (dropStation n s).record = s.record ∧ (dropStation n s).scene = s.scene ∧
    (dropStation n s).conditions = s.conditions ∧ (dropStation n s).alert = s.alert ∧
    (dropStation n s).blowers = s.blowers ∧ (dropStation n s).actuators = s.actuators ∧
    (dropStation n s).marks = s.marks ∧ (dropStation n s).detached = s.detached ∧
    (dropStation n s).resetHeld = s.resetHeld := by
  unfold dropStation; simp

@[simp] theorem enterLost_kept (n : Station) (s : State) :
    (enterLost n s).pending = s.pending ∧ (enterLost n s).settings = s.settings ∧ (enterLost n s).store = s.store ∧
    (enterLost n s).plan = s.plan ∧ (enterLost n s).resolver = s.resolver ∧ (enterLost n s).reg = s.reg ∧
    (enterLost n s).purge = s.purge ∧ (enterLost n s).vehicle = s.vehicle ∧ (enterLost n s).clock = s.clock ∧
    (enterLost n s).scan = s.scan ∧ (enterLost n s).record = s.record ∧ (enterLost n s).scene = s.scene ∧
    (enterLost n s).conditions = s.conditions ∧ (enterLost n s).alert = s.alert ∧ (enterLost n s).blowers = s.blowers ∧
    (enterLost n s).actuators = s.actuators ∧ (enterLost n s).marks = s.marks ∧ (enterLost n s).detached = s.detached ∧
    (enterLost n s).resetHeld = s.resetHeld := by
  unfold enterLost; simp

@[simp] theorem quietStep_kept (n : Station) (s : State) :
    (quietStep n s).pending = s.pending ∧ (quietStep n s).settings = s.settings ∧ (quietStep n s).store = s.store ∧
    (quietStep n s).loop = s.loop ∧ (quietStep n s).plan = s.plan ∧ (quietStep n s).resolver = s.resolver ∧
    (quietStep n s).reg = s.reg ∧ (quietStep n s).purge = s.purge ∧ (quietStep n s).vehicle = s.vehicle ∧
    (quietStep n s).clock = s.clock ∧ (quietStep n s).scan = s.scan ∧ (quietStep n s).record = s.record ∧
    (quietStep n s).scene = s.scene ∧ (quietStep n s).conditions = s.conditions ∧ (quietStep n s).alert = s.alert ∧
    (quietStep n s).blowers = s.blowers ∧ (quietStep n s).actuators = s.actuators ∧
    (quietStep n s).buffers = s.buffers ∧ (quietStep n s).marks = s.marks ∧ (quietStep n s).detached = s.detached ∧
    (quietStep n s).trend = s.trend ∧ (quietStep n s).resetHeld = s.resetHeld := by
  unfold quietStep; split <;> simp

@[simp] theorem lostStep_kept (n : Station) (s : State) :
    (lostStep n s).pending = s.pending ∧ (lostStep n s).settings = s.settings ∧ (lostStep n s).store = s.store ∧
    (lostStep n s).plan = s.plan ∧ (lostStep n s).resolver = s.resolver ∧ (lostStep n s).reg = s.reg ∧
    (lostStep n s).purge = s.purge ∧ (lostStep n s).vehicle = s.vehicle ∧ (lostStep n s).clock = s.clock ∧
    (lostStep n s).scan = s.scan ∧ (lostStep n s).record = s.record ∧ (lostStep n s).scene = s.scene ∧
    (lostStep n s).conditions = s.conditions ∧ (lostStep n s).alert = s.alert ∧ (lostStep n s).blowers = s.blowers ∧
    (lostStep n s).actuators = s.actuators ∧ (lostStep n s).marks = s.marks ∧ (lostStep n s).detached = s.detached ∧
    (lostStep n s).resetHeld = s.resetHeld := by
  unfold lostStep; split <;> simp

@[simp] theorem quietOne_kept (turn : Turn) (s : State) (n : Station) :
    (quietOne turn s n).pending = s.pending ∧ (quietOne turn s n).settings = s.settings ∧
    (quietOne turn s n).store = s.store ∧ (quietOne turn s n).clock = s.clock ∧
    (quietOne turn s n).scan = s.scan ∧ (quietOne turn s n).record = s.record ∧
    (quietOne turn s n).scene = s.scene ∧ (quietOne turn s n).detached = s.detached ∧
    (quietOne turn s n).resetHeld = s.resetHeld := by
  unfold quietOne; split <;> simp

@[simp] theorem lostOne_kept (turn : Turn) (s : State) (n : Station) :
    (lostOne turn s n).pending = s.pending ∧ (lostOne turn s n).settings = s.settings ∧
    (lostOne turn s n).store = s.store ∧ (lostOne turn s n).clock = s.clock ∧
    (lostOne turn s n).scan = s.scan ∧ (lostOne turn s n).record = s.record ∧
    (lostOne turn s n).scene = s.scene ∧ (lostOne turn s n).detached = s.detached ∧
    (lostOne turn s n).resetHeld = s.resetHeld := by
  unfold lostOne; simp

@[simp] theorem advanceCounts_kept (s : State) :
    (advanceCounts s).pending = s.pending ∧ (advanceCounts s).settings = s.settings ∧
    (advanceCounts s).store = s.store ∧ (advanceCounts s).loop = s.loop ∧ (advanceCounts s).table = s.table ∧
    (advanceCounts s).plan = s.plan ∧ (advanceCounts s).resolver = s.resolver ∧ (advanceCounts s).reg = s.reg ∧
    (advanceCounts s).purge = s.purge ∧ (advanceCounts s).vehicle = s.vehicle ∧ (advanceCounts s).clock = s.clock ∧
    (advanceCounts s).scan = s.scan ∧ (advanceCounts s).record = s.record ∧ (advanceCounts s).scene = s.scene ∧
    (advanceCounts s).conditions = s.conditions ∧ (advanceCounts s).alert = s.alert ∧
    (advanceCounts s).blowers = s.blowers ∧ (advanceCounts s).actuators = s.actuators ∧
    (advanceCounts s).buffers = s.buffers ∧ (advanceCounts s).marks = s.marks ∧
    (advanceCounts s).detached = s.detached ∧ (advanceCounts s).trend = s.trend ∧
    (advanceCounts s).resetHeld = s.resetHeld := by
  unfold advanceCounts; simp

@[simp] theorem superviseMark_kept (turn : Turn) (s : State) :
    (superviseMark turn s).pending = s.pending ∧ (superviseMark turn s).settings = s.settings ∧
    (superviseMark turn s).store = s.store ∧ (superviseMark turn s).clock = s.clock ∧
    (superviseMark turn s).scan = s.scan ∧ (superviseMark turn s).record = s.record ∧
    (superviseMark turn s).scene = s.scene ∧ (superviseMark turn s).detached = s.detached ∧
    (superviseMark turn s).resetHeld = s.resetHeld := by
  unfold superviseMark
  refine ⟨?_, ?_, ?_, ?_, ?_, ?_, ?_, ?_, ?_⟩ <;>
    exact (foldl_keeps _ _ (by simp) _ _).trans ((foldl_keeps _ _ (by simp) _ _).trans (by simp))

@[simp] theorem setWindow_kept (n : Station) (w : Window) (s : State) :
    (setWindow n w s).pending = s.pending ∧ (setWindow n w s).settings = s.settings ∧
    (setWindow n w s).store = s.store ∧ (setWindow n w s).stations = s.stations ∧ (setWindow n w s).table = s.table ∧
    (setWindow n w s).plan = s.plan ∧ (setWindow n w s).resolver = s.resolver ∧ (setWindow n w s).reg = s.reg ∧
    (setWindow n w s).purge = s.purge ∧ (setWindow n w s).vehicle = s.vehicle ∧ (setWindow n w s).clock = s.clock ∧
    (setWindow n w s).scan = s.scan ∧ (setWindow n w s).record = s.record ∧ (setWindow n w s).scene = s.scene ∧
    (setWindow n w s).conditions = s.conditions ∧ (setWindow n w s).alert = s.alert ∧
    (setWindow n w s).blowers = s.blowers ∧ (setWindow n w s).actuators = s.actuators ∧
    (setWindow n w s).buffers = s.buffers ∧ (setWindow n w s).marks = s.marks ∧
    (setWindow n w s).detached = s.detached ∧ (setWindow n w s).trend = s.trend ∧
    (setWindow n w s).resetHeld = s.resetHeld := by
  unfold setWindow; simp

@[simp] theorem changeTable_kept (t : List Entry) (s : State) :
    (changeTable t s).pending = s.pending ∧ (changeTable t s).settings = s.settings ∧
    (changeTable t s).store = s.store ∧ (changeTable t s).loop = s.loop ∧ (changeTable t s).stations = s.stations ∧
    (changeTable t s).purge = s.purge ∧ (changeTable t s).vehicle = s.vehicle ∧ (changeTable t s).clock = s.clock ∧
    (changeTable t s).scan = s.scan ∧ (changeTable t s).record = s.record ∧ (changeTable t s).scene = s.scene ∧
    (changeTable t s).buffers = s.buffers ∧ (changeTable t s).detached = s.detached ∧
    (changeTable t s).trend = s.trend ∧ (changeTable t s).resetHeld = s.resetHeld := by
  unfold changeTable; simp

@[simp] theorem withdrawKey_kept (n : Station) (k : Key) (s : State) :
    (withdrawKey n k s).pending = s.pending ∧ (withdrawKey n k s).settings = s.settings ∧
    (withdrawKey n k s).store = s.store ∧ (withdrawKey n k s).loop = s.loop ∧
    (withdrawKey n k s).stations = s.stations ∧ (withdrawKey n k s).purge = s.purge ∧
    (withdrawKey n k s).vehicle = s.vehicle ∧ (withdrawKey n k s).clock = s.clock ∧ (withdrawKey n k s).scan = s.scan ∧
    (withdrawKey n k s).record = s.record ∧ (withdrawKey n k s).scene = s.scene ∧
    (withdrawKey n k s).buffers = s.buffers ∧ (withdrawKey n k s).detached = s.detached ∧
    (withdrawKey n k s).trend = s.trend ∧ (withdrawKey n k s).resetHeld = s.resetHeld := by
  unfold withdrawKey; split <;> simp

@[simp] theorem requestPurge_kept (n : Station) (sc : PurgeScope) (s : State) :
    (requestPurge n sc s).pending = s.pending ∧ (requestPurge n sc s).settings = s.settings ∧
    (requestPurge n sc s).store = s.store ∧ (requestPurge n sc s).loop = s.loop ∧
    (requestPurge n sc s).stations = s.stations ∧ (requestPurge n sc s).table = s.table ∧
    (requestPurge n sc s).plan = s.plan ∧ (requestPurge n sc s).resolver = s.resolver ∧
    (requestPurge n sc s).reg = s.reg ∧ (requestPurge n sc s).vehicle = s.vehicle ∧
    (requestPurge n sc s).clock = s.clock ∧ (requestPurge n sc s).scan = s.scan ∧
    (requestPurge n sc s).record = s.record ∧ (requestPurge n sc s).scene = s.scene ∧
    (requestPurge n sc s).blowers = s.blowers ∧ (requestPurge n sc s).actuators = s.actuators ∧
    (requestPurge n sc s).buffers = s.buffers ∧ (requestPurge n sc s).detached = s.detached ∧
    (requestPurge n sc s).trend = s.trend ∧ (requestPurge n sc s).resetHeld = s.resetHeld := by
  unfold requestPurge; split
  · simp
  · split <;> simp

@[simp] theorem applyDemand_kept (n : Station) (d : Demand) (c : AnswerCode) (s : State) :
    ((applyDemand n d c s).state).pending = s.pending ∧ ((applyDemand n d c s).state).settings = s.settings ∧
    ((applyDemand n d c s).state).store = s.store ∧ ((applyDemand n d c s).state).loop = s.loop ∧
    ((applyDemand n d c s).state).stations = s.stations ∧ ((applyDemand n d c s).state).purge = s.purge ∧
    ((applyDemand n d c s).state).vehicle = s.vehicle ∧ ((applyDemand n d c s).state).clock = s.clock ∧
    ((applyDemand n d c s).state).scan = s.scan ∧ ((applyDemand n d c s).state).record = s.record ∧
    ((applyDemand n d c s).state).scene = s.scene ∧ ((applyDemand n d c s).state).buffers = s.buffers ∧
    ((applyDemand n d c s).state).detached = s.detached ∧ ((applyDemand n d c s).state).trend = s.trend ∧
    ((applyDemand n d c s).state).resetHeld = s.resetHeld := by
  unfold applyDemand; split <;> simp [Served.refuse]

@[simp] theorem serveSetpoint_kept (n : Station) (z v : Word) (s : State) :
    ((serveSetpoint n z v s).state).pending = s.pending ∧ ((serveSetpoint n z v s).state).settings = s.settings ∧
    ((serveSetpoint n z v s).state).store = s.store ∧ ((serveSetpoint n z v s).state).loop = s.loop ∧
    ((serveSetpoint n z v s).state).stations = s.stations ∧ ((serveSetpoint n z v s).state).purge = s.purge ∧
    ((serveSetpoint n z v s).state).vehicle = s.vehicle ∧ ((serveSetpoint n z v s).state).clock = s.clock ∧
    ((serveSetpoint n z v s).state).scan = s.scan ∧ ((serveSetpoint n z v s).state).record = s.record ∧
    ((serveSetpoint n z v s).state).scene = s.scene ∧ ((serveSetpoint n z v s).state).buffers = s.buffers ∧
    ((serveSetpoint n z v s).state).detached = s.detached ∧ ((serveSetpoint n z v s).state).trend = s.trend ∧
    ((serveSetpoint n z v s).state).resetHeld = s.resetHeld := by
  unfold serveSetpoint; split
  · simp [Served.refuse]
  · split <;> simp [Served.refuse]

@[simp] theorem serveFan_kept (n : Station) (z v : Word) (s : State) :
    ((serveFan n z v s).state).pending = s.pending ∧ ((serveFan n z v s).state).settings = s.settings ∧
    ((serveFan n z v s).state).store = s.store ∧ ((serveFan n z v s).state).loop = s.loop ∧
    ((serveFan n z v s).state).stations = s.stations ∧ ((serveFan n z v s).state).purge = s.purge ∧
    ((serveFan n z v s).state).vehicle = s.vehicle ∧ ((serveFan n z v s).state).clock = s.clock ∧
    ((serveFan n z v s).state).scan = s.scan ∧ ((serveFan n z v s).state).record = s.record ∧
    ((serveFan n z v s).state).scene = s.scene ∧ ((serveFan n z v s).state).buffers = s.buffers ∧
    ((serveFan n z v s).state).detached = s.detached ∧ ((serveFan n z v s).state).trend = s.trend ∧
    ((serveFan n z v s).state).resetHeld = s.resetHeld := by
  unfold serveFan; split
  · simp [Served.refuse]
  · split <;> simp [Served.refuse]

@[simp] theorem serveMode_kept (n : Station) (m : Word) (s : State) :
    ((serveMode n m s).state).pending = s.pending ∧ ((serveMode n m s).state).settings = s.settings ∧
    ((serveMode n m s).state).store = s.store ∧ ((serveMode n m s).state).loop = s.loop ∧
    ((serveMode n m s).state).stations = s.stations ∧ ((serveMode n m s).state).purge = s.purge ∧
    ((serveMode n m s).state).vehicle = s.vehicle ∧ ((serveMode n m s).state).clock = s.clock ∧
    ((serveMode n m s).state).scan = s.scan ∧ ((serveMode n m s).state).record = s.record ∧
    ((serveMode n m s).state).scene = s.scene ∧ ((serveMode n m s).state).buffers = s.buffers ∧
    ((serveMode n m s).state).detached = s.detached ∧ ((serveMode n m s).state).trend = s.trend ∧
    ((serveMode n m s).state).resetHeld = s.resetHeld := by
  unfold serveMode; split <;> simp [Served.refuse]

@[simp] theorem serveWithdrawKey_kept (n : Station) (k : Key) (s : State) :
    ((serveWithdrawKey n k s).state).pending = s.pending ∧ ((serveWithdrawKey n k s).state).settings = s.settings ∧
    ((serveWithdrawKey n k s).state).store = s.store ∧ ((serveWithdrawKey n k s).state).loop = s.loop ∧
    ((serveWithdrawKey n k s).state).stations = s.stations ∧ ((serveWithdrawKey n k s).state).purge = s.purge ∧
    ((serveWithdrawKey n k s).state).vehicle = s.vehicle ∧ ((serveWithdrawKey n k s).state).clock = s.clock ∧
    ((serveWithdrawKey n k s).state).scan = s.scan ∧ ((serveWithdrawKey n k s).state).record = s.record ∧
    ((serveWithdrawKey n k s).state).scene = s.scene ∧ ((serveWithdrawKey n k s).state).buffers = s.buffers ∧
    ((serveWithdrawKey n k s).state).detached = s.detached ∧ ((serveWithdrawKey n k s).state).trend = s.trend ∧
    ((serveWithdrawKey n k s).state).resetHeld = s.resetHeld := by
  unfold serveWithdrawKey; simp

@[simp] theorem serveWithdraw_kept (n : Station) (k z : Word) (s : State) :
    ((serveWithdraw n k z s).state).pending = s.pending ∧ ((serveWithdraw n k z s).state).settings = s.settings ∧
    ((serveWithdraw n k z s).state).store = s.store ∧ ((serveWithdraw n k z s).state).loop = s.loop ∧
    ((serveWithdraw n k z s).state).stations = s.stations ∧ ((serveWithdraw n k z s).state).purge = s.purge ∧
    ((serveWithdraw n k z s).state).vehicle = s.vehicle ∧ ((serveWithdraw n k z s).state).clock = s.clock ∧
    ((serveWithdraw n k z s).state).scan = s.scan ∧ ((serveWithdraw n k z s).state).record = s.record ∧
    ((serveWithdraw n k z s).state).scene = s.scene ∧ ((serveWithdraw n k z s).state).buffers = s.buffers ∧
    ((serveWithdraw n k z s).state).detached = s.detached ∧ ((serveWithdraw n k z s).state).trend = s.trend ∧
    ((serveWithdraw n k z s).state).resetHeld = s.resetHeld := by
  unfold serveWithdraw; split <;> simp [Served.refuse]

@[simp] theorem serveShelter_kept (n : Station) (c : Word) (s : State) :
    ((serveShelter n c s).state).pending = s.pending ∧ ((serveShelter n c s).state).settings = s.settings ∧
    ((serveShelter n c s).state).store = s.store ∧ ((serveShelter n c s).state).loop = s.loop ∧
    ((serveShelter n c s).state).stations = s.stations ∧ ((serveShelter n c s).state).purge = s.purge ∧
    ((serveShelter n c s).state).vehicle = s.vehicle ∧ ((serveShelter n c s).state).clock = s.clock ∧
    ((serveShelter n c s).state).scan = s.scan ∧ ((serveShelter n c s).state).record = s.record ∧
    ((serveShelter n c s).state).scene = s.scene ∧ ((serveShelter n c s).state).buffers = s.buffers ∧
    ((serveShelter n c s).state).detached = s.detached ∧ ((serveShelter n c s).state).trend = s.trend ∧
    ((serveShelter n c s).state).resetHeld = s.resetHeld := by
  unfold serveShelter; split <;> simp [Served.refuse]

@[simp] theorem serveWithdrawAll_kept (n : Station) (s : State) :
    ((serveWithdrawAll n s).state).pending = s.pending ∧ ((serveWithdrawAll n s).state).settings = s.settings ∧
    ((serveWithdrawAll n s).state).store = s.store ∧ ((serveWithdrawAll n s).state).loop = s.loop ∧
    ((serveWithdrawAll n s).state).stations = s.stations ∧ ((serveWithdrawAll n s).state).purge = s.purge ∧
    ((serveWithdrawAll n s).state).vehicle = s.vehicle ∧ ((serveWithdrawAll n s).state).clock = s.clock ∧
    ((serveWithdrawAll n s).state).scan = s.scan ∧ ((serveWithdrawAll n s).state).record = s.record ∧
    ((serveWithdrawAll n s).state).scene = s.scene ∧ ((serveWithdrawAll n s).state).buffers = s.buffers ∧
    ((serveWithdrawAll n s).state).detached = s.detached ∧ ((serveWithdrawAll n s).state).trend = s.trend ∧
    ((serveWithdrawAll n s).state).resetHeld = s.resetHeld := by
  unfold serveWithdrawAll; simp

@[simp] theorem serveRelease_kept (n : Station) (s : State) :
    ((serveRelease n s).state).pending = s.pending ∧ ((serveRelease n s).state).settings = s.settings ∧
    ((serveRelease n s).state).store = s.store ∧ ((serveRelease n s).state).loop = s.loop ∧
    ((serveRelease n s).state).stations = s.stations ∧ ((serveRelease n s).state).purge = s.purge ∧
    ((serveRelease n s).state).vehicle = s.vehicle ∧ ((serveRelease n s).state).clock = s.clock ∧
    ((serveRelease n s).state).scan = s.scan ∧ ((serveRelease n s).state).record = s.record ∧
    ((serveRelease n s).state).scene = s.scene ∧ ((serveRelease n s).state).buffers = s.buffers ∧
    ((serveRelease n s).state).detached = s.detached ∧ ((serveRelease n s).state).trend = s.trend ∧
    ((serveRelease n s).state).resetHeld = s.resetHeld := by
  unfold serveRelease; split <;> simp [Served.refuse]

@[simp] theorem servePurge_kept (n : Station) (c : Word) (s : State) :
    ((servePurge n c s).state).pending = s.pending ∧ ((servePurge n c s).state).settings = s.settings ∧
    ((servePurge n c s).state).store = s.store ∧ ((servePurge n c s).state).loop = s.loop ∧
    ((servePurge n c s).state).stations = s.stations ∧ ((servePurge n c s).state).table = s.table ∧
    ((servePurge n c s).state).vehicle = s.vehicle ∧ ((servePurge n c s).state).clock = s.clock ∧
    ((servePurge n c s).state).scan = s.scan ∧ ((servePurge n c s).state).record = s.record ∧
    ((servePurge n c s).state).scene = s.scene ∧ ((servePurge n c s).state).buffers = s.buffers ∧
    ((servePurge n c s).state).detached = s.detached ∧ ((servePurge n c s).state).trend = s.trend ∧
    ((servePurge n c s).state).resetHeld = s.resetHeld := by
  unfold servePurge; split
  · simp [Served.refuse]
  · split <;> simp [Served.refuse]

@[simp] theorem serveCancel_kept (n : Station) (s : State) :
    ((serveCancel n s).state).pending = s.pending ∧ ((serveCancel n s).state).settings = s.settings ∧
    ((serveCancel n s).state).store = s.store ∧ ((serveCancel n s).state).loop = s.loop ∧
    ((serveCancel n s).state).stations = s.stations ∧ ((serveCancel n s).state).table = s.table ∧
    ((serveCancel n s).state).vehicle = s.vehicle ∧ ((serveCancel n s).state).clock = s.clock ∧
    ((serveCancel n s).state).scan = s.scan ∧ ((serveCancel n s).state).record = s.record ∧
    ((serveCancel n s).state).scene = s.scene ∧ ((serveCancel n s).state).buffers = s.buffers ∧
    ((serveCancel n s).state).detached = s.detached ∧ ((serveCancel n s).state).trend = s.trend ∧
    ((serveCancel n s).state).resetHeld = s.resetHeld := by
  unfold serveCancel; split
  · simp
  · split <;> simp [Served.refuse]

@[simp] theorem serveReport_kept (n : Station) (fields doors : Word) (turn : Turn) (s : State) :
    (serveReport n fields doors turn s).pending = s.pending ∧
    (serveReport n fields doors turn s).settings = s.settings ∧ (serveReport n fields doors turn s).store = s.store ∧
    (serveReport n fields doors turn s).clock = s.clock ∧ (serveReport n fields doors turn s).scan = s.scan ∧
    (serveReport n fields doors turn s).record = s.record ∧ (serveReport n fields doors turn s).scene = s.scene ∧
    (serveReport n fields doors turn s).buffers = s.buffers ∧
    (serveReport n fields doors turn s).detached = s.detached ∧ (serveReport n fields doors turn s).trend = s.trend ∧
    (serveReport n fields doors turn s).resetHeld = s.resetHeld := by
  unfold serveReport; simp

@[simp] theorem serveRestart_kept (n : Station) (s : State) :
    ((serveRestart n s).state).pending = s.pending ∧ ((serveRestart n s).state).settings = s.settings ∧
    ((serveRestart n s).state).store = s.store ∧ ((serveRestart n s).state).stations = s.stations ∧
    ((serveRestart n s).state).purge = s.purge ∧ ((serveRestart n s).state).vehicle = s.vehicle ∧
    ((serveRestart n s).state).clock = s.clock ∧ ((serveRestart n s).state).scan = s.scan ∧
    ((serveRestart n s).state).record = s.record ∧ ((serveRestart n s).state).scene = s.scene ∧
    ((serveRestart n s).state).resetHeld = s.resetHeld := by
  unfold serveRestart; simp

@[simp] theorem acceptReadout_kept (n : Station) (a c : Nat) (s : State) :
    (acceptReadout n a c s).pending = s.pending ∧ (acceptReadout n a c s).settings = s.settings ∧
    (acceptReadout n a c s).store = s.store ∧ (acceptReadout n a c s).loop = s.loop ∧
    (acceptReadout n a c s).stations = s.stations ∧ (acceptReadout n a c s).table = s.table ∧
    (acceptReadout n a c s).plan = s.plan ∧ (acceptReadout n a c s).resolver = s.resolver ∧
    (acceptReadout n a c s).reg = s.reg ∧ (acceptReadout n a c s).purge = s.purge ∧
    (acceptReadout n a c s).vehicle = s.vehicle ∧ (acceptReadout n a c s).clock = s.clock ∧
    (acceptReadout n a c s).scan = s.scan ∧ (acceptReadout n a c s).record = s.record ∧
    (acceptReadout n a c s).scene = s.scene ∧ (acceptReadout n a c s).conditions = s.conditions ∧
    (acceptReadout n a c s).alert = s.alert ∧ (acceptReadout n a c s).blowers = s.blowers ∧
    (acceptReadout n a c s).actuators = s.actuators ∧ (acceptReadout n a c s).detached = s.detached ∧
    (acceptReadout n a c s).trend = s.trend ∧ (acceptReadout n a c s).resetHeld = s.resetHeld := by
  unfold acceptReadout; simp

@[simp] theorem serveReadout_kept (n : Station) (a c : Word) (s : State) :
    ((serveReadout n a c s).state).pending = s.pending ∧ ((serveReadout n a c s).state).settings = s.settings ∧
    ((serveReadout n a c s).state).store = s.store ∧ ((serveReadout n a c s).state).loop = s.loop ∧
    ((serveReadout n a c s).state).stations = s.stations ∧ ((serveReadout n a c s).state).table = s.table ∧
    ((serveReadout n a c s).state).plan = s.plan ∧ ((serveReadout n a c s).state).resolver = s.resolver ∧
    ((serveReadout n a c s).state).reg = s.reg ∧ ((serveReadout n a c s).state).purge = s.purge ∧
    ((serveReadout n a c s).state).vehicle = s.vehicle ∧ ((serveReadout n a c s).state).clock = s.clock ∧
    ((serveReadout n a c s).state).scan = s.scan ∧ ((serveReadout n a c s).state).record = s.record ∧
    ((serveReadout n a c s).state).scene = s.scene ∧ ((serveReadout n a c s).state).conditions = s.conditions ∧
    ((serveReadout n a c s).state).alert = s.alert ∧ ((serveReadout n a c s).state).blowers = s.blowers ∧
    ((serveReadout n a c s).state).actuators = s.actuators ∧ ((serveReadout n a c s).state).detached = s.detached ∧
    ((serveReadout n a c s).state).trend = s.trend ∧ ((serveReadout n a c s).state).resetHeld = s.resetHeld := by
  unfold serveReadout; split
  · simp [Served.refuse]
  · split <;> simp [Served.refuse]

@[simp] theorem grantStream_kept (n : Station) (m : Word) (d : Nat) (s : State) :
    (grantStream n m d s).pending = s.pending ∧ (grantStream n m d s).settings = s.settings ∧
    (grantStream n m d s).store = s.store ∧ (grantStream n m d s).stations = s.stations ∧
    (grantStream n m d s).table = s.table ∧ (grantStream n m d s).plan = s.plan ∧
    (grantStream n m d s).resolver = s.resolver ∧ (grantStream n m d s).reg = s.reg ∧
    (grantStream n m d s).purge = s.purge ∧ (grantStream n m d s).vehicle = s.vehicle ∧
    (grantStream n m d s).clock = s.clock ∧ (grantStream n m d s).scan = s.scan ∧
    (grantStream n m d s).record = s.record ∧ (grantStream n m d s).scene = s.scene ∧
    (grantStream n m d s).conditions = s.conditions ∧ (grantStream n m d s).alert = s.alert ∧
    (grantStream n m d s).blowers = s.blowers ∧ (grantStream n m d s).actuators = s.actuators ∧
    (grantStream n m d s).buffers = s.buffers ∧ (grantStream n m d s).marks = s.marks ∧
    (grantStream n m d s).detached = s.detached ∧ (grantStream n m d s).resetHeld = s.resetHeld := by
  unfold grantStream; simp

@[simp] theorem detachHolder_kept (n : Station) (s : State) :
    (detachHolder n s).pending = s.pending ∧ (detachHolder n s).settings = s.settings ∧
    (detachHolder n s).store = s.store ∧ (detachHolder n s).loop = s.loop ∧ (detachHolder n s).stations = s.stations ∧
    (detachHolder n s).table = s.table ∧ (detachHolder n s).plan = s.plan ∧ (detachHolder n s).resolver = s.resolver ∧
    (detachHolder n s).reg = s.reg ∧ (detachHolder n s).purge = s.purge ∧ (detachHolder n s).vehicle = s.vehicle ∧
    (detachHolder n s).clock = s.clock ∧ (detachHolder n s).scan = s.scan ∧ (detachHolder n s).record = s.record ∧
    (detachHolder n s).scene = s.scene ∧ (detachHolder n s).conditions = s.conditions ∧
    (detachHolder n s).alert = s.alert ∧ (detachHolder n s).blowers = s.blowers ∧
    (detachHolder n s).actuators = s.actuators ∧ (detachHolder n s).buffers = s.buffers ∧
    (detachHolder n s).marks = s.marks ∧ (detachHolder n s).trend = s.trend ∧
    (detachHolder n s).resetHeld = s.resetHeld := by
  unfold detachHolder; split
  · simp
  · split <;> simp

@[simp] theorem joinStream_kept (n : Station) (m d : Word) (s : State) :
    ((joinStream n m d s).state).pending = s.pending ∧ ((joinStream n m d s).state).settings = s.settings ∧
    ((joinStream n m d s).state).store = s.store ∧ ((joinStream n m d s).state).stations = s.stations ∧
    ((joinStream n m d s).state).table = s.table ∧ ((joinStream n m d s).state).plan = s.plan ∧
    ((joinStream n m d s).state).resolver = s.resolver ∧ ((joinStream n m d s).state).reg = s.reg ∧
    ((joinStream n m d s).state).purge = s.purge ∧ ((joinStream n m d s).state).vehicle = s.vehicle ∧
    ((joinStream n m d s).state).clock = s.clock ∧ ((joinStream n m d s).state).scan = s.scan ∧
    ((joinStream n m d s).state).record = s.record ∧ ((joinStream n m d s).state).scene = s.scene ∧
    ((joinStream n m d s).state).conditions = s.conditions ∧ ((joinStream n m d s).state).alert = s.alert ∧
    ((joinStream n m d s).state).blowers = s.blowers ∧ ((joinStream n m d s).state).actuators = s.actuators ∧
    ((joinStream n m d s).state).buffers = s.buffers ∧ ((joinStream n m d s).state).marks = s.marks ∧
    ((joinStream n m d s).state).resetHeld = s.resetHeld := by
  unfold joinStream; split
  · simp [Served.refuse]
  · split <;> simp [Served.refuse]

@[simp] theorem serveJoin_kept (n : Station) (m d : Word) (s : State) :
    ((serveJoin n m d s).state).pending = s.pending ∧ ((serveJoin n m d s).state).settings = s.settings ∧
    ((serveJoin n m d s).state).store = s.store ∧ ((serveJoin n m d s).state).stations = s.stations ∧
    ((serveJoin n m d s).state).table = s.table ∧ ((serveJoin n m d s).state).plan = s.plan ∧
    ((serveJoin n m d s).state).resolver = s.resolver ∧ ((serveJoin n m d s).state).reg = s.reg ∧
    ((serveJoin n m d s).state).purge = s.purge ∧ ((serveJoin n m d s).state).vehicle = s.vehicle ∧
    ((serveJoin n m d s).state).clock = s.clock ∧ ((serveJoin n m d s).state).scan = s.scan ∧
    ((serveJoin n m d s).state).record = s.record ∧ ((serveJoin n m d s).state).scene = s.scene ∧
    ((serveJoin n m d s).state).conditions = s.conditions ∧ ((serveJoin n m d s).state).alert = s.alert ∧
    ((serveJoin n m d s).state).blowers = s.blowers ∧ ((serveJoin n m d s).state).actuators = s.actuators ∧
    ((serveJoin n m d s).state).buffers = s.buffers ∧ ((serveJoin n m d s).state).marks = s.marks ∧
    ((serveJoin n m d s).state).resetHeld = s.resetHeld := by
  unfold serveJoin; simp

@[simp] theorem serveLeave_kept (n : Station) (s : State) :
    ((serveLeave n s).state).pending = s.pending ∧ ((serveLeave n s).state).settings = s.settings ∧
    ((serveLeave n s).state).store = s.store ∧ ((serveLeave n s).state).stations = s.stations ∧
    ((serveLeave n s).state).table = s.table ∧ ((serveLeave n s).state).plan = s.plan ∧
    ((serveLeave n s).state).resolver = s.resolver ∧ ((serveLeave n s).state).reg = s.reg ∧
    ((serveLeave n s).state).purge = s.purge ∧ ((serveLeave n s).state).vehicle = s.vehicle ∧
    ((serveLeave n s).state).clock = s.clock ∧ ((serveLeave n s).state).scan = s.scan ∧
    ((serveLeave n s).state).record = s.record ∧ ((serveLeave n s).state).scene = s.scene ∧
    ((serveLeave n s).state).conditions = s.conditions ∧ ((serveLeave n s).state).alert = s.alert ∧
    ((serveLeave n s).state).blowers = s.blowers ∧ ((serveLeave n s).state).actuators = s.actuators ∧
    ((serveLeave n s).state).buffers = s.buffers ∧ ((serveLeave n s).state).marks = s.marks ∧
    ((serveLeave n s).state).resetHeld = s.resetHeld := by
  unfold serveLeave; simp

end Sys2Proof.Machine
end

