-- ==== Sys2Proof/Laws/FramesDrives.lean ====
section
/-! SUPPORT. Frames: what each operation of the drives and of the Loop Port keeps. -/

namespace Sys2Proof.Machine

open Sys2Proof

@[simp] theorem updateMotorFault_kept (s : State) :
    (updateMotorFault s).pending = s.pending ∧ (updateMotorFault s).settings = s.settings ∧
    (updateMotorFault s).store = s.store ∧ (updateMotorFault s).loop = s.loop ∧
    (updateMotorFault s).stations = s.stations ∧ (updateMotorFault s).table = s.table ∧
    (updateMotorFault s).plan = s.plan ∧ (updateMotorFault s).resolver = s.resolver ∧
    (updateMotorFault s).reg = s.reg ∧ (updateMotorFault s).purge = s.purge ∧
    (updateMotorFault s).vehicle = s.vehicle ∧ (updateMotorFault s).clock = s.clock ∧
    (updateMotorFault s).scan = s.scan ∧ (updateMotorFault s).record = s.record ∧
    (updateMotorFault s).scene = s.scene ∧ (updateMotorFault s).blowers = s.blowers ∧
    (updateMotorFault s).actuators = s.actuators ∧ (updateMotorFault s).buffers = s.buffers ∧
    (updateMotorFault s).detached = s.detached ∧ (updateMotorFault s).trend = s.trend ∧
    (updateMotorFault s).resetHeld = s.resetHeld := by
  unfold updateMotorFault; simp

@[simp] theorem blowerEvent_kept (bs : PerBlower BlowerState) (s : State) :
    (blowerEvent bs s).pending = s.pending ∧ (blowerEvent bs s).settings = s.settings ∧
    (blowerEvent bs s).store = s.store ∧ (blowerEvent bs s).loop = s.loop ∧ (blowerEvent bs s).stations = s.stations ∧
    (blowerEvent bs s).table = s.table ∧ (blowerEvent bs s).purge = s.purge ∧ (blowerEvent bs s).vehicle = s.vehicle ∧
    (blowerEvent bs s).clock = s.clock ∧ (blowerEvent bs s).scan = s.scan ∧ (blowerEvent bs s).record = s.record ∧
    (blowerEvent bs s).scene = s.scene ∧ (blowerEvent bs s).buffers = s.buffers ∧
    (blowerEvent bs s).detached = s.detached ∧ (blowerEvent bs s).trend = s.trend ∧
    (blowerEvent bs s).resetHeld = s.resetHeld := by
  unfold blowerEvent; simp

@[simp] theorem oneBlower_kept (b : Blower) (r : BlowerState) (s : State) :
    (oneBlower b r s).pending = s.pending ∧ (oneBlower b r s).settings = s.settings ∧
    (oneBlower b r s).store = s.store ∧ (oneBlower b r s).loop = s.loop ∧ (oneBlower b r s).stations = s.stations ∧
    (oneBlower b r s).table = s.table ∧ (oneBlower b r s).purge = s.purge ∧ (oneBlower b r s).vehicle = s.vehicle ∧
    (oneBlower b r s).clock = s.clock ∧ (oneBlower b r s).scan = s.scan ∧ (oneBlower b r s).record = s.record ∧
    (oneBlower b r s).scene = s.scene ∧ (oneBlower b r s).buffers = s.buffers ∧
    (oneBlower b r s).detached = s.detached ∧ (oneBlower b r s).trend = s.trend ∧
    (oneBlower b r s).resetHeld = s.resetHeld := by
  unfold oneBlower; simp

@[simp] theorem markBlowers_kept (s : State) :
    (markBlowers s).pending = s.pending ∧ (markBlowers s).settings = s.settings ∧ (markBlowers s).store = s.store ∧
    (markBlowers s).loop = s.loop ∧ (markBlowers s).stations = s.stations ∧ (markBlowers s).table = s.table ∧
    (markBlowers s).purge = s.purge ∧ (markBlowers s).vehicle = s.vehicle ∧ (markBlowers s).clock = s.clock ∧
    (markBlowers s).scan = s.scan ∧ (markBlowers s).record = s.record ∧ (markBlowers s).scene = s.scene ∧
    (markBlowers s).buffers = s.buffers ∧ (markBlowers s).detached = s.detached ∧ (markBlowers s).trend = s.trend ∧
    (markBlowers s).resetHeld = s.resetHeld := by
  unfold markBlowers; simp

@[simp] theorem shortTrip_kept (b : Blower) (s : State) :
    (shortTrip b s).pending = s.pending ∧ (shortTrip b s).settings = s.settings ∧ (shortTrip b s).store = s.store ∧
    (shortTrip b s).loop = s.loop ∧ (shortTrip b s).stations = s.stations ∧ (shortTrip b s).table = s.table ∧
    (shortTrip b s).purge = s.purge ∧ (shortTrip b s).vehicle = s.vehicle ∧ (shortTrip b s).scan = s.scan ∧
    (shortTrip b s).record = s.record ∧ (shortTrip b s).scene = s.scene ∧ (shortTrip b s).buffers = s.buffers ∧
    (shortTrip b s).detached = s.detached ∧ (shortTrip b s).trend = s.trend ∧
    (shortTrip b s).resetHeld = s.resetHeld := by
  unfold shortTrip; simp

@[simp] theorem changeCurrent_kept (b : Blower) (c : Nat) (s : State) :
    (changeCurrent b c s).pending = s.pending ∧ (changeCurrent b c s).settings = s.settings ∧
    (changeCurrent b c s).store = s.store ∧ (changeCurrent b c s).loop = s.loop ∧
    (changeCurrent b c s).stations = s.stations ∧ (changeCurrent b c s).table = s.table ∧
    (changeCurrent b c s).plan = s.plan ∧ (changeCurrent b c s).resolver = s.resolver ∧
    (changeCurrent b c s).reg = s.reg ∧ (changeCurrent b c s).purge = s.purge ∧
    (changeCurrent b c s).vehicle = s.vehicle ∧ (changeCurrent b c s).clock = s.clock ∧
    (changeCurrent b c s).scan = s.scan ∧ (changeCurrent b c s).record = s.record ∧
    (changeCurrent b c s).scene = s.scene ∧ (changeCurrent b c s).conditions = s.conditions ∧
    (changeCurrent b c s).alert = s.alert ∧ (changeCurrent b c s).actuators = s.actuators ∧
    (changeCurrent b c s).buffers = s.buffers ∧ (changeCurrent b c s).marks = s.marks ∧
    (changeCurrent b c s).detached = s.detached ∧ (changeCurrent b c s).trend = s.trend ∧
    (changeCurrent b c s).resetHeld = s.resetHeld := by
  unfold changeCurrent; simp

@[simp] theorem updateActuatorStuck_kept (s : State) :
    (updateActuatorStuck s).pending = s.pending ∧ (updateActuatorStuck s).settings = s.settings ∧
    (updateActuatorStuck s).store = s.store ∧ (updateActuatorStuck s).loop = s.loop ∧
    (updateActuatorStuck s).stations = s.stations ∧ (updateActuatorStuck s).table = s.table ∧
    (updateActuatorStuck s).plan = s.plan ∧ (updateActuatorStuck s).resolver = s.resolver ∧
    (updateActuatorStuck s).reg = s.reg ∧ (updateActuatorStuck s).purge = s.purge ∧
    (updateActuatorStuck s).vehicle = s.vehicle ∧ (updateActuatorStuck s).clock = s.clock ∧
    (updateActuatorStuck s).scan = s.scan ∧ (updateActuatorStuck s).record = s.record ∧
    (updateActuatorStuck s).scene = s.scene ∧ (updateActuatorStuck s).blowers = s.blowers ∧
    (updateActuatorStuck s).actuators = s.actuators ∧ (updateActuatorStuck s).buffers = s.buffers ∧
    (updateActuatorStuck s).detached = s.detached ∧ (updateActuatorStuck s).trend = s.trend ∧
    (updateActuatorStuck s).resetHeld = s.resetHeld := by
  unfold updateActuatorStuck; simp

@[simp] theorem actuatorEvent_kept (as : PerActuator ActuatorState) (s : State) :
    (actuatorEvent as s).pending = s.pending ∧ (actuatorEvent as s).settings = s.settings ∧
    (actuatorEvent as s).store = s.store ∧ (actuatorEvent as s).loop = s.loop ∧
    (actuatorEvent as s).stations = s.stations ∧ (actuatorEvent as s).table = s.table ∧
    (actuatorEvent as s).purge = s.purge ∧ (actuatorEvent as s).vehicle = s.vehicle ∧
    (actuatorEvent as s).clock = s.clock ∧ (actuatorEvent as s).scan = s.scan ∧
    (actuatorEvent as s).record = s.record ∧ (actuatorEvent as s).scene = s.scene ∧
    (actuatorEvent as s).buffers = s.buffers ∧ (actuatorEvent as s).detached = s.detached ∧
    (actuatorEvent as s).trend = s.trend ∧ (actuatorEvent as s).resetHeld = s.resetHeld := by
  unfold actuatorEvent; simp

@[simp] theorem oneActuator_kept (a : ActuatorId) (r : ActuatorState) (s : State) :
    (oneActuator a r s).pending = s.pending ∧ (oneActuator a r s).settings = s.settings ∧
    (oneActuator a r s).store = s.store ∧ (oneActuator a r s).loop = s.loop ∧
    (oneActuator a r s).stations = s.stations ∧ (oneActuator a r s).table = s.table ∧
    (oneActuator a r s).purge = s.purge ∧ (oneActuator a r s).vehicle = s.vehicle ∧
    (oneActuator a r s).clock = s.clock ∧ (oneActuator a r s).scan = s.scan ∧ (oneActuator a r s).record = s.record ∧
    (oneActuator a r s).scene = s.scene ∧ (oneActuator a r s).buffers = s.buffers ∧
    (oneActuator a r s).detached = s.detached ∧ (oneActuator a r s).trend = s.trend ∧
    (oneActuator a r s).resetHeld = s.resetHeld := by
  unfold oneActuator; simp

@[simp] theorem markActuators_kept (fb : PerActuator Nat) (s : State) :
    (markActuators fb s).pending = s.pending ∧ (markActuators fb s).settings = s.settings ∧
    (markActuators fb s).store = s.store ∧ (markActuators fb s).loop = s.loop ∧
    (markActuators fb s).stations = s.stations ∧ (markActuators fb s).table = s.table ∧
    (markActuators fb s).purge = s.purge ∧ (markActuators fb s).vehicle = s.vehicle ∧
    (markActuators fb s).clock = s.clock ∧ (markActuators fb s).scan = s.scan ∧
    (markActuators fb s).record = s.record ∧ (markActuators fb s).scene = s.scene ∧
    (markActuators fb s).buffers = s.buffers ∧ (markActuators fb s).detached = s.detached ∧
    (markActuators fb s).trend = s.trend ∧ (markActuators fb s).resetHeld = s.resetHeld := by
  unfold markActuators; simp

@[simp] theorem clearMovers_kept (s : State) :
    (clearMovers s).pending = s.pending ∧ (clearMovers s).settings = s.settings ∧ (clearMovers s).store = s.store ∧
    (clearMovers s).loop = s.loop ∧ (clearMovers s).stations = s.stations ∧ (clearMovers s).table = s.table ∧
    (clearMovers s).plan = s.plan ∧ (clearMovers s).resolver = s.resolver ∧ (clearMovers s).reg = s.reg ∧
    (clearMovers s).purge = s.purge ∧ (clearMovers s).vehicle = s.vehicle ∧ (clearMovers s).clock = s.clock ∧
    (clearMovers s).scan = s.scan ∧ (clearMovers s).record = s.record ∧ (clearMovers s).scene = s.scene ∧
    (clearMovers s).conditions = s.conditions ∧ (clearMovers s).alert = s.alert ∧ (clearMovers s).buffers = s.buffers ∧
    (clearMovers s).marks = s.marks ∧ (clearMovers s).detached = s.detached ∧ (clearMovers s).trend = s.trend ∧
    (clearMovers s).resetHeld = s.resetHeld := by
  unfold clearMovers; simp

@[simp] theorem clearLatches_kept (s : State) :
    (clearLatches s).pending = s.pending ∧ (clearLatches s).settings = s.settings ∧ (clearLatches s).store = s.store ∧
    (clearLatches s).loop = s.loop ∧ (clearLatches s).stations = s.stations ∧ (clearLatches s).table = s.table ∧
    (clearLatches s).purge = s.purge ∧ (clearLatches s).vehicle = s.vehicle ∧ (clearLatches s).clock = s.clock ∧
    (clearLatches s).scan = s.scan ∧ (clearLatches s).record = s.record ∧ (clearLatches s).scene = s.scene ∧
    (clearLatches s).buffers = s.buffers ∧ (clearLatches s).detached = s.detached ∧ (clearLatches s).trend = s.trend ∧
    (clearLatches s).resetHeld = s.resetHeld := by
  unfold clearLatches; simp

@[simp] theorem serveClearLatches_kept (n : Station) (s : State) :
    ((serveClearLatches n s).state).pending = s.pending ∧ ((serveClearLatches n s).state).settings = s.settings ∧
    ((serveClearLatches n s).state).store = s.store ∧ ((serveClearLatches n s).state).loop = s.loop ∧
    ((serveClearLatches n s).state).stations = s.stations ∧ ((serveClearLatches n s).state).table = s.table ∧
    ((serveClearLatches n s).state).purge = s.purge ∧ ((serveClearLatches n s).state).vehicle = s.vehicle ∧
    ((serveClearLatches n s).state).clock = s.clock ∧ ((serveClearLatches n s).state).scan = s.scan ∧
    ((serveClearLatches n s).state).record = s.record ∧ ((serveClearLatches n s).state).scene = s.scene ∧
    ((serveClearLatches n s).state).buffers = s.buffers ∧ ((serveClearLatches n s).state).detached = s.detached ∧
    ((serveClearLatches n s).state).trend = s.trend ∧ ((serveClearLatches n s).state).resetHeld = s.resetHeld := by
  unfold serveClearLatches; split <;> simp [Served.refuse]

@[simp] theorem markPurge_kept (s : State) :
    (markPurge s).pending = s.pending ∧ (markPurge s).settings = s.settings ∧ (markPurge s).store = s.store ∧
    (markPurge s).loop = s.loop ∧ (markPurge s).stations = s.stations ∧ (markPurge s).table = s.table ∧
    (markPurge s).vehicle = s.vehicle ∧ (markPurge s).clock = s.clock ∧ (markPurge s).scan = s.scan ∧
    (markPurge s).record = s.record ∧ (markPurge s).scene = s.scene ∧ (markPurge s).buffers = s.buffers ∧
    (markPurge s).detached = s.detached ∧ (markPurge s).trend = s.trend ∧ (markPurge s).resetHeld = s.resetHeld := by
  unfold markPurge; simp

@[simp] theorem openFrame_kept (s : State) :
    (openFrame s).pending = s.pending ∧ (openFrame s).settings = s.settings ∧ (openFrame s).store = s.store ∧
    (openFrame s).stations = s.stations ∧ (openFrame s).table = s.table ∧ (openFrame s).plan = s.plan ∧
    (openFrame s).resolver = s.resolver ∧ (openFrame s).reg = s.reg ∧ (openFrame s).purge = s.purge ∧
    (openFrame s).vehicle = s.vehicle ∧ (openFrame s).clock = s.clock ∧ (openFrame s).scan = s.scan ∧
    (openFrame s).record = s.record ∧ (openFrame s).scene = s.scene ∧ (openFrame s).conditions = s.conditions ∧
    (openFrame s).alert = s.alert ∧ (openFrame s).blowers = s.blowers ∧ (openFrame s).actuators = s.actuators ∧
    (openFrame s).buffers = s.buffers ∧ (openFrame s).marks = s.marks ∧ (openFrame s).detached = s.detached ∧
    (openFrame s).trend = s.trend ∧ (openFrame s).resetHeld = s.resetHeld := by
  unfold openFrame; simp

@[simp] theorem tickFrames_kept (s : State) :
    (tickFrames s).pending = s.pending ∧ (tickFrames s).settings = s.settings ∧ (tickFrames s).store = s.store ∧
    (tickFrames s).loop = s.loop ∧ (tickFrames s).stations = s.stations ∧ (tickFrames s).table = s.table ∧
    (tickFrames s).plan = s.plan ∧ (tickFrames s).resolver = s.resolver ∧ (tickFrames s).purge = s.purge ∧
    (tickFrames s).clock = s.clock ∧ (tickFrames s).scan = s.scan ∧ (tickFrames s).record = s.record ∧
    (tickFrames s).conditions = s.conditions ∧ (tickFrames s).alert = s.alert ∧ (tickFrames s).blowers = s.blowers ∧
    (tickFrames s).actuators = s.actuators ∧ (tickFrames s).buffers = s.buffers ∧ (tickFrames s).marks = s.marks ∧
    (tickFrames s).detached = s.detached ∧ (tickFrames s).trend = s.trend ∧
    (tickFrames s).resetHeld = s.resetHeld := by
  unfold tickFrames; simp

@[simp] theorem markBlock_kept (fb : PerActuator Nat) (turn : Turn) (s : State) (b : MarkBlock) :
    (markBlock fb turn s b).pending = s.pending ∧ (markBlock fb turn s b).settings = s.settings ∧
    (markBlock fb turn s b).store = s.store ∧ (markBlock fb turn s b).clock = s.clock ∧
    (markBlock fb turn s b).scan = s.scan ∧ (markBlock fb turn s b).record = s.record ∧
    (markBlock fb turn s b).scene = s.scene ∧ (markBlock fb turn s b).detached = s.detached ∧
    (markBlock fb turn s b).resetHeld = s.resetHeld := by
  unfold markBlock; cases b <;> simp

@[simp] theorem frameMark_kept (fb : PerActuator Nat) (o : List MarkBlock) (turn : Turn) (s : State) :
    (frameMark fb o turn s).pending = s.pending ∧ (frameMark fb o turn s).settings = s.settings ∧
    (frameMark fb o turn s).store = s.store ∧ (frameMark fb o turn s).clock = s.clock ∧
    (frameMark fb o turn s).scan = s.scan ∧ (frameMark fb o turn s).record = s.record ∧
    (frameMark fb o turn s).detached = s.detached ∧ (frameMark fb o turn s).resetHeld = s.resetHeld := by
  unfold frameMark
  refine ⟨?_, ?_, ?_, ?_, ?_, ?_, ?_, ?_⟩ <;>
    exact (foldl_keeps _ _ (by simp) _ _).trans (by simp)

@[simp] theorem setRuns_kept (m g : Nat) (s : State) :
    (setRuns m g s).pending = s.pending ∧ (setRuns m g s).settings = s.settings ∧ (setRuns m g s).store = s.store ∧
    (setRuns m g s).stations = s.stations ∧ (setRuns m g s).table = s.table ∧ (setRuns m g s).plan = s.plan ∧
    (setRuns m g s).resolver = s.resolver ∧ (setRuns m g s).reg = s.reg ∧ (setRuns m g s).purge = s.purge ∧
    (setRuns m g s).vehicle = s.vehicle ∧ (setRuns m g s).clock = s.clock ∧ (setRuns m g s).scan = s.scan ∧
    (setRuns m g s).record = s.record ∧ (setRuns m g s).scene = s.scene ∧ (setRuns m g s).conditions = s.conditions ∧
    (setRuns m g s).alert = s.alert ∧ (setRuns m g s).blowers = s.blowers ∧ (setRuns m g s).actuators = s.actuators ∧
    (setRuns m g s).buffers = s.buffers ∧ (setRuns m g s).marks = s.marks ∧ (setRuns m g s).detached = s.detached ∧
    (setRuns m g s).trend = s.trend ∧ (setRuns m g s).resetHeld = s.resetHeld := by
  unfold setRuns; simp

@[simp] theorem changeLoopFault_kept (v : Bool) (s : State) :
    (changeLoopFault v s).pending = s.pending ∧ (changeLoopFault v s).settings = s.settings ∧
    (changeLoopFault v s).store = s.store ∧ (changeLoopFault v s).stations = s.stations ∧
    (changeLoopFault v s).table = s.table ∧ (changeLoopFault v s).purge = s.purge ∧
    (changeLoopFault v s).vehicle = s.vehicle ∧ (changeLoopFault v s).clock = s.clock ∧
    (changeLoopFault v s).scan = s.scan ∧ (changeLoopFault v s).record = s.record ∧
    (changeLoopFault v s).scene = s.scene ∧ (changeLoopFault v s).buffers = s.buffers ∧
    (changeLoopFault v s).detached = s.detached ∧ (changeLoopFault v s).trend = s.trend ∧
    (changeLoopFault v s).resetHeld = s.resetHeld := by
  unfold changeLoopFault; simp

@[simp] theorem goodMark_kept (s : State) :
    (goodMark s).pending = s.pending ∧ (goodMark s).settings = s.settings ∧ (goodMark s).store = s.store ∧
    (goodMark s).stations = s.stations ∧ (goodMark s).table = s.table ∧ (goodMark s).purge = s.purge ∧
    (goodMark s).vehicle = s.vehicle ∧ (goodMark s).clock = s.clock ∧ (goodMark s).scan = s.scan ∧
    (goodMark s).record = s.record ∧ (goodMark s).scene = s.scene ∧ (goodMark s).buffers = s.buffers ∧
    (goodMark s).detached = s.detached ∧ (goodMark s).trend = s.trend ∧ (goodMark s).resetHeld = s.resetHeld := by
  unfold goodMark; split
  · split <;> simp
  · simp

@[simp] theorem badMark_kept (s : State) :
    (badMark s).pending = s.pending ∧ (badMark s).settings = s.settings ∧ (badMark s).store = s.store ∧
    (badMark s).stations = s.stations ∧ (badMark s).table = s.table ∧ (badMark s).purge = s.purge ∧
    (badMark s).vehicle = s.vehicle ∧ (badMark s).clock = s.clock ∧ (badMark s).scan = s.scan ∧
    (badMark s).record = s.record ∧ (badMark s).scene = s.scene ∧ (badMark s).buffers = s.buffers ∧
    (badMark s).detached = s.detached ∧ (badMark s).trend = s.trend ∧ (badMark s).resetHeld = s.resetHeld := by
  unfold badMark; split
  · simp
  · split <;> simp

@[simp] theorem frameMarkEnd_kept (h : Readback) (s : State) :
    (frameMarkEnd h s).pending = s.pending ∧ (frameMarkEnd h s).settings = s.settings ∧
    (frameMarkEnd h s).store = s.store ∧ (frameMarkEnd h s).stations = s.stations ∧
    (frameMarkEnd h s).table = s.table ∧ (frameMarkEnd h s).purge = s.purge ∧ (frameMarkEnd h s).vehicle = s.vehicle ∧
    (frameMarkEnd h s).clock = s.clock ∧ (frameMarkEnd h s).scan = s.scan ∧ (frameMarkEnd h s).record = s.record ∧
    (frameMarkEnd h s).scene = s.scene ∧ (frameMarkEnd h s).buffers = s.buffers ∧
    (frameMarkEnd h s).detached = s.detached ∧ (frameMarkEnd h s).trend = s.trend ∧
    (frameMarkEnd h s).resetHeld = s.resetHeld := by
  unfold frameMarkEnd; split <;> simp

@[simp] theorem chooseLine_kept (n : Station) (s : State) :
    (chooseLine n s).pending = s.pending ∧ (chooseLine n s).settings = s.settings ∧ (chooseLine n s).store = s.store ∧
    (chooseLine n s).stations = s.stations ∧ (chooseLine n s).table = s.table ∧ (chooseLine n s).plan = s.plan ∧
    (chooseLine n s).resolver = s.resolver ∧ (chooseLine n s).reg = s.reg ∧ (chooseLine n s).purge = s.purge ∧
    (chooseLine n s).vehicle = s.vehicle ∧ (chooseLine n s).clock = s.clock ∧ (chooseLine n s).scan = s.scan ∧
    (chooseLine n s).record = s.record ∧ (chooseLine n s).scene = s.scene ∧
    (chooseLine n s).conditions = s.conditions ∧ (chooseLine n s).alert = s.alert ∧
    (chooseLine n s).blowers = s.blowers ∧ (chooseLine n s).actuators = s.actuators ∧
    (chooseLine n s).buffers = s.buffers ∧ (chooseLine n s).marks = s.marks ∧ (chooseLine n s).detached = s.detached ∧
    (chooseLine n s).trend = s.trend ∧ (chooseLine n s).resetHeld = s.resetHeld := by
  unfold chooseLine; simp

@[simp] theorem transmit_kept (n : Station) (c : Cell) (r : Option RunKind) (s : State) :
    (transmit n c r s).pending = s.pending ∧ (transmit n c r s).settings = s.settings ∧
    (transmit n c r s).store = s.store ∧ (transmit n c r s).stations = s.stations ∧
    (transmit n c r s).table = s.table ∧ (transmit n c r s).plan = s.plan ∧ (transmit n c r s).resolver = s.resolver ∧
    (transmit n c r s).reg = s.reg ∧ (transmit n c r s).purge = s.purge ∧ (transmit n c r s).vehicle = s.vehicle ∧
    (transmit n c r s).clock = s.clock ∧ (transmit n c r s).scan = s.scan ∧ (transmit n c r s).record = s.record ∧
    (transmit n c r s).scene = s.scene ∧ (transmit n c r s).conditions = s.conditions ∧
    (transmit n c r s).alert = s.alert ∧ (transmit n c r s).blowers = s.blowers ∧
    (transmit n c r s).actuators = s.actuators ∧ (transmit n c r s).buffers = s.buffers ∧
    (transmit n c r s).marks = s.marks ∧ (transmit n c r s).detached = s.detached ∧
    (transmit n c r s).trend = s.trend ∧ (transmit n c r s).resetHeld = s.resetHeld := by
  unfold transmit; simp

@[simp] theorem startStream_kept (n : Station) (s : State) :
    (startStream n s).pending = s.pending ∧ (startStream n s).settings = s.settings ∧
    (startStream n s).store = s.store ∧ (startStream n s).stations = s.stations ∧ (startStream n s).table = s.table ∧
    (startStream n s).plan = s.plan ∧ (startStream n s).resolver = s.resolver ∧ (startStream n s).reg = s.reg ∧
    (startStream n s).purge = s.purge ∧ (startStream n s).vehicle = s.vehicle ∧ (startStream n s).clock = s.clock ∧
    (startStream n s).scan = s.scan ∧ (startStream n s).record = s.record ∧ (startStream n s).scene = s.scene ∧
    (startStream n s).conditions = s.conditions ∧ (startStream n s).alert = s.alert ∧
    (startStream n s).blowers = s.blowers ∧ (startStream n s).actuators = s.actuators ∧
    (startStream n s).buffers = s.buffers ∧ (startStream n s).marks = s.marks ∧
    (startStream n s).detached = s.detached ∧ (startStream n s).resetHeld = s.resetHeld := by
  unfold startStream; split
  · split <;> simp
  · simp

@[simp] theorem startData_kept (n : Station) (s : State) :
    (startData n s).pending = s.pending ∧ (startData n s).settings = s.settings ∧ (startData n s).store = s.store ∧
    (startData n s).stations = s.stations ∧ (startData n s).table = s.table ∧ (startData n s).plan = s.plan ∧
    (startData n s).resolver = s.resolver ∧ (startData n s).reg = s.reg ∧ (startData n s).purge = s.purge ∧
    (startData n s).vehicle = s.vehicle ∧ (startData n s).clock = s.clock ∧ (startData n s).scan = s.scan ∧
    (startData n s).record = s.record ∧ (startData n s).scene = s.scene ∧ (startData n s).conditions = s.conditions ∧
    (startData n s).alert = s.alert ∧ (startData n s).blowers = s.blowers ∧ (startData n s).actuators = s.actuators ∧
    (startData n s).buffers = s.buffers ∧ (startData n s).marks = s.marks ∧ (startData n s).detached = s.detached ∧
    (startData n s).resetHeld = s.resetHeld := by
  unfold startData; split <;> simp

@[simp] theorem downlinkStart_kept (n : Station) (s : State) :
    (downlinkStart n s).pending = s.pending ∧ (downlinkStart n s).settings = s.settings ∧
    (downlinkStart n s).store = s.store ∧ (downlinkStart n s).stations = s.stations ∧
    (downlinkStart n s).table = s.table ∧ (downlinkStart n s).plan = s.plan ∧
    (downlinkStart n s).resolver = s.resolver ∧ (downlinkStart n s).reg = s.reg ∧ (downlinkStart n s).purge = s.purge ∧
    (downlinkStart n s).vehicle = s.vehicle ∧ (downlinkStart n s).clock = s.clock ∧ (downlinkStart n s).scan = s.scan ∧
    (downlinkStart n s).record = s.record ∧ (downlinkStart n s).scene = s.scene ∧
    (downlinkStart n s).conditions = s.conditions ∧ (downlinkStart n s).alert = s.alert ∧
    (downlinkStart n s).blowers = s.blowers ∧ (downlinkStart n s).actuators = s.actuators ∧
    (downlinkStart n s).buffers = s.buffers ∧ (downlinkStart n s).marks = s.marks ∧
    (downlinkStart n s).detached = s.detached ∧ (downlinkStart n s).resetHeld = s.resetHeld := by
  unfold downlinkStart; split <;> simp

@[simp] theorem advanceReadout_kept (n : Station) (s : State) :
    (advanceReadout n s).pending = s.pending ∧ (advanceReadout n s).settings = s.settings ∧
    (advanceReadout n s).store = s.store ∧ (advanceReadout n s).loop = s.loop ∧
    (advanceReadout n s).stations = s.stations ∧ (advanceReadout n s).table = s.table ∧
    (advanceReadout n s).plan = s.plan ∧ (advanceReadout n s).resolver = s.resolver ∧
    (advanceReadout n s).reg = s.reg ∧ (advanceReadout n s).purge = s.purge ∧
    (advanceReadout n s).vehicle = s.vehicle ∧ (advanceReadout n s).clock = s.clock ∧
    (advanceReadout n s).scan = s.scan ∧ (advanceReadout n s).record = s.record ∧
    (advanceReadout n s).scene = s.scene ∧ (advanceReadout n s).conditions = s.conditions ∧
    (advanceReadout n s).alert = s.alert ∧ (advanceReadout n s).blowers = s.blowers ∧
    (advanceReadout n s).actuators = s.actuators ∧ (advanceReadout n s).marks = s.marks ∧
    (advanceReadout n s).detached = s.detached ∧ (advanceReadout n s).trend = s.trend ∧
    (advanceReadout n s).resetHeld = s.resetHeld := by
  unfold advanceReadout; split <;> simp

@[simp] theorem advanceStream_kept (s : State) :
    (advanceStream s).pending = s.pending ∧ (advanceStream s).settings = s.settings ∧
    (advanceStream s).store = s.store ∧ (advanceStream s).loop = s.loop ∧ (advanceStream s).stations = s.stations ∧
    (advanceStream s).table = s.table ∧ (advanceStream s).plan = s.plan ∧ (advanceStream s).resolver = s.resolver ∧
    (advanceStream s).reg = s.reg ∧ (advanceStream s).purge = s.purge ∧ (advanceStream s).vehicle = s.vehicle ∧
    (advanceStream s).clock = s.clock ∧ (advanceStream s).scan = s.scan ∧ (advanceStream s).record = s.record ∧
    (advanceStream s).scene = s.scene ∧ (advanceStream s).conditions = s.conditions ∧
    (advanceStream s).alert = s.alert ∧ (advanceStream s).blowers = s.blowers ∧
    (advanceStream s).actuators = s.actuators ∧ (advanceStream s).buffers = s.buffers ∧
    (advanceStream s).marks = s.marks ∧ (advanceStream s).detached = s.detached ∧
    (advanceStream s).resetHeld = s.resetHeld := by
  unfold advanceStream; split
  · simp
  · split <;> simp

@[simp] theorem advanceRun_kept (n : Station) (r : Option RunKind) (s : State) :
    (advanceRun n r s).pending = s.pending ∧ (advanceRun n r s).settings = s.settings ∧
    (advanceRun n r s).store = s.store ∧ (advanceRun n r s).loop = s.loop ∧ (advanceRun n r s).stations = s.stations ∧
    (advanceRun n r s).table = s.table ∧ (advanceRun n r s).plan = s.plan ∧ (advanceRun n r s).resolver = s.resolver ∧
    (advanceRun n r s).reg = s.reg ∧ (advanceRun n r s).purge = s.purge ∧ (advanceRun n r s).vehicle = s.vehicle ∧
    (advanceRun n r s).clock = s.clock ∧ (advanceRun n r s).scan = s.scan ∧ (advanceRun n r s).record = s.record ∧
    (advanceRun n r s).scene = s.scene ∧ (advanceRun n r s).conditions = s.conditions ∧
    (advanceRun n r s).alert = s.alert ∧ (advanceRun n r s).blowers = s.blowers ∧
    (advanceRun n r s).actuators = s.actuators ∧ (advanceRun n r s).marks = s.marks ∧
    (advanceRun n r s).detached = s.detached ∧ (advanceRun n r s).resetHeld = s.resetHeld := by
  unfold advanceRun; split <;> simp

@[simp] theorem downlinkEnd_kept (n : Station) (s : State) :
    (downlinkEnd n s).pending = s.pending ∧ (downlinkEnd n s).settings = s.settings ∧
    (downlinkEnd n s).store = s.store ∧ (downlinkEnd n s).stations = s.stations ∧ (downlinkEnd n s).table = s.table ∧
    (downlinkEnd n s).plan = s.plan ∧ (downlinkEnd n s).resolver = s.resolver ∧ (downlinkEnd n s).reg = s.reg ∧
    (downlinkEnd n s).purge = s.purge ∧ (downlinkEnd n s).vehicle = s.vehicle ∧ (downlinkEnd n s).clock = s.clock ∧
    (downlinkEnd n s).scan = s.scan ∧ (downlinkEnd n s).record = s.record ∧ (downlinkEnd n s).scene = s.scene ∧
    (downlinkEnd n s).conditions = s.conditions ∧ (downlinkEnd n s).alert = s.alert ∧
    (downlinkEnd n s).blowers = s.blowers ∧ (downlinkEnd n s).actuators = s.actuators ∧
    (downlinkEnd n s).marks = s.marks ∧ (downlinkEnd n s).detached = s.detached ∧
    (downlinkEnd n s).resetHeld = s.resetHeld := by
  unfold downlinkEnd; split <;> simp

end Sys2Proof.Machine
end

