-- ==== Sys2Proof/Laws/FramesScan.lean ====
section
/-! SUPPORT. Frames: what each operation of the Scene Evaluator and the Scan Sequencer keeps. -/

namespace Sys2Proof.Machine

open Sys2Proof

@[simp] theorem judgeSmoke_kept (s : State) :
    (judgeSmoke s).pending = s.pending ∧ (judgeSmoke s).settings = s.settings ∧ (judgeSmoke s).store = s.store ∧
    (judgeSmoke s).loop = s.loop ∧ (judgeSmoke s).stations = s.stations ∧ (judgeSmoke s).table = s.table ∧
    (judgeSmoke s).plan = s.plan ∧ (judgeSmoke s).resolver = s.resolver ∧ (judgeSmoke s).reg = s.reg ∧
    (judgeSmoke s).purge = s.purge ∧ (judgeSmoke s).vehicle = s.vehicle ∧ (judgeSmoke s).clock = s.clock ∧
    (judgeSmoke s).scan = s.scan ∧ (judgeSmoke s).record = s.record ∧ (judgeSmoke s).blowers = s.blowers ∧
    (judgeSmoke s).actuators = s.actuators ∧ (judgeSmoke s).buffers = s.buffers ∧
    (judgeSmoke s).detached = s.detached ∧ (judgeSmoke s).trend = s.trend ∧
    (judgeSmoke s).resetHeld = s.resetHeld := by
  unfold judgeSmoke; simp

@[simp] theorem judgeHeavy_kept (s : State) :
    (judgeHeavy s).pending = s.pending ∧ (judgeHeavy s).settings = s.settings ∧ (judgeHeavy s).store = s.store ∧
    (judgeHeavy s).loop = s.loop ∧ (judgeHeavy s).stations = s.stations ∧ (judgeHeavy s).table = s.table ∧
    (judgeHeavy s).plan = s.plan ∧ (judgeHeavy s).resolver = s.resolver ∧ (judgeHeavy s).reg = s.reg ∧
    (judgeHeavy s).purge = s.purge ∧ (judgeHeavy s).vehicle = s.vehicle ∧ (judgeHeavy s).clock = s.clock ∧
    (judgeHeavy s).scan = s.scan ∧ (judgeHeavy s).record = s.record ∧ (judgeHeavy s).blowers = s.blowers ∧
    (judgeHeavy s).actuators = s.actuators ∧ (judgeHeavy s).buffers = s.buffers ∧
    (judgeHeavy s).detached = s.detached ∧ (judgeHeavy s).trend = s.trend ∧
    (judgeHeavy s).resetHeld = s.resetHeld := by
  unfold judgeHeavy; simp

@[simp] theorem judgeOutsideCo_kept (s : State) :
    (judgeOutsideCo s).pending = s.pending ∧ (judgeOutsideCo s).settings = s.settings ∧
    (judgeOutsideCo s).store = s.store ∧ (judgeOutsideCo s).loop = s.loop ∧ (judgeOutsideCo s).stations = s.stations ∧
    (judgeOutsideCo s).table = s.table ∧ (judgeOutsideCo s).plan = s.plan ∧ (judgeOutsideCo s).resolver = s.resolver ∧
    (judgeOutsideCo s).reg = s.reg ∧ (judgeOutsideCo s).purge = s.purge ∧ (judgeOutsideCo s).vehicle = s.vehicle ∧
    (judgeOutsideCo s).clock = s.clock ∧ (judgeOutsideCo s).scan = s.scan ∧ (judgeOutsideCo s).record = s.record ∧
    (judgeOutsideCo s).blowers = s.blowers ∧ (judgeOutsideCo s).actuators = s.actuators ∧
    (judgeOutsideCo s).buffers = s.buffers ∧ (judgeOutsideCo s).detached = s.detached ∧
    (judgeOutsideCo s).trend = s.trend ∧ (judgeOutsideCo s).resetHeld = s.resetHeld := by
  unfold judgeOutsideCo; simp

@[simp] theorem judgeFilter_kept (s : State) :
    (judgeFilter s).pending = s.pending ∧ (judgeFilter s).settings = s.settings ∧ (judgeFilter s).store = s.store ∧
    (judgeFilter s).loop = s.loop ∧ (judgeFilter s).stations = s.stations ∧ (judgeFilter s).table = s.table ∧
    (judgeFilter s).plan = s.plan ∧ (judgeFilter s).resolver = s.resolver ∧ (judgeFilter s).reg = s.reg ∧
    (judgeFilter s).purge = s.purge ∧ (judgeFilter s).vehicle = s.vehicle ∧ (judgeFilter s).clock = s.clock ∧
    (judgeFilter s).scan = s.scan ∧ (judgeFilter s).record = s.record ∧ (judgeFilter s).blowers = s.blowers ∧
    (judgeFilter s).actuators = s.actuators ∧ (judgeFilter s).buffers = s.buffers ∧
    (judgeFilter s).detached = s.detached ∧ (judgeFilter s).trend = s.trend ∧
    (judgeFilter s).resetHeld = s.resetHeld := by
  unfold judgeFilter; simp

@[simp] theorem judgeSupply_kept (s : State) :
    (judgeSupply s).pending = s.pending ∧ (judgeSupply s).settings = s.settings ∧ (judgeSupply s).store = s.store ∧
    (judgeSupply s).loop = s.loop ∧ (judgeSupply s).stations = s.stations ∧ (judgeSupply s).table = s.table ∧
    (judgeSupply s).plan = s.plan ∧ (judgeSupply s).resolver = s.resolver ∧ (judgeSupply s).reg = s.reg ∧
    (judgeSupply s).purge = s.purge ∧ (judgeSupply s).vehicle = s.vehicle ∧ (judgeSupply s).clock = s.clock ∧
    (judgeSupply s).scan = s.scan ∧ (judgeSupply s).record = s.record ∧ (judgeSupply s).blowers = s.blowers ∧
    (judgeSupply s).actuators = s.actuators ∧ (judgeSupply s).buffers = s.buffers ∧
    (judgeSupply s).detached = s.detached ∧ (judgeSupply s).trend = s.trend ∧
    (judgeSupply s).resetHeld = s.resetHeld := by
  unfold judgeSupply; simp

@[simp] theorem putCabCo_kept (f r : TimerPair) (v : Bool) (s : State) :
    (putCabCo f r v s).pending = s.pending ∧ (putCabCo f r v s).settings = s.settings ∧
    (putCabCo f r v s).store = s.store ∧ (putCabCo f r v s).loop = s.loop ∧ (putCabCo f r v s).stations = s.stations ∧
    (putCabCo f r v s).table = s.table ∧ (putCabCo f r v s).plan = s.plan ∧ (putCabCo f r v s).resolver = s.resolver ∧
    (putCabCo f r v s).reg = s.reg ∧ (putCabCo f r v s).purge = s.purge ∧ (putCabCo f r v s).vehicle = s.vehicle ∧
    (putCabCo f r v s).clock = s.clock ∧ (putCabCo f r v s).scan = s.scan ∧ (putCabCo f r v s).record = s.record ∧
    (putCabCo f r v s).blowers = s.blowers ∧ (putCabCo f r v s).actuators = s.actuators ∧
    (putCabCo f r v s).buffers = s.buffers ∧ (putCabCo f r v s).detached = s.detached ∧
    (putCabCo f r v s).trend = s.trend ∧ (putCabCo f r v s).resetHeld = s.resetHeld := by
  unfold putCabCo; simp

@[simp] theorem judgeFrontCo_kept (s : State) :
    (judgeFrontCo s).pending = s.pending ∧ (judgeFrontCo s).settings = s.settings ∧ (judgeFrontCo s).store = s.store ∧
    (judgeFrontCo s).loop = s.loop ∧ (judgeFrontCo s).stations = s.stations ∧ (judgeFrontCo s).table = s.table ∧
    (judgeFrontCo s).plan = s.plan ∧ (judgeFrontCo s).resolver = s.resolver ∧ (judgeFrontCo s).reg = s.reg ∧
    (judgeFrontCo s).purge = s.purge ∧ (judgeFrontCo s).vehicle = s.vehicle ∧ (judgeFrontCo s).clock = s.clock ∧
    (judgeFrontCo s).scan = s.scan ∧ (judgeFrontCo s).record = s.record ∧ (judgeFrontCo s).blowers = s.blowers ∧
    (judgeFrontCo s).actuators = s.actuators ∧ (judgeFrontCo s).buffers = s.buffers ∧
    (judgeFrontCo s).detached = s.detached ∧ (judgeFrontCo s).trend = s.trend ∧
    (judgeFrontCo s).resetHeld = s.resetHeld := by
  unfold judgeFrontCo; simp

@[simp] theorem judgeRearCo_kept (s : State) :
    (judgeRearCo s).pending = s.pending ∧ (judgeRearCo s).settings = s.settings ∧ (judgeRearCo s).store = s.store ∧
    (judgeRearCo s).loop = s.loop ∧ (judgeRearCo s).stations = s.stations ∧ (judgeRearCo s).table = s.table ∧
    (judgeRearCo s).plan = s.plan ∧ (judgeRearCo s).resolver = s.resolver ∧ (judgeRearCo s).reg = s.reg ∧
    (judgeRearCo s).purge = s.purge ∧ (judgeRearCo s).vehicle = s.vehicle ∧ (judgeRearCo s).clock = s.clock ∧
    (judgeRearCo s).scan = s.scan ∧ (judgeRearCo s).record = s.record ∧ (judgeRearCo s).blowers = s.blowers ∧
    (judgeRearCo s).actuators = s.actuators ∧ (judgeRearCo s).buffers = s.buffers ∧
    (judgeRearCo s).detached = s.detached ∧ (judgeRearCo s).trend = s.trend ∧
    (judgeRearCo s).resetHeld = s.resetHeld := by
  unfold judgeRearCo; simp

@[simp] theorem evaluateScene_kept (c : CalChannel) (s : State) :
    (evaluateScene c s).pending = s.pending ∧ (evaluateScene c s).settings = s.settings ∧
    (evaluateScene c s).store = s.store ∧ (evaluateScene c s).loop = s.loop ∧
    (evaluateScene c s).stations = s.stations ∧ (evaluateScene c s).table = s.table ∧
    (evaluateScene c s).plan = s.plan ∧ (evaluateScene c s).resolver = s.resolver ∧ (evaluateScene c s).reg = s.reg ∧
    (evaluateScene c s).purge = s.purge ∧ (evaluateScene c s).vehicle = s.vehicle ∧
    (evaluateScene c s).clock = s.clock ∧ (evaluateScene c s).scan = s.scan ∧ (evaluateScene c s).record = s.record ∧
    (evaluateScene c s).blowers = s.blowers ∧ (evaluateScene c s).actuators = s.actuators ∧
    (evaluateScene c s).buffers = s.buffers ∧ (evaluateScene c s).detached = s.detached ∧
    (evaluateScene c s).trend = s.trend ∧ (evaluateScene c s).resetHeld = s.resetHeld := by
  unfold evaluateScene; cases c <;> simp

@[simp] theorem updateSensorFailed_kept (s : State) :
    (updateSensorFailed s).pending = s.pending ∧ (updateSensorFailed s).settings = s.settings ∧
    (updateSensorFailed s).store = s.store ∧ (updateSensorFailed s).loop = s.loop ∧
    (updateSensorFailed s).stations = s.stations ∧ (updateSensorFailed s).table = s.table ∧
    (updateSensorFailed s).plan = s.plan ∧ (updateSensorFailed s).resolver = s.resolver ∧
    (updateSensorFailed s).reg = s.reg ∧ (updateSensorFailed s).purge = s.purge ∧
    (updateSensorFailed s).vehicle = s.vehicle ∧ (updateSensorFailed s).clock = s.clock ∧
    (updateSensorFailed s).scan = s.scan ∧ (updateSensorFailed s).record = s.record ∧
    (updateSensorFailed s).scene = s.scene ∧ (updateSensorFailed s).blowers = s.blowers ∧
    (updateSensorFailed s).actuators = s.actuators ∧ (updateSensorFailed s).buffers = s.buffers ∧
    (updateSensorFailed s).detached = s.detached ∧ (updateSensorFailed s).trend = s.trend ∧
    (updateSensorFailed s).resetHeld = s.resetHeld := by
  unfold updateSensorFailed; simp

@[simp] theorem regulateFresh_kept (p : Int) (s : State) :
    (regulateFresh p s).pending = s.pending ∧ (regulateFresh p s).settings = s.settings ∧
    (regulateFresh p s).store = s.store ∧ (regulateFresh p s).loop = s.loop ∧
    (regulateFresh p s).stations = s.stations ∧ (regulateFresh p s).table = s.table ∧
    (regulateFresh p s).plan = s.plan ∧ (regulateFresh p s).resolver = s.resolver ∧
    (regulateFresh p s).purge = s.purge ∧ (regulateFresh p s).vehicle = s.vehicle ∧
    (regulateFresh p s).clock = s.clock ∧ (regulateFresh p s).scan = s.scan ∧ (regulateFresh p s).record = s.record ∧
    (regulateFresh p s).scene = s.scene ∧ (regulateFresh p s).actuators = s.actuators ∧
    (regulateFresh p s).buffers = s.buffers ∧ (regulateFresh p s).detached = s.detached ∧
    (regulateFresh p s).trend = s.trend ∧ (regulateFresh p s).resetHeld = s.resetHeld := by
  unfold regulateFresh; simp only; split <;> simp

@[simp] theorem regulate_kept (s : State) :
    (regulate s).pending = s.pending ∧ (regulate s).settings = s.settings ∧ (regulate s).store = s.store ∧
    (regulate s).loop = s.loop ∧ (regulate s).stations = s.stations ∧ (regulate s).table = s.table ∧
    (regulate s).plan = s.plan ∧ (regulate s).resolver = s.resolver ∧ (regulate s).purge = s.purge ∧
    (regulate s).vehicle = s.vehicle ∧ (regulate s).clock = s.clock ∧ (regulate s).scan = s.scan ∧
    (regulate s).record = s.record ∧ (regulate s).scene = s.scene ∧ (regulate s).actuators = s.actuators ∧
    (regulate s).buffers = s.buffers ∧ (regulate s).detached = s.detached ∧ (regulate s).trend = s.trend ∧
    (regulate s).resetHeld = s.resetHeld := by
  unfold regulate; split <;> simp

@[simp] theorem handSample_kept (c : CalChannel) (s : State) :
    (handSample c s).pending = s.pending ∧ (handSample c s).settings = s.settings ∧ (handSample c s).store = s.store ∧
    (handSample c s).loop = s.loop ∧ (handSample c s).stations = s.stations ∧ (handSample c s).table = s.table ∧
    (handSample c s).plan = s.plan ∧ (handSample c s).resolver = s.resolver ∧ (handSample c s).purge = s.purge ∧
    (handSample c s).vehicle = s.vehicle ∧ (handSample c s).clock = s.clock ∧ (handSample c s).scan = s.scan ∧
    (handSample c s).record = s.record ∧ (handSample c s).actuators = s.actuators ∧
    (handSample c s).buffers = s.buffers ∧ (handSample c s).detached = s.detached ∧ (handSample c s).trend = s.trend ∧
    (handSample c s).resetHeld = s.resetHeld := by
  unfold handSample; split <;> simp

@[simp] theorem updateLatch_kept (b : Bool) (s : State) :
    (updateLatch b s).pending = s.pending ∧ (updateLatch b s).settings = s.settings ∧
    (updateLatch b s).store = s.store ∧ (updateLatch b s).loop = s.loop ∧ (updateLatch b s).stations = s.stations ∧
    (updateLatch b s).table = s.table ∧ (updateLatch b s).plan = s.plan ∧ (updateLatch b s).reg = s.reg ∧
    (updateLatch b s).purge = s.purge ∧ (updateLatch b s).vehicle = s.vehicle ∧ (updateLatch b s).clock = s.clock ∧
    (updateLatch b s).scan = s.scan ∧ (updateLatch b s).record = s.record ∧ (updateLatch b s).scene = s.scene ∧
    (updateLatch b s).conditions = s.conditions ∧ (updateLatch b s).alert = s.alert ∧
    (updateLatch b s).blowers = s.blowers ∧ (updateLatch b s).actuators = s.actuators ∧
    (updateLatch b s).buffers = s.buffers ∧ (updateLatch b s).marks = s.marks ∧
    (updateLatch b s).detached = s.detached ∧ (updateLatch b s).trend = s.trend ∧
    (updateLatch b s).resetHeld = s.resetHeld := by
  unfold updateLatch; split
  · simp
  · split
    · split <;> simp
    · simp

@[simp] theorem resolveEvent_kept (b : Conditions) (tr : Bool) (s : State) :
    (resolveEvent b tr s).pending = s.pending ∧ (resolveEvent b tr s).settings = s.settings ∧
    (resolveEvent b tr s).store = s.store ∧ (resolveEvent b tr s).loop = s.loop ∧
    (resolveEvent b tr s).stations = s.stations ∧ (resolveEvent b tr s).table = s.table ∧
    (resolveEvent b tr s).purge = s.purge ∧ (resolveEvent b tr s).vehicle = s.vehicle ∧
    (resolveEvent b tr s).clock = s.clock ∧ (resolveEvent b tr s).scan = s.scan ∧
    (resolveEvent b tr s).record = s.record ∧ (resolveEvent b tr s).scene = s.scene ∧
    (resolveEvent b tr s).buffers = s.buffers ∧ (resolveEvent b tr s).detached = s.detached ∧
    (resolveEvent b tr s).trend = s.trend ∧ (resolveEvent b tr s).resetHeld = s.resetHeld := by
  unfold resolveEvent; split <;> simp

@[simp] theorem purgeSample_kept (c : CalChannel) (h : Bool) (p : Option (BitVec 32)) (t : BitVec 32) (s : State) :
    (purgeSample c h p t s).pending = s.pending ∧ (purgeSample c h p t s).settings = s.settings ∧
    (purgeSample c h p t s).store = s.store ∧ (purgeSample c h p t s).loop = s.loop ∧
    (purgeSample c h p t s).stations = s.stations ∧ (purgeSample c h p t s).table = s.table ∧
    (purgeSample c h p t s).vehicle = s.vehicle ∧ (purgeSample c h p t s).clock = s.clock ∧
    (purgeSample c h p t s).scan = s.scan ∧ (purgeSample c h p t s).record = s.record ∧
    (purgeSample c h p t s).scene = s.scene ∧ (purgeSample c h p t s).buffers = s.buffers ∧
    (purgeSample c h p t s).detached = s.detached ∧ (purgeSample c h p t s).trend = s.trend ∧
    (purgeSample c h p t s).resetHeld = s.resetHeld := by
  unfold purgeSample; simp only [purgeEvent_kept]; split
  · simp
  · split <;> simp

@[simp] theorem judgeCheck_kept (c : Channel) (g : Bool) (s : State) :
    (judgeCheck c g s).pending = s.pending ∧ (judgeCheck c g s).settings = s.settings ∧
    (judgeCheck c g s).store = s.store ∧ (judgeCheck c g s).loop = s.loop ∧ (judgeCheck c g s).stations = s.stations ∧
    (judgeCheck c g s).table = s.table ∧ (judgeCheck c g s).plan = s.plan ∧ (judgeCheck c g s).resolver = s.resolver ∧
    (judgeCheck c g s).reg = s.reg ∧ (judgeCheck c g s).purge = s.purge ∧ (judgeCheck c g s).vehicle = s.vehicle ∧
    (judgeCheck c g s).clock = s.clock ∧ (judgeCheck c g s).record = s.record ∧ (judgeCheck c g s).scene = s.scene ∧
    (judgeCheck c g s).blowers = s.blowers ∧ (judgeCheck c g s).actuators = s.actuators ∧
    (judgeCheck c g s).buffers = s.buffers ∧ (judgeCheck c g s).detached = s.detached ∧
    (judgeCheck c g s).trend = s.trend ∧ (judgeCheck c g s).resetHeld = s.resetHeld := by
  unfold judgeCheck; split
  · simp
  all_goals (simp only; split <;> simp)

@[simp] theorem recordSample_kept (c : Channel) (raw : Nat) (now : BitVec 32) (s : State) :
    (recordSample c raw now s).pending = s.pending ∧ (recordSample c raw now s).settings = s.settings ∧
    (recordSample c raw now s).store = s.store ∧ (recordSample c raw now s).loop = s.loop ∧
    (recordSample c raw now s).stations = s.stations ∧ (recordSample c raw now s).table = s.table ∧
    (recordSample c raw now s).plan = s.plan ∧ (recordSample c raw now s).resolver = s.resolver ∧
    (recordSample c raw now s).reg = s.reg ∧ (recordSample c raw now s).purge = s.purge ∧
    (recordSample c raw now s).vehicle = s.vehicle ∧ (recordSample c raw now s).clock = s.clock ∧
    (recordSample c raw now s).scan = s.scan ∧ (recordSample c raw now s).scene = s.scene ∧
    (recordSample c raw now s).blowers = s.blowers ∧ (recordSample c raw now s).actuators = s.actuators ∧
    (recordSample c raw now s).buffers = s.buffers ∧ (recordSample c raw now s).detached = s.detached ∧
    (recordSample c raw now s).trend = s.trend ∧ (recordSample c raw now s).resetHeld = s.resetHeld := by
  unfold recordSample; simp

@[simp] theorem handOnSample_kept (k : CalChannel) (now : BitVec 32) (turn : Turn) (b s : State) :
    (handOnSample k now turn b s).pending = s.pending ∧ (handOnSample k now turn b s).settings = s.settings ∧
    (handOnSample k now turn b s).store = s.store ∧ (handOnSample k now turn b s).loop = s.loop ∧
    (handOnSample k now turn b s).stations = s.stations ∧ (handOnSample k now turn b s).table = s.table ∧
    (handOnSample k now turn b s).vehicle = s.vehicle ∧ (handOnSample k now turn b s).clock = s.clock ∧
    (handOnSample k now turn b s).scan = s.scan ∧ (handOnSample k now turn b s).record = s.record ∧
    (handOnSample k now turn b s).buffers = s.buffers ∧ (handOnSample k now turn b s).detached = s.detached ∧
    (handOnSample k now turn b s).trend = s.trend ∧ (handOnSample k now turn b s).resetHeld = s.resetHeld := by
  unfold handOnSample; cases turn <;> simp [shareEvent]

@[simp] theorem sampleEnd_kept (c : Channel) (raw : Nat) (now : BitVec 32) (turn : Turn) (s : State) :
    (sampleEnd c raw now turn s).pending = s.pending ∧ (sampleEnd c raw now turn s).settings = s.settings ∧
    (sampleEnd c raw now turn s).store = s.store ∧ (sampleEnd c raw now turn s).loop = s.loop ∧
    (sampleEnd c raw now turn s).stations = s.stations ∧ (sampleEnd c raw now turn s).table = s.table ∧
    (sampleEnd c raw now turn s).vehicle = s.vehicle ∧ (sampleEnd c raw now turn s).clock = s.clock ∧
    (sampleEnd c raw now turn s).buffers = s.buffers ∧ (sampleEnd c raw now turn s).detached = s.detached ∧
    (sampleEnd c raw now turn s).trend = s.trend ∧ (sampleEnd c raw now turn s).resetHeld = s.resetHeld := by
  unfold sampleEnd; cases c <;> simp

@[simp] theorem captureTrend_kept (s : State) :
    (captureTrend s).pending = s.pending ∧ (captureTrend s).settings = s.settings ∧ (captureTrend s).store = s.store ∧
    (captureTrend s).loop = s.loop ∧ (captureTrend s).stations = s.stations ∧ (captureTrend s).table = s.table ∧
    (captureTrend s).plan = s.plan ∧ (captureTrend s).resolver = s.resolver ∧ (captureTrend s).reg = s.reg ∧
    (captureTrend s).purge = s.purge ∧ (captureTrend s).vehicle = s.vehicle ∧ (captureTrend s).clock = s.clock ∧
    (captureTrend s).scan = s.scan ∧ (captureTrend s).record = s.record ∧ (captureTrend s).scene = s.scene ∧
    (captureTrend s).conditions = s.conditions ∧ (captureTrend s).alert = s.alert ∧
    (captureTrend s).blowers = s.blowers ∧ (captureTrend s).actuators = s.actuators ∧
    (captureTrend s).buffers = s.buffers ∧ (captureTrend s).marks = s.marks ∧ (captureTrend s).detached = s.detached ∧
    (captureTrend s).resetHeld = s.resetHeld := by
  unfold captureTrend; split
  · simp
  · split <;> simp

@[simp] theorem trendPassEnd_kept (s : State) :
    (trendPassEnd s).pending = s.pending ∧ (trendPassEnd s).settings = s.settings ∧ (trendPassEnd s).store = s.store ∧
    (trendPassEnd s).loop = s.loop ∧ (trendPassEnd s).stations = s.stations ∧ (trendPassEnd s).table = s.table ∧
    (trendPassEnd s).plan = s.plan ∧ (trendPassEnd s).resolver = s.resolver ∧ (trendPassEnd s).reg = s.reg ∧
    (trendPassEnd s).purge = s.purge ∧ (trendPassEnd s).vehicle = s.vehicle ∧ (trendPassEnd s).clock = s.clock ∧
    (trendPassEnd s).scan = s.scan ∧ (trendPassEnd s).record = s.record ∧ (trendPassEnd s).scene = s.scene ∧
    (trendPassEnd s).conditions = s.conditions ∧ (trendPassEnd s).alert = s.alert ∧
    (trendPassEnd s).blowers = s.blowers ∧ (trendPassEnd s).actuators = s.actuators ∧
    (trendPassEnd s).buffers = s.buffers ∧ (trendPassEnd s).marks = s.marks ∧ (trendPassEnd s).detached = s.detached ∧
    (trendPassEnd s).resetHeld = s.resetHeld := by
  unfold trendPassEnd; split <;> simp

@[simp] theorem judgeDrift_kept (s : State) :
    (judgeDrift s).pending = s.pending ∧ (judgeDrift s).settings = s.settings ∧ (judgeDrift s).store = s.store ∧
    (judgeDrift s).loop = s.loop ∧ (judgeDrift s).stations = s.stations ∧ (judgeDrift s).table = s.table ∧
    (judgeDrift s).purge = s.purge ∧ (judgeDrift s).vehicle = s.vehicle ∧ (judgeDrift s).clock = s.clock ∧
    (judgeDrift s).scan = s.scan ∧ (judgeDrift s).record = s.record ∧ (judgeDrift s).scene = s.scene ∧
    (judgeDrift s).buffers = s.buffers ∧ (judgeDrift s).detached = s.detached ∧ (judgeDrift s).trend = s.trend ∧
    (judgeDrift s).resetHeld = s.resetHeld := by
  unfold judgeDrift; split <;> simp

@[simp] theorem endPass_kept (s : State) :
    (endPass s).pending = s.pending ∧ (endPass s).settings = s.settings ∧ (endPass s).store = s.store ∧
    (endPass s).loop = s.loop ∧ (endPass s).stations = s.stations ∧ (endPass s).table = s.table ∧
    (endPass s).purge = s.purge ∧ (endPass s).vehicle = s.vehicle ∧ (endPass s).clock = s.clock ∧
    (endPass s).scan = s.scan ∧ (endPass s).record = s.record ∧ (endPass s).scene = s.scene ∧
    (endPass s).buffers = s.buffers ∧ (endPass s).detached = s.detached ∧ (endPass s).resetHeld = s.resetHeld := by
  unfold endPass; simp

@[simp] theorem dropChannels_kept (l : List ScanEntry) (s : State) :
    (dropChannels l s).pending = s.pending ∧ (dropChannels l s).settings = s.settings ∧
    (dropChannels l s).store = s.store ∧ (dropChannels l s).loop = s.loop ∧ (dropChannels l s).stations = s.stations ∧
    (dropChannels l s).table = s.table ∧ (dropChannels l s).plan = s.plan ∧ (dropChannels l s).resolver = s.resolver ∧
    (dropChannels l s).reg = s.reg ∧ (dropChannels l s).purge = s.purge ∧ (dropChannels l s).vehicle = s.vehicle ∧
    (dropChannels l s).clock = s.clock ∧ (dropChannels l s).scan = s.scan ∧ (dropChannels l s).scene = s.scene ∧
    (dropChannels l s).conditions = s.conditions ∧ (dropChannels l s).alert = s.alert ∧
    (dropChannels l s).blowers = s.blowers ∧ (dropChannels l s).actuators = s.actuators ∧
    (dropChannels l s).buffers = s.buffers ∧ (dropChannels l s).marks = s.marks ∧
    (dropChannels l s).detached = s.detached ∧ (dropChannels l s).trend = s.trend ∧
    (dropChannels l s).resetHeld = s.resetHeld := by
  unfold dropChannels; simp

@[simp] theorem listConditions_kept (l : List ScanEntry) (s : State) :
    (listConditions l s).pending = s.pending ∧ (listConditions l s).settings = s.settings ∧
    (listConditions l s).store = s.store ∧ (listConditions l s).loop = s.loop ∧
    (listConditions l s).stations = s.stations ∧ (listConditions l s).table = s.table ∧
    (listConditions l s).plan = s.plan ∧ (listConditions l s).resolver = s.resolver ∧
    (listConditions l s).reg = s.reg ∧ (listConditions l s).purge = s.purge ∧
    (listConditions l s).vehicle = s.vehicle ∧ (listConditions l s).clock = s.clock ∧
    (listConditions l s).scan = s.scan ∧ (listConditions l s).record = s.record ∧
    (listConditions l s).scene = s.scene ∧ (listConditions l s).blowers = s.blowers ∧
    (listConditions l s).actuators = s.actuators ∧ (listConditions l s).buffers = s.buffers ∧
    (listConditions l s).detached = s.detached ∧ (listConditions l s).trend = s.trend ∧
    (listConditions l s).resetHeld = s.resetHeld := by
  unfold listConditions; split <;> simp

@[simp] theorem handSamples_kept (l : List CalChannel) (s : State) :
    (l.foldl (fun t k => handSample k t) s).pending = s.pending ∧
    (l.foldl (fun t k => handSample k t) s).settings = s.settings ∧
    (l.foldl (fun t k => handSample k t) s).store = s.store ∧ (l.foldl (fun t k => handSample k t) s).loop = s.loop ∧
    (l.foldl (fun t k => handSample k t) s).stations = s.stations ∧
    (l.foldl (fun t k => handSample k t) s).table = s.table ∧ (l.foldl (fun t k => handSample k t) s).plan = s.plan ∧
    (l.foldl (fun t k => handSample k t) s).resolver = s.resolver ∧
    (l.foldl (fun t k => handSample k t) s).purge = s.purge ∧
    (l.foldl (fun t k => handSample k t) s).vehicle = s.vehicle ∧
    (l.foldl (fun t k => handSample k t) s).clock = s.clock ∧ (l.foldl (fun t k => handSample k t) s).scan = s.scan ∧
    (l.foldl (fun t k => handSample k t) s).record = s.record ∧
    (l.foldl (fun t k => handSample k t) s).actuators = s.actuators ∧
    (l.foldl (fun t k => handSample k t) s).buffers = s.buffers ∧
    (l.foldl (fun t k => handSample k t) s).detached = s.detached ∧
    (l.foldl (fun t k => handSample k t) s).trend = s.trend ∧
    (l.foldl (fun t k => handSample k t) s).resetHeld = s.resetHeld := by
  refine ⟨?_, ?_, ?_, ?_, ?_, ?_, ?_, ?_, ?_, ?_, ?_, ?_, ?_, ?_, ?_, ?_, ?_, ?_⟩ <;>
    exact foldl_keeps _ _ (by simp) _ _

@[simp] theorem adoptList_kept (l : List ScanEntry) (turn : Turn) (s : State) :
    (adoptList l turn s).pending = s.pending ∧ (adoptList l turn s).settings = s.settings ∧
    (adoptList l turn s).store = s.store ∧ (adoptList l turn s).loop = s.loop ∧
    (adoptList l turn s).stations = s.stations ∧ (adoptList l turn s).table = s.table ∧
    (adoptList l turn s).vehicle = s.vehicle ∧ (adoptList l turn s).clock = s.clock ∧
    (adoptList l turn s).buffers = s.buffers ∧ (adoptList l turn s).detached = s.detached ∧
    (adoptList l turn s).trend = s.trend ∧ (adoptList l turn s).resetHeld = s.resetHeld := by
  unfold adoptList; cases turn <;> simp only [shareEvent] <;> split <;> simp

@[simp] theorem takeStaged_kept (turn : Turn) (s : State) :
    (takeStaged turn s).pending = s.pending ∧ (takeStaged turn s).settings = s.settings ∧
    (takeStaged turn s).store = s.store ∧ (takeStaged turn s).loop = s.loop ∧
    (takeStaged turn s).stations = s.stations ∧ (takeStaged turn s).table = s.table ∧
    (takeStaged turn s).vehicle = s.vehicle ∧ (takeStaged turn s).clock = s.clock ∧
    (takeStaged turn s).buffers = s.buffers ∧ (takeStaged turn s).detached = s.detached ∧
    (takeStaged turn s).trend = s.trend ∧ (takeStaged turn s).resetHeld = s.resetHeld := by
  unfold takeStaged; split <;> simp

@[simp] theorem beginPass_kept (now : BitVec 32) (turn : Turn) (s : State) :
    (beginPass now turn s).pending = s.pending ∧ (beginPass now turn s).settings = s.settings ∧
    (beginPass now turn s).store = s.store ∧ (beginPass now turn s).loop = s.loop ∧
    (beginPass now turn s).stations = s.stations ∧ (beginPass now turn s).table = s.table ∧
    (beginPass now turn s).vehicle = s.vehicle ∧ (beginPass now turn s).clock = s.clock ∧
    (beginPass now turn s).buffers = s.buffers ∧ (beginPass now turn s).detached = s.detached ∧
    (beginPass now turn s).trend = s.trend ∧ (beginPass now turn s).resetHeld = s.resetHeld := by
  unfold beginPass; simp

@[simp] theorem nextPass_kept (now : BitVec 32) (turn : Turn) (s : State) :
    (nextPass now turn s).pending = s.pending ∧ (nextPass now turn s).settings = s.settings ∧
    (nextPass now turn s).store = s.store ∧ (nextPass now turn s).loop = s.loop ∧
    (nextPass now turn s).stations = s.stations ∧ (nextPass now turn s).table = s.table ∧
    (nextPass now turn s).vehicle = s.vehicle ∧ (nextPass now turn s).clock = s.clock ∧
    (nextPass now turn s).buffers = s.buffers ∧ (nextPass now turn s).detached = s.detached ∧
    (nextPass now turn s).trend = s.trend ∧ (nextPass now turn s).resetHeld = s.resetHeld := by
  unfold nextPass; simp

@[simp] theorem continueWalk_kept (r : List ScanEntry) (now : BitVec 32) (turn : Turn) (s : State) :
    (continueWalk r now turn s).pending = s.pending ∧ (continueWalk r now turn s).settings = s.settings ∧
    (continueWalk r now turn s).store = s.store ∧ (continueWalk r now turn s).loop = s.loop ∧
    (continueWalk r now turn s).stations = s.stations ∧ (continueWalk r now turn s).table = s.table ∧
    (continueWalk r now turn s).vehicle = s.vehicle ∧ (continueWalk r now turn s).clock = s.clock ∧
    (continueWalk r now turn s).buffers = s.buffers ∧ (continueWalk r now turn s).detached = s.detached ∧
    (continueWalk r now turn s).resetHeld = s.resetHeld := by
  unfold continueWalk; split <;> simp

@[simp] theorem conversionEnd_kept (raw : BitVec 14) (turn : Turn) (s : State) :
    (conversionEnd raw turn s).pending = s.pending ∧ (conversionEnd raw turn s).settings = s.settings ∧
    (conversionEnd raw turn s).store = s.store ∧ (conversionEnd raw turn s).loop = s.loop ∧
    (conversionEnd raw turn s).stations = s.stations ∧ (conversionEnd raw turn s).table = s.table ∧
    (conversionEnd raw turn s).vehicle = s.vehicle ∧ (conversionEnd raw turn s).buffers = s.buffers ∧
    (conversionEnd raw turn s).detached = s.detached ∧ (conversionEnd raw turn s).resetHeld = s.resetHeld := by
  unfold conversionEnd; split <;> simp

@[simp] theorem emptyPassEnd_kept (turn : Turn) (s : State) :
    (emptyPassEnd turn s).pending = s.pending ∧ (emptyPassEnd turn s).settings = s.settings ∧
    (emptyPassEnd turn s).store = s.store ∧ (emptyPassEnd turn s).loop = s.loop ∧
    (emptyPassEnd turn s).stations = s.stations ∧ (emptyPassEnd turn s).table = s.table ∧
    (emptyPassEnd turn s).vehicle = s.vehicle ∧ (emptyPassEnd turn s).buffers = s.buffers ∧
    (emptyPassEnd turn s).detached = s.detached ∧ (emptyPassEnd turn s).resetHeld = s.resetHeld := by
  unfold emptyPassEnd; split <;> simp

@[simp] theorem restartScan_kept (s : State) :
    (restartScan s).pending = s.pending ∧ (restartScan s).settings = s.settings ∧ (restartScan s).store = s.store ∧
    (restartScan s).loop = s.loop ∧ (restartScan s).stations = s.stations ∧ (restartScan s).table = s.table ∧
    (restartScan s).vehicle = s.vehicle ∧ (restartScan s).clock = s.clock ∧ (restartScan s).buffers = s.buffers ∧
    (restartScan s).detached = s.detached ∧ (restartScan s).trend = s.trend ∧
    (restartScan s).resetHeld = s.resetHeld := by
  unfold restartScan; split <;> simp

end Sys2Proof.Machine
end

