-- ==== Sys2Proof/Laws/FramesSettings.lean ====
section
/-! SUPPORT. Frames: what each operation of the Settings Store keeps. -/

namespace Sys2Proof.Machine

open Sys2Proof

@[simp] theorem writeWindow_kept (w : WindowSetting) (v : Word) (s : State) :
    ((writeWindow w v s).state).pending = s.pending ∧ ((writeWindow w v s).state).store = s.store ∧
    ((writeWindow w v s).state).loop = s.loop ∧ ((writeWindow w v s).state).stations = s.stations ∧
    ((writeWindow w v s).state).table = s.table ∧ ((writeWindow w v s).state).plan = s.plan ∧
    ((writeWindow w v s).state).resolver = s.resolver ∧ ((writeWindow w v s).state).reg = s.reg ∧
    ((writeWindow w v s).state).purge = s.purge ∧ ((writeWindow w v s).state).vehicle = s.vehicle ∧
    ((writeWindow w v s).state).clock = s.clock ∧ ((writeWindow w v s).state).scan = s.scan ∧
    ((writeWindow w v s).state).record = s.record ∧ ((writeWindow w v s).state).scene = s.scene ∧
    ((writeWindow w v s).state).conditions = s.conditions ∧ ((writeWindow w v s).state).alert = s.alert ∧
    ((writeWindow w v s).state).blowers = s.blowers ∧ ((writeWindow w v s).state).actuators = s.actuators ∧
    ((writeWindow w v s).state).buffers = s.buffers ∧ ((writeWindow w v s).state).marks = s.marks ∧
    ((writeWindow w v s).state).detached = s.detached ∧ ((writeWindow w v s).state).trend = s.trend ∧
    ((writeWindow w v s).state).resetHeld = s.resetHeld := by
  unfold writeWindow; split <;> simp [clampWrite]

@[simp] theorem writeReleaseRank_kept (v : Word) (s : State) :
    ((writeReleaseRank v s).state).pending = s.pending ∧ ((writeReleaseRank v s).state).store = s.store ∧
    ((writeReleaseRank v s).state).loop = s.loop ∧ ((writeReleaseRank v s).state).stations = s.stations ∧
    ((writeReleaseRank v s).state).table = s.table ∧ ((writeReleaseRank v s).state).plan = s.plan ∧
    ((writeReleaseRank v s).state).resolver = s.resolver ∧ ((writeReleaseRank v s).state).reg = s.reg ∧
    ((writeReleaseRank v s).state).purge = s.purge ∧ ((writeReleaseRank v s).state).vehicle = s.vehicle ∧
    ((writeReleaseRank v s).state).clock = s.clock ∧ ((writeReleaseRank v s).state).scan = s.scan ∧
    ((writeReleaseRank v s).state).record = s.record ∧ ((writeReleaseRank v s).state).scene = s.scene ∧
    ((writeReleaseRank v s).state).conditions = s.conditions ∧ ((writeReleaseRank v s).state).alert = s.alert ∧
    ((writeReleaseRank v s).state).blowers = s.blowers ∧ ((writeReleaseRank v s).state).actuators = s.actuators ∧
    ((writeReleaseRank v s).state).buffers = s.buffers ∧ ((writeReleaseRank v s).state).marks = s.marks ∧
    ((writeReleaseRank v s).state).detached = s.detached ∧ ((writeReleaseRank v s).state).trend = s.trend ∧
    ((writeReleaseRank v s).state).resetHeld = s.resetHeld := by
  unfold writeReleaseRank; simp [clampWrite]

@[simp] theorem setSlot_kept (n : Station) (t : SlotSettings) (s : State) :
    (setSlot n t s).pending = s.pending ∧ (setSlot n t s).store = s.store ∧ (setSlot n t s).loop = s.loop ∧
    (setSlot n t s).stations = s.stations ∧ (setSlot n t s).table = s.table ∧ (setSlot n t s).plan = s.plan ∧
    (setSlot n t s).resolver = s.resolver ∧ (setSlot n t s).reg = s.reg ∧ (setSlot n t s).purge = s.purge ∧
    (setSlot n t s).vehicle = s.vehicle ∧ (setSlot n t s).clock = s.clock ∧ (setSlot n t s).scan = s.scan ∧
    (setSlot n t s).record = s.record ∧ (setSlot n t s).scene = s.scene ∧ (setSlot n t s).conditions = s.conditions ∧
    (setSlot n t s).alert = s.alert ∧ (setSlot n t s).blowers = s.blowers ∧ (setSlot n t s).actuators = s.actuators ∧
    (setSlot n t s).buffers = s.buffers ∧ (setSlot n t s).marks = s.marks ∧ (setSlot n t s).detached = s.detached ∧
    (setSlot n t s).trend = s.trend ∧ (setSlot n t s).resetHeld = s.resetHeld := by
  unfold setSlot; simp

@[simp] theorem disableSlot_kept (n : Station) (s : State) :
    (disableSlot n s).pending = s.pending ∧ (disableSlot n s).store = s.store ∧ (disableSlot n s).clock = s.clock ∧
    (disableSlot n s).scan = s.scan ∧ (disableSlot n s).record = s.record ∧ (disableSlot n s).scene = s.scene ∧
    (disableSlot n s).detached = s.detached ∧ (disableSlot n s).resetHeld = s.resetHeld := by
  unfold disableSlot; simp

@[simp] theorem enableSlot_kept (n : Station) (s : State) :
    (enableSlot n s).pending = s.pending ∧ (enableSlot n s).store = s.store ∧ (enableSlot n s).loop = s.loop ∧
    (enableSlot n s).table = s.table ∧ (enableSlot n s).clock = s.clock ∧ (enableSlot n s).scan = s.scan ∧
    (enableSlot n s).record = s.record ∧ (enableSlot n s).scene = s.scene ∧ (enableSlot n s).buffers = s.buffers ∧
    (enableSlot n s).detached = s.detached ∧ (enableSlot n s).trend = s.trend ∧
    (enableSlot n s).resetHeld = s.resetHeld := by
  unfold enableSlot; simp

@[simp] theorem detachStation_kept (n : Station) (s : State) :
    (detachStation n s).pending = s.pending ∧ (detachStation n s).settings = s.settings ∧
    (detachStation n s).store = s.store ∧ (detachStation n s).stations = s.stations ∧
    (detachStation n s).table = s.table ∧ (detachStation n s).plan = s.plan ∧
    (detachStation n s).resolver = s.resolver ∧ (detachStation n s).reg = s.reg ∧ (detachStation n s).purge = s.purge ∧
    (detachStation n s).vehicle = s.vehicle ∧ (detachStation n s).clock = s.clock ∧ (detachStation n s).scan = s.scan ∧
    (detachStation n s).record = s.record ∧ (detachStation n s).scene = s.scene ∧
    (detachStation n s).conditions = s.conditions ∧ (detachStation n s).alert = s.alert ∧
    (detachStation n s).blowers = s.blowers ∧ (detachStation n s).actuators = s.actuators ∧
    (detachStation n s).buffers = s.buffers ∧ (detachStation n s).marks = s.marks ∧
    (detachStation n s).resetHeld = s.resetHeld := by
  unfold detachStation; split <;> simp

@[simp] theorem changeClass_kept (n : Station) (c : StationClass) (s : State) :
    (changeClass n c s).pending = s.pending ∧ (changeClass n c s).store = s.store ∧
    (changeClass n c s).stations = s.stations ∧ (changeClass n c s).clock = s.clock ∧
    (changeClass n c s).scan = s.scan ∧ (changeClass n c s).record = s.record ∧ (changeClass n c s).scene = s.scene ∧
    (changeClass n c s).buffers = s.buffers ∧ (changeClass n c s).resetHeld = s.resetHeld := by
  unfold changeClass; simp only; split <;> simp

@[simp] theorem changeScope_kept (n : Station) (sc : Scope) (s : State) :
    (changeScope n sc s).pending = s.pending ∧ (changeScope n sc s).store = s.store ∧
    (changeScope n sc s).loop = s.loop ∧ (changeScope n sc s).stations = s.stations ∧
    (changeScope n sc s).purge = s.purge ∧ (changeScope n sc s).vehicle = s.vehicle ∧
    (changeScope n sc s).clock = s.clock ∧ (changeScope n sc s).scan = s.scan ∧
    (changeScope n sc s).record = s.record ∧ (changeScope n sc s).scene = s.scene ∧
    (changeScope n sc s).buffers = s.buffers ∧ (changeScope n sc s).detached = s.detached ∧
    (changeScope n sc s).trend = s.trend ∧ (changeScope n sc s).resetHeld = s.resetHeld := by
  unfold changeScope; simp only; split <;> simp

@[simp] theorem writeSlotRank_kept (n : Station) (v : Word) (s : State) :
    ((writeSlotRank n v s).state).pending = s.pending ∧ ((writeSlotRank n v s).state).store = s.store ∧
    ((writeSlotRank n v s).state).loop = s.loop ∧ ((writeSlotRank n v s).state).stations = s.stations ∧
    ((writeSlotRank n v s).state).table = s.table ∧ ((writeSlotRank n v s).state).purge = s.purge ∧
    ((writeSlotRank n v s).state).vehicle = s.vehicle ∧ ((writeSlotRank n v s).state).clock = s.clock ∧
    ((writeSlotRank n v s).state).scan = s.scan ∧ ((writeSlotRank n v s).state).record = s.record ∧
    ((writeSlotRank n v s).state).scene = s.scene ∧ ((writeSlotRank n v s).state).buffers = s.buffers ∧
    ((writeSlotRank n v s).state).detached = s.detached ∧ ((writeSlotRank n v s).state).trend = s.trend ∧
    ((writeSlotRank n v s).state).resetHeld = s.resetHeld := by
  unfold writeSlotRank; simp only [clampWrite]; split <;> simp

@[simp] theorem writeGain_kept (g : Gain) (v : Word) (s : State) :
    ((writeGain g v s).state).pending = s.pending ∧ ((writeGain g v s).state).store = s.store ∧
    ((writeGain g v s).state).loop = s.loop ∧ ((writeGain g v s).state).stations = s.stations ∧
    ((writeGain g v s).state).table = s.table ∧ ((writeGain g v s).state).plan = s.plan ∧
    ((writeGain g v s).state).resolver = s.resolver ∧ ((writeGain g v s).state).reg = s.reg ∧
    ((writeGain g v s).state).purge = s.purge ∧ ((writeGain g v s).state).vehicle = s.vehicle ∧
    ((writeGain g v s).state).clock = s.clock ∧ ((writeGain g v s).state).scan = s.scan ∧
    ((writeGain g v s).state).record = s.record ∧ ((writeGain g v s).state).scene = s.scene ∧
    ((writeGain g v s).state).conditions = s.conditions ∧ ((writeGain g v s).state).alert = s.alert ∧
    ((writeGain g v s).state).blowers = s.blowers ∧ ((writeGain g v s).state).actuators = s.actuators ∧
    ((writeGain g v s).state).buffers = s.buffers ∧ ((writeGain g v s).state).marks = s.marks ∧
    ((writeGain g v s).state).detached = s.detached ∧ ((writeGain g v s).state).trend = s.trend ∧
    ((writeGain g v s).state).resetHeld = s.resetHeld := by
  unfold writeGain; cases g <;> simp [clampWrite]

@[simp] theorem writeDoorLevel_kept (v : Word) (s : State) :
    ((writeDoorLevel v s).state).pending = s.pending ∧ ((writeDoorLevel v s).state).store = s.store ∧
    ((writeDoorLevel v s).state).loop = s.loop ∧ ((writeDoorLevel v s).state).stations = s.stations ∧
    ((writeDoorLevel v s).state).table = s.table ∧ ((writeDoorLevel v s).state).plan = s.plan ∧
    ((writeDoorLevel v s).state).resolver = s.resolver ∧ ((writeDoorLevel v s).state).purge = s.purge ∧
    ((writeDoorLevel v s).state).vehicle = s.vehicle ∧ ((writeDoorLevel v s).state).clock = s.clock ∧
    ((writeDoorLevel v s).state).scan = s.scan ∧ ((writeDoorLevel v s).state).record = s.record ∧
    ((writeDoorLevel v s).state).scene = s.scene ∧ ((writeDoorLevel v s).state).actuators = s.actuators ∧
    ((writeDoorLevel v s).state).buffers = s.buffers ∧ ((writeDoorLevel v s).state).detached = s.detached ∧
    ((writeDoorLevel v s).state).trend = s.trend ∧ ((writeDoorLevel v s).state).resetHeld = s.resetHeld := by
  unfold writeDoorLevel; simp [clampWrite]

@[simp] theorem writeReturnTime_kept (v : Word) (s : State) :
    ((writeReturnTime v s).state).pending = s.pending ∧ ((writeReturnTime v s).state).store = s.store ∧
    ((writeReturnTime v s).state).loop = s.loop ∧ ((writeReturnTime v s).state).stations = s.stations ∧
    ((writeReturnTime v s).state).table = s.table ∧ ((writeReturnTime v s).state).plan = s.plan ∧
    ((writeReturnTime v s).state).resolver = s.resolver ∧ ((writeReturnTime v s).state).reg = s.reg ∧
    ((writeReturnTime v s).state).purge = s.purge ∧ ((writeReturnTime v s).state).vehicle = s.vehicle ∧
    ((writeReturnTime v s).state).clock = s.clock ∧ ((writeReturnTime v s).state).scan = s.scan ∧
    ((writeReturnTime v s).state).record = s.record ∧ ((writeReturnTime v s).state).scene = s.scene ∧
    ((writeReturnTime v s).state).conditions = s.conditions ∧ ((writeReturnTime v s).state).alert = s.alert ∧
    ((writeReturnTime v s).state).blowers = s.blowers ∧ ((writeReturnTime v s).state).actuators = s.actuators ∧
    ((writeReturnTime v s).state).buffers = s.buffers ∧ ((writeReturnTime v s).state).marks = s.marks ∧
    ((writeReturnTime v s).state).detached = s.detached ∧ ((writeReturnTime v s).state).trend = s.trend ∧
    ((writeReturnTime v s).state).resetHeld = s.resetHeld := by
  unfold writeReturnTime; simp [clampWrite]

@[simp] theorem writeScan_kept (f : ScanField) (v : Word) (s : State) :
    ((writeScan f v s).state).pending = s.pending ∧ ((writeScan f v s).state).store = s.store ∧
    ((writeScan f v s).state).loop = s.loop ∧ ((writeScan f v s).state).stations = s.stations ∧
    ((writeScan f v s).state).table = s.table ∧ ((writeScan f v s).state).vehicle = s.vehicle ∧
    ((writeScan f v s).state).clock = s.clock ∧ ((writeScan f v s).state).buffers = s.buffers ∧
    ((writeScan f v s).state).detached = s.detached ∧ ((writeScan f v s).state).trend = s.trend ∧
    ((writeScan f v s).state).resetHeld = s.resetHeld := by
  unfold writeScan; split <;> simp [clampWrite]

@[simp] theorem writeCalibration_kept (c : CalChannel) (k : CalibrationPart) (v : Word) (s : State) :
    ((writeCalibration c k v s).state).pending = s.pending ∧ ((writeCalibration c k v s).state).store = s.store ∧
    ((writeCalibration c k v s).state).loop = s.loop ∧ ((writeCalibration c k v s).state).stations = s.stations ∧
    ((writeCalibration c k v s).state).table = s.table ∧ ((writeCalibration c k v s).state).plan = s.plan ∧
    ((writeCalibration c k v s).state).resolver = s.resolver ∧ ((writeCalibration c k v s).state).reg = s.reg ∧
    ((writeCalibration c k v s).state).purge = s.purge ∧ ((writeCalibration c k v s).state).vehicle = s.vehicle ∧
    ((writeCalibration c k v s).state).clock = s.clock ∧ ((writeCalibration c k v s).state).scan = s.scan ∧
    ((writeCalibration c k v s).state).record = s.record ∧ ((writeCalibration c k v s).state).scene = s.scene ∧
    ((writeCalibration c k v s).state).conditions = s.conditions ∧ ((writeCalibration c k v s).state).alert = s.alert ∧
    ((writeCalibration c k v s).state).blowers = s.blowers ∧
    ((writeCalibration c k v s).state).actuators = s.actuators ∧
    ((writeCalibration c k v s).state).buffers = s.buffers ∧ ((writeCalibration c k v s).state).marks = s.marks ∧
    ((writeCalibration c k v s).state).detached = s.detached ∧ ((writeCalibration c k v s).state).trend = s.trend ∧
    ((writeCalibration c k v s).state).resetHeld = s.resetHeld := by
  unfold writeCalibration; split <;> simp [codedWrite]

@[simp] theorem setThresholds_kept (t : Thresholds) (s : State) :
    (setThresholds t s).pending = s.pending ∧ (setThresholds t s).store = s.store ∧ (setThresholds t s).loop = s.loop ∧
    (setThresholds t s).stations = s.stations ∧ (setThresholds t s).table = s.table ∧
    (setThresholds t s).plan = s.plan ∧ (setThresholds t s).resolver = s.resolver ∧ (setThresholds t s).reg = s.reg ∧
    (setThresholds t s).purge = s.purge ∧ (setThresholds t s).vehicle = s.vehicle ∧
    (setThresholds t s).clock = s.clock ∧ (setThresholds t s).scan = s.scan ∧ (setThresholds t s).record = s.record ∧
    (setThresholds t s).scene = s.scene ∧ (setThresholds t s).conditions = s.conditions ∧
    (setThresholds t s).alert = s.alert ∧ (setThresholds t s).blowers = s.blowers ∧
    (setThresholds t s).actuators = s.actuators ∧ (setThresholds t s).buffers = s.buffers ∧
    (setThresholds t s).marks = s.marks ∧ (setThresholds t s).detached = s.detached ∧
    (setThresholds t s).trend = s.trend ∧ (setThresholds t s).resetHeld = s.resetHeld := by
  unfold setThresholds; simp

@[simp] theorem writeThreshold_kept (t : Threshold) (v : Word) (s : State) :
    ((writeThreshold t v s).state).pending = s.pending ∧ ((writeThreshold t v s).state).store = s.store ∧
    ((writeThreshold t v s).state).loop = s.loop ∧ ((writeThreshold t v s).state).stations = s.stations ∧
    ((writeThreshold t v s).state).table = s.table ∧ ((writeThreshold t v s).state).plan = s.plan ∧
    ((writeThreshold t v s).state).resolver = s.resolver ∧ ((writeThreshold t v s).state).reg = s.reg ∧
    ((writeThreshold t v s).state).purge = s.purge ∧ ((writeThreshold t v s).state).vehicle = s.vehicle ∧
    ((writeThreshold t v s).state).clock = s.clock ∧ ((writeThreshold t v s).state).scan = s.scan ∧
    ((writeThreshold t v s).state).record = s.record ∧ ((writeThreshold t v s).state).scene = s.scene ∧
    ((writeThreshold t v s).state).conditions = s.conditions ∧ ((writeThreshold t v s).state).alert = s.alert ∧
    ((writeThreshold t v s).state).blowers = s.blowers ∧ ((writeThreshold t v s).state).actuators = s.actuators ∧
    ((writeThreshold t v s).state).buffers = s.buffers ∧ ((writeThreshold t v s).state).marks = s.marks ∧
    ((writeThreshold t v s).state).detached = s.detached ∧ ((writeThreshold t v s).state).trend = s.trend ∧
    ((writeThreshold t v s).state).resetHeld = s.resetHeld := by
  unfold writeThreshold; cases t <;> simp [clampWrite]

@[simp] theorem updateAlert_kept (s : State) :
    (updateAlert s).pending = s.pending ∧ (updateAlert s).settings = s.settings ∧ (updateAlert s).store = s.store ∧
    (updateAlert s).loop = s.loop ∧ (updateAlert s).stations = s.stations ∧ (updateAlert s).table = s.table ∧
    (updateAlert s).plan = s.plan ∧ (updateAlert s).resolver = s.resolver ∧ (updateAlert s).reg = s.reg ∧
    (updateAlert s).purge = s.purge ∧ (updateAlert s).vehicle = s.vehicle ∧ (updateAlert s).clock = s.clock ∧
    (updateAlert s).scan = s.scan ∧ (updateAlert s).record = s.record ∧ (updateAlert s).scene = s.scene ∧
    (updateAlert s).conditions = s.conditions ∧ (updateAlert s).blowers = s.blowers ∧
    (updateAlert s).actuators = s.actuators ∧ (updateAlert s).buffers = s.buffers ∧
    (updateAlert s).detached = s.detached ∧ (updateAlert s).trend = s.trend ∧
    (updateAlert s).resetHeld = s.resetHeld := by
  unfold updateAlert; simp

@[simp] theorem writeAlertMask_kept (v : Word) (s : State) :
    ((writeAlertMask v s).state).pending = s.pending ∧ ((writeAlertMask v s).state).store = s.store ∧
    ((writeAlertMask v s).state).loop = s.loop ∧ ((writeAlertMask v s).state).stations = s.stations ∧
    ((writeAlertMask v s).state).table = s.table ∧ ((writeAlertMask v s).state).plan = s.plan ∧
    ((writeAlertMask v s).state).resolver = s.resolver ∧ ((writeAlertMask v s).state).reg = s.reg ∧
    ((writeAlertMask v s).state).purge = s.purge ∧ ((writeAlertMask v s).state).vehicle = s.vehicle ∧
    ((writeAlertMask v s).state).clock = s.clock ∧ ((writeAlertMask v s).state).scan = s.scan ∧
    ((writeAlertMask v s).state).record = s.record ∧ ((writeAlertMask v s).state).scene = s.scene ∧
    ((writeAlertMask v s).state).conditions = s.conditions ∧ ((writeAlertMask v s).state).blowers = s.blowers ∧
    ((writeAlertMask v s).state).actuators = s.actuators ∧ ((writeAlertMask v s).state).buffers = s.buffers ∧
    ((writeAlertMask v s).state).detached = s.detached ∧ ((writeAlertMask v s).state).trend = s.trend ∧
    ((writeAlertMask v s).state).resetHeld = s.resetHeld := by
  unfold writeAlertMask; simp [codedWrite]

@[simp] theorem watchBlowers_kept (s : State) :
    (watchBlowers s).pending = s.pending ∧ (watchBlowers s).settings = s.settings ∧ (watchBlowers s).store = s.store ∧
    (watchBlowers s).loop = s.loop ∧ (watchBlowers s).stations = s.stations ∧ (watchBlowers s).table = s.table ∧
    (watchBlowers s).plan = s.plan ∧ (watchBlowers s).resolver = s.resolver ∧ (watchBlowers s).reg = s.reg ∧
    (watchBlowers s).purge = s.purge ∧ (watchBlowers s).vehicle = s.vehicle ∧ (watchBlowers s).clock = s.clock ∧
    (watchBlowers s).scan = s.scan ∧ (watchBlowers s).record = s.record ∧ (watchBlowers s).scene = s.scene ∧
    (watchBlowers s).conditions = s.conditions ∧ (watchBlowers s).alert = s.alert ∧
    (watchBlowers s).actuators = s.actuators ∧ (watchBlowers s).buffers = s.buffers ∧
    (watchBlowers s).marks = s.marks ∧ (watchBlowers s).detached = s.detached ∧ (watchBlowers s).trend = s.trend ∧
    (watchBlowers s).resetHeld = s.resetHeld := by
  unfold watchBlowers; simp

@[simp] theorem writeLevel_kept (l : LevelSetting) (v : Word) (s : State) :
    ((writeLevel l v s).state).pending = s.pending ∧ ((writeLevel l v s).state).store = s.store ∧
    ((writeLevel l v s).state).loop = s.loop ∧ ((writeLevel l v s).state).stations = s.stations ∧
    ((writeLevel l v s).state).table = s.table ∧ ((writeLevel l v s).state).plan = s.plan ∧
    ((writeLevel l v s).state).resolver = s.resolver ∧ ((writeLevel l v s).state).reg = s.reg ∧
    ((writeLevel l v s).state).purge = s.purge ∧ ((writeLevel l v s).state).vehicle = s.vehicle ∧
    ((writeLevel l v s).state).clock = s.clock ∧ ((writeLevel l v s).state).scan = s.scan ∧
    ((writeLevel l v s).state).record = s.record ∧ ((writeLevel l v s).state).scene = s.scene ∧
    ((writeLevel l v s).state).conditions = s.conditions ∧ ((writeLevel l v s).state).alert = s.alert ∧
    ((writeLevel l v s).state).actuators = s.actuators ∧ ((writeLevel l v s).state).buffers = s.buffers ∧
    ((writeLevel l v s).state).marks = s.marks ∧ ((writeLevel l v s).state).detached = s.detached ∧
    ((writeLevel l v s).state).trend = s.trend ∧ ((writeLevel l v s).state).resetHeld = s.resetHeld := by
  unfold writeLevel; cases l <;> simp [clampWrite]

@[simp] theorem writeTime_kept (t : TimeSetting) (v : Word) (s : State) :
    ((writeTime t v s).state).pending = s.pending ∧ ((writeTime t v s).state).store = s.store ∧
    ((writeTime t v s).state).loop = s.loop ∧ ((writeTime t v s).state).stations = s.stations ∧
    ((writeTime t v s).state).table = s.table ∧ ((writeTime t v s).state).purge = s.purge ∧
    ((writeTime t v s).state).vehicle = s.vehicle ∧ ((writeTime t v s).state).clock = s.clock ∧
    ((writeTime t v s).state).scan = s.scan ∧ ((writeTime t v s).state).record = s.record ∧
    ((writeTime t v s).state).scene = s.scene ∧ ((writeTime t v s).state).buffers = s.buffers ∧
    ((writeTime t v s).state).detached = s.detached ∧ ((writeTime t v s).state).trend = s.trend ∧
    ((writeTime t v s).state).resetHeld = s.resetHeld := by
  unfold writeTime; cases t <;> simp [clampWrite]

@[simp] theorem writeFeedbackEnd_kept (a : ActuatorId) (e : FeedbackEnd) (v : Word) (s : State) :
    ((writeFeedbackEnd a e v s).state).pending = s.pending ∧ ((writeFeedbackEnd a e v s).state).store = s.store ∧
    ((writeFeedbackEnd a e v s).state).loop = s.loop ∧ ((writeFeedbackEnd a e v s).state).stations = s.stations ∧
    ((writeFeedbackEnd a e v s).state).table = s.table ∧ ((writeFeedbackEnd a e v s).state).plan = s.plan ∧
    ((writeFeedbackEnd a e v s).state).resolver = s.resolver ∧ ((writeFeedbackEnd a e v s).state).reg = s.reg ∧
    ((writeFeedbackEnd a e v s).state).purge = s.purge ∧ ((writeFeedbackEnd a e v s).state).vehicle = s.vehicle ∧
    ((writeFeedbackEnd a e v s).state).clock = s.clock ∧ ((writeFeedbackEnd a e v s).state).scan = s.scan ∧
    ((writeFeedbackEnd a e v s).state).record = s.record ∧ ((writeFeedbackEnd a e v s).state).scene = s.scene ∧
    ((writeFeedbackEnd a e v s).state).conditions = s.conditions ∧ ((writeFeedbackEnd a e v s).state).alert = s.alert ∧
    ((writeFeedbackEnd a e v s).state).blowers = s.blowers ∧
    ((writeFeedbackEnd a e v s).state).actuators = s.actuators ∧
    ((writeFeedbackEnd a e v s).state).buffers = s.buffers ∧ ((writeFeedbackEnd a e v s).state).marks = s.marks ∧
    ((writeFeedbackEnd a e v s).state).detached = s.detached ∧ ((writeFeedbackEnd a e v s).state).trend = s.trend ∧
    ((writeFeedbackEnd a e v s).state).resetHeld = s.resetHeld := by
  unfold writeFeedbackEnd; cases e <;> simp [clampWrite]

@[simp] theorem serveStore_kept (s : State) :
    ((serveStore s).state).pending = s.pending ∧ ((serveStore s).state).settings = s.settings ∧
    ((serveStore s).state).loop = s.loop ∧ ((serveStore s).state).stations = s.stations ∧
    ((serveStore s).state).table = s.table ∧ ((serveStore s).state).plan = s.plan ∧
    ((serveStore s).state).resolver = s.resolver ∧ ((serveStore s).state).reg = s.reg ∧
    ((serveStore s).state).purge = s.purge ∧ ((serveStore s).state).vehicle = s.vehicle ∧
    ((serveStore s).state).clock = s.clock ∧ ((serveStore s).state).scan = s.scan ∧
    ((serveStore s).state).record = s.record ∧ ((serveStore s).state).scene = s.scene ∧
    ((serveStore s).state).conditions = s.conditions ∧ ((serveStore s).state).alert = s.alert ∧
    ((serveStore s).state).blowers = s.blowers ∧ ((serveStore s).state).actuators = s.actuators ∧
    ((serveStore s).state).buffers = s.buffers ∧ ((serveStore s).state).marks = s.marks ∧
    ((serveStore s).state).detached = s.detached ∧ ((serveStore s).state).trend = s.trend ∧
    ((serveStore s).state).resetHeld = s.resetHeld := by
  unfold serveStore; split
  · split <;> simp [Served.refuse]
  · simp [Served.refuse]

@[simp] theorem completeStore_kept (w : Writing) (s : State) :
    (completeStore w s).pending = s.pending ∧ (completeStore w s).settings = s.settings ∧
    (completeStore w s).loop = s.loop ∧ (completeStore w s).stations = s.stations ∧
    (completeStore w s).table = s.table ∧ (completeStore w s).purge = s.purge ∧
    (completeStore w s).vehicle = s.vehicle ∧ (completeStore w s).scan = s.scan ∧
    (completeStore w s).record = s.record ∧ (completeStore w s).scene = s.scene ∧
    (completeStore w s).buffers = s.buffers ∧ (completeStore w s).detached = s.detached ∧
    (completeStore w s).trend = s.trend ∧ (completeStore w s).resetHeld = s.resetHeld := by
  unfold completeStore; simp

end Sys2Proof.Machine
end

