-- ==== Sys2Proof/Laws/Tables.lean ====
section
/-! SUPPORT. Laws of the tables by station, blower, actuator, door and channel, of the condition set and of the change
marks: what a read gives after a write, after a map and from a table built by a function. -/

namespace Sys2Proof

/-! ## PerStation -/

@[simp] theorem PerStation.get_set {α : Type} (t : PerStation α) (i j : Station) (v : α) :
    (t.set i v).get j = if j = i then v else t.get j := by
  cases i <;> cases j <;> rfl

@[simp] theorem PerStation.get_ofFn {α : Type} (f : Station → α) (i : Station) : (PerStation.ofFn f).get i = f i := by
  cases i <;> rfl

@[simp] theorem PerStation.get_mapWith {α β : Type} (t : PerStation α) (f : Station → α → β) (i : Station) :
    (t.mapWith f).get i = f i (t.get i) := by
  simp [PerStation.mapWith]

@[simp] theorem PerStation.get_map {α β : Type} (t : PerStation α) (f : α → β) (i : Station) :
    (t.map f).get i = f (t.get i) := by
  simp [PerStation.map]

/-- Two tables that read the same everywhere are one. -/
theorem PerStation.ext_get {α : Type} {t u : PerStation α} (h : ∀ i, t.get i = u.get i) : t = u := by
  cases t; cases u
  simp only [PerStation.mk.injEq]
  exact ⟨h .s1, h .s2, h .s3, h .s4, h .s5, h .s6, h .s7, h .s8⟩

@[simp] theorem PerStation.set_get_self {α : Type} (t : PerStation α) (i : Station) : t.set i (t.get i) = t := by
  cases i <;> rfl

/-! ## PerBlower -/

@[simp] theorem PerBlower.get_set {α : Type} (t : PerBlower α) (i j : Blower) (v : α) :
    (t.set i v).get j = if j = i then v else t.get j := by
  cases i <;> cases j <;> rfl

@[simp] theorem PerBlower.get_ofFn {α : Type} (f : Blower → α) (i : Blower) : (PerBlower.ofFn f).get i = f i := by
  cases i <;> rfl

@[simp] theorem PerBlower.get_mapWith {α β : Type} (t : PerBlower α) (f : Blower → α → β) (i : Blower) :
    (t.mapWith f).get i = f i (t.get i) := by
  simp [PerBlower.mapWith]

@[simp] theorem PerBlower.get_map {α β : Type} (t : PerBlower α) (f : α → β) (i : Blower) :
    (t.map f).get i = f (t.get i) := by
  simp [PerBlower.map]

/-- Two tables that read the same everywhere are one. -/
theorem PerBlower.ext_get {α : Type} {t u : PerBlower α} (h : ∀ i, t.get i = u.get i) : t = u := by
  cases t; cases u
  simp only [PerBlower.mk.injEq]
  exact ⟨h .intake, h .front, h .rear⟩

@[simp] theorem PerBlower.set_get_self {α : Type} (t : PerBlower α) (i : Blower) : t.set i (t.get i) = t := by
  cases i <;> rfl

/-! ## PerActuator -/

@[simp] theorem PerActuator.get_set {α : Type} (t : PerActuator α) (i j : ActuatorId) (v : α) :
    (t.set i v).get j = if j = i then v else t.get j := by
  cases i <;> cases j <;> rfl

@[simp] theorem PerActuator.get_ofFn {α : Type} (f : ActuatorId → α) (i : ActuatorId) : (PerActuator.ofFn f).get i = f i := by
  cases i <;> rfl

@[simp] theorem PerActuator.get_mapWith {α β : Type} (t : PerActuator α) (f : ActuatorId → α → β) (i : ActuatorId) :
    (t.mapWith f).get i = f i (t.get i) := by
  simp [PerActuator.mapWith]

@[simp] theorem PerActuator.get_map {α β : Type} (t : PerActuator α) (f : α → β) (i : ActuatorId) :
    (t.map f).get i = f (t.get i) := by
  simp [PerActuator.map]

/-- Two tables that read the same everywhere are one. -/
theorem PerActuator.ext_get {α : Type} {t u : PerActuator α} (h : ∀ i, t.get i = u.get i) : t = u := by
  cases t; cases u
  simp only [PerActuator.mk.injEq]
  exact ⟨h .shutter, h .relief, h .heater, h .frontMix, h .rearMix⟩

@[simp] theorem PerActuator.set_get_self {α : Type} (t : PerActuator α) (i : ActuatorId) : t.set i (t.get i) = t := by
  cases i <;> rfl

/-! ## PerDoor -/

@[simp] theorem PerDoor.get_set {α : Type} (t : PerDoor α) (i j : Door) (v : α) :
    (t.set i v).get j = if j = i then v else t.get j := by
  cases i <;> cases j <;> rfl

@[simp] theorem PerDoor.get_ofFn {α : Type} (f : Door → α) (i : Door) : (PerDoor.ofFn f).get i = f i := by
  cases i <;> rfl

@[simp] theorem PerDoor.get_mapWith {α β : Type} (t : PerDoor α) (f : Door → α → β) (i : Door) :
    (t.mapWith f).get i = f i (t.get i) := by
  simp [PerDoor.mapWith]

@[simp] theorem PerDoor.get_map {α β : Type} (t : PerDoor α) (f : α → β) (i : Door) :
    (t.map f).get i = f (t.get i) := by
  simp [PerDoor.map]

/-- Two tables that read the same everywhere are one. -/
theorem PerDoor.ext_get {α : Type} {t u : PerDoor α} (h : ∀ i, t.get i = u.get i) : t = u := by
  cases t; cases u
  simp only [PerDoor.mk.injEq]
  exact ⟨h .d1, h .d2, h .d3, h .d4, h .d5, h .d6⟩

@[simp] theorem PerDoor.set_get_self {α : Type} (t : PerDoor α) (i : Door) : t.set i (t.get i) = t := by
  cases i <;> rfl

/-! ## PerCal -/

@[simp] theorem PerCal.get_set {α : Type} (t : PerCal α) (i j : CalChannel) (v : α) :
    (t.set i v).get j = if j = i then v else t.get j := by
  cases i <;> cases j <;> rfl

@[simp] theorem PerCal.get_ofFn {α : Type} (f : CalChannel → α) (i : CalChannel) : (PerCal.ofFn f).get i = f i := by
  cases i <;> rfl

@[simp] theorem PerCal.get_mapWith {α β : Type} (t : PerCal α) (f : CalChannel → α → β) (i : CalChannel) :
    (t.mapWith f).get i = f i (t.get i) := by
  simp [PerCal.mapWith]

@[simp] theorem PerCal.get_map {α β : Type} (t : PerCal α) (f : α → β) (i : CalChannel) :
    (t.map f).get i = f (t.get i) := by
  simp [PerCal.map]

/-- Two tables that read the same everywhere are one. -/
theorem PerCal.ext_get {α : Type} {t u : PerCal α} (h : ∀ i, t.get i = u.get i) : t = u := by
  cases t; cases u
  simp only [PerCal.mk.injEq]
  exact ⟨h .cabPressure, h .intakeFlow, h .filterDrop, h .outsideSmoke, h .outsideCo, h .frontCo, h .rearCo, h .frontTemp, h .rearTemp, h .coolantTemp, h .supply⟩

@[simp] theorem PerCal.set_get_self {α : Type} (t : PerCal α) (i : CalChannel) : t.set i (t.get i) = t := by
  cases i <;> rfl

/-! ## PerChannel -/

@[simp] theorem PerChannel.get_set {α : Type} (t : PerChannel α) (c d : Channel) (v : α) :
    (t.set c v).get d = if d = c then v else t.get d := by
  cases c <;> cases d <;> simp [PerChannel.set, PerChannel.get]

@[simp] theorem PerChannel.get_ofFn {α : Type} (f : Channel → α) (c : Channel) : (PerChannel.ofFn f).get c = f c := by
  cases c <;> simp [PerChannel.ofFn, PerChannel.get]

@[simp] theorem PerChannel.get_mapWith {α β : Type} (t : PerChannel α) (f : Channel → α → β) (c : Channel) :
    (t.mapWith f).get c = f c (t.get c) := by
  simp [PerChannel.mapWith]

/-- The calibrated part of a table reads as the table does. -/
theorem PerChannel.cal_get {α : Type} (t : PerChannel α) (k : CalChannel) : t.cal.get k = t.get (.cal k) := rfl

/-- Every station is one of the eight. -/
theorem Station.mem_all (n : Station) : n ∈ Station.all := by cases n <;> decide

/-- Every blower is one of the three. -/
theorem Blower.mem_all (b : Blower) : b ∈ Blower.all := by cases b <;> decide

/-- Every actuator is one of the five. -/
theorem ActuatorId.mem_all (a : ActuatorId) : a ∈ ActuatorId.all := by cases a <;> decide

/-- Every door is one of the six. -/
theorem Door.mem_all (d : Door) : d ∈ Door.all := by cases d <;> decide

/-- Every calibrated channel is one of the eleven. -/
theorem CalChannel.mem_all (c : CalChannel) : c ∈ CalChannel.all := by cases c <;> decide

end Sys2Proof

namespace Sys2Proof.Machine

open Sys2Proof

/-! ## Conditions and marks -/

@[simp] theorem Conditions.get_set (cs : Conditions) (c d : Condition) (v : Bool) :
    (cs.set c v).get d = if d = c then v else cs.get d := by
  cases c <;> cases d <;> rfl

/-- Two condition sets that read the same everywhere are one. -/
theorem Conditions.ext_get {cs ds : Conditions} (h : ∀ c, cs.get c = ds.get c) : cs = ds := by
  cases cs; cases ds
  simp only [Conditions.mk.injEq]
  exact ⟨h .smokeOutside, h .heavySmoke, h .outsideCoHigh, h .cabCoHigh, h .coUnderSeal, h .filterLoaded, h .supplyLow,
    h .holdShortfall, h .purgeIncomplete, h .vehicleUnverified, h .sensorFailed, h .converterDrift, h .motorFault,
    h .actuatorStuck, h .loopFault, h .settingsDefaulted⟩

/-- Every condition is one of the sixteen. -/
theorem Condition.mem_all (c : Condition) : c ∈ Condition.all := by cases c <;> decide

@[simp] theorem Marks.get_put (m : Marks) (g h : Group) (v : Bool) :
    (m.put g v).get h = if h = g then v else m.get h := by
  cases g <;> cases h <;> rfl

/-- The pin is driven exactly where some condition of the mask is Raised (R134). -/
theorem alertOf_iff (mask : Word) (cs : Conditions) :
    alertOf mask cs = true ↔ ∃ c : Condition, mask.getLsbD c.num = true ∧ cs.get c = true := by
  simp only [alertOf, List.any_eq_true, Bool.and_eq_true]
  exact ⟨fun ⟨c, _, h⟩ => ⟨c, h⟩, fun ⟨c, h⟩ => ⟨c, Condition.mem_all c, h⟩⟩

end Sys2Proof.Machine
end

