-- ==== Sys2Proof/Laws/Ops.lean ====
section
/-! SUPPORT. What each shared operation does, said once: the arithmetic of the rules, the relations that say what may
change, the marks, the conditions, the clock, and the taking of a cell. -/

namespace Sys2Proof.Machine

open Sys2Proof

/-! ## Arithmetic -/

/-- A clamped value lies in its range and is the value itself where that did. -/
theorem clampNat_spec (lo hi v : Nat) (h : lo ≤ hi) :
    lo ≤ clampNat lo hi v ∧ clampNat lo hi v ≤ hi ∧ (clampNat lo hi v = v ↔ lo ≤ v ∧ v ≤ hi) := by
  unfold clampNat; split <;> [skip; split] <;> omega

/-- `clampInt` brings its value into the range. -/
theorem clampInt_eq_within (lo hi v : Int) (h : lo ≤ hi) : clampInt lo hi v = within lo hi v := by
  unfold clampInt within; split <;> [skip; split] <;> omega

/-- `clampNat` brings its value into the range. -/
theorem clampNat_eq_within (lo hi v : Nat) (h : lo ≤ hi) : (clampNat lo hi v : Int) = within lo hi v := by
  unfold clampNat within; split <;> [skip; split] <;> omega

/-- The rounding of R15 gives the multiple of 5 at most 2 away. -/
theorem roundFive_spec (v : Int) : roundFive v % 5 = 0 ∧ roundFive v - 2 ≤ v ∧ v ≤ roundFive v + 2 := by
  unfold roundFive; split <;> omega

/-- The quotient that `roundHalfAway` gives is the rounded one (R113, R149). -/
theorem roundHalfAway_spec (p : Int) (d : Nat) (hd : 0 < d) : RoundsTo p d (roundHalfAway p d) := by
  have floor : ∀ x : Int, 2 * ((d : Int) * ((2 * x + d) / (2 * d))) ≤ 2 * x + d ∧
      2 * x + d < 2 * ((d : Int) * ((2 * x + d) / (2 * d))) + 2 * d := by
    intro x
    have h1 := Int.mul_ediv_self_le (x := 2 * x + d) (k := 2 * (d : Int)) (by omega)
    have h2 := Int.lt_mul_ediv_self_add (x := 2 * x + d) (k := 2 * (d : Int)) (by omega)
    rw [mul_assoc] at h1 h2
    exact ⟨h1, h2⟩
  unfold roundHalfAway RoundsTo
  split
  · have h := floor (-p)
    rw [mul_neg]
    generalize (d : Int) * ((2 * -p + d) / (2 * d)) = x at h ⊢
    omega
  · have h := floor p
    generalize (d : Int) * ((2 * p + d) / (2 * d)) = x at h ⊢
    omega

/-! ## What may change -/

theorem ChangesOnly.refl (ps : List Part) (s : State) : ChangesOnly ps s s := by
  intro p _; cases p <;> rfl

theorem ChangesOnly.mono {ps qs : List Part} {s t : State} (h : ChangesOnly ps s t) (hq : ∀ p ∈ ps, p ∈ qs) :
    ChangesOnly qs s t := fun p hp => h p fun hm => hp (hq p hm)

theorem Part.same_trans {s t u : State} (p : Part) (h : p.same s t) (h' : p.same t u) : p.same s u := by
  cases p <;> exact Eq.trans h' h

theorem ChangesOnly.trans {ps : List Part} {s t u : State} (h : ChangesOnly ps s t) (h' : ChangesOnly ps t u) :
    ChangesOnly ps s u := fun p hp => p.same_trans (h p hp) (h' p hp)

theorem ConditionsChangeOnly.trans {cs : List Condition} {s t u : State} (h : ConditionsChangeOnly cs s t)
    (h' : ConditionsChangeOnly cs t u) : ConditionsChangeOnly cs s u := fun c hc => (h' c hc).trans (h c hc)

theorem ConditionsChangeOnly.mono {cs ds : List Condition} {s t : State} (h : ConditionsChangeOnly cs s t)
    (hd : ∀ c ∈ cs, c ∈ ds) : ConditionsChangeOnly ds s t := fun c hc => h c fun hm => hc (hd c hm)

theorem MarksChangeOnly.trans {gs : List Group} {s t u : State} (h : MarksChangeOnly gs s t)
    (h' : MarksChangeOnly gs t u) : MarksChangeOnly gs s u := fun n g hg => (h' n g hg).trans (h n g hg)

theorem MarksChangeOnly.mono {gs hs : List Group} {s t : State} (h : MarksChangeOnly gs s t)
    (hh : ∀ g ∈ gs, g ∈ hs) : MarksChangeOnly hs s t := fun n g hg => h n g fun hm => hg (hh g hm)

/-! ## Marks -/

/-- A mark after `markAll`. -/
theorem markAll_get (g h : Group) (n : Station) (s : State) :
    ((markAll g s).marks.get n).get h =
      if h = g ∧ s.modeOf n ≠ .disabled then true else (s.marks.get n).get h := by
  unfold markAll
  by_cases hd : s.modeOf n = .disabled <;> by_cases hg : h = g <;> simp [hd, hg]

/-- `markAll` sets the mark of its group for every station that is not Disabled, and changes nothing else. -/
theorem markAll_spec (g : Group) (s : State) :
    MarkedAll g (markAll g s) ∧ MarksChangeOnly [g] s (markAll g s) ∧ ChangesOnly [.marks] s (markAll g s) := by
  refine ⟨fun n hn => ?_, fun n h hh => ?_, fun p hp => ?_⟩
  · have hm : s.modeOf n ≠ .disabled := hn
    rw [markAll_get]; simp [hm]
  · have : h ≠ g := fun e => hh (by simp [e])
    rw [markAll_get]; simp [this]
  · cases p <;> first | rfl | exact absurd (by simp) hp

/-! ## Conditions -/

/-- When the ALERT pin is to be driven (R134). -/
theorem alertDue_iff (s : State) :
    s.alertDue = true ↔
      s.resetHeld = false ∧ ∃ c, s.settings.alertMask.getLsbD c.num = true ∧ s.conditions.get c = true := by
  simp [State.alertDue, alertOf_iff]

/-- What `setCondition` does: the condition stands as asked, the ALERT pin follows the mask where it changed, with the
Conditions marks, and nothing else changes (R124, R134). -/
theorem setCondition_spec (c : Condition) (v : Bool) (s : State) :
    (∀ d, (setCondition c v s).conditions.get d = if d = c then v else s.conditions.get d) ∧
    (s.conditions.get c = v → setCondition c v s = s) ∧
    (s.conditions.get c ≠ v →
      (setCondition c v s).alert = (setCondition c v s).alertDue ∧
      MarkedAll .conditions (setCondition c v s)) ∧
    MarksChangeOnly [.conditions] s (setCondition c v s) ∧
    ChangesOnly [.conditions, .alert, .marks] s (setCondition c v s) := by
  by_cases h : s.conditions.get c = v
  · have e : setCondition c v s = s := by simp [setCondition, h]
    rw [e]
    refine ⟨fun d => ?_, fun _ => rfl, fun hn => absurd h hn, fun _ _ _ => rfl, ChangesOnly.refl _ s⟩
    split
    · next hd => rw [hd, h]
    · rfl
  · have e : setCondition c v s = markAll .conditions ((s.setConditions (s.conditions.set c v)).setAlert
        (s.setConditions (s.conditions.set c v)).alertDue) := by simp [setCondition, h]
    have hs := markAll_spec .conditions ((s.setConditions (s.conditions.set c v)).setAlert
        (s.setConditions (s.conditions.set c v)).alertDue)
    rw [e]
    refine ⟨fun d => by simp, fun hn => absurd hn h, fun _ => ⟨by simp [State.alertDue], hs.1⟩, hs.2.1, fun p hp => ?_⟩
    cases p <;> first | rfl | exact absurd (by simp) hp

/-- The pin stays with the mask (R134). -/
theorem setCondition_alert (c : Condition) (v : Bool) {s : State} (h : AlertWithMask s) :
    AlertWithMask (setCondition c v s) := by
  by_cases hv : s.conditions.get c = v
  · rw [(setCondition_spec c v s).2.1 hv]; exact h
  · have ha := ((setCondition_spec c v s).2.2.1 hv).1
    unfold AlertWithMask
    rw [ha, alertDue_iff]

/-! ## Triggers and orders -/

/-- A resolution where a trigger was given is one or none. -/
theorem resolveIf_cases (b : Bool) (s : State) :
    (b = true ∧ resolveIf b s = resolve s) ∨ (b = false ∧ resolveIf b s = s) := by
  cases b <;> simp [resolveIf]

/-- A shared event takes its two blocks in one of the two orders. -/
theorem shareEvent_cases (turn : Turn) (f g : State → State) (s : State) :
    shareEvent turn f g s = g (f s) ∨ shareEvent turn f g s = f (g s) := by
  cases turn <;> simp [shareEvent]

/-- A property that two blocks keep, a shared event of them keeps in either order. -/
theorem shareEvent_keeps {P : State → Prop} {f g : State → State} (hf : ∀ s, P s → P (f s)) (hg : ∀ s, P s → P (g s))
    (turn : Turn) {s : State} (h : P s) : P (shareEvent turn f g s) := by
  cases turn
  · exact hg _ (hf _ h)
  · exact hf _ (hg _ h)

/-! ## The reset pin -/

/-- What the part does of itself is done where RESETN is released, and left undone where it is asserted. -/
theorem unlessHeld_cases (f : State → State) (s : State) :
    (s.resetHeld = false ∧ unlessHeld f s = f s) ∨ (s.resetHeld = true ∧ unlessHeld f s = s) := by
  cases h : s.resetHeld <;> simp [unlessHeld, h]

@[simp] theorem unlessHeld_of_released (f : State → State) {s : State} (h : s.resetHeld = false) :
    unlessHeld f s = f s := by simp [unlessHeld, h]

@[simp] theorem unlessHeld_of_held (f : State → State) {s : State} (h : s.resetHeld = true) : unlessHeld f s = s := by
  simp [unlessHeld, h]

/-! ## The clock -/

/-- What `elapse` does: the clock moves on, each running short timer with it, and nothing else changes (R105, R138). -/
theorem elapse_spec (n : Nat) (s : State) :
    (elapse n s).clock = s.clock.advance n ∧
    (∀ b, (elapse n s).blowers.get b = { s.blowers.get b with shortTimer := (s.blowers.get b).shortTimer.map (· + n) }) ∧
    ChangesOnly [.clock, .blowers] s (elapse n s) := by
  refine ⟨rfl, fun b => by simp [elapse, BlowerState.elapse], fun p hp => ?_⟩
  cases p <;> first | rfl | exact absurd (by simp) hp

/-! ## The taking of a cell -/

/-- A cell whose slot can take none changes nothing (R162, R163). -/
theorem takeCell_of_not_receives {n : Station} {s : State} (h : s.receives n = false) (kind : Byte) (perm : Permission)
    (serve : State → Served) : takeCell n kind perm serve s = s := by
  simp [takeCell, h]

/-- A cell taken: the refresh, then the kind's own rules on the refreshed state, or Class (R2, R4). -/
theorem takeCell_of_receives {n : Station} {s : State} (h : s.receives n = true) (kind : Byte) (perm : Permission)
    (serve : State → Served) :
    takeCell n kind perm serve s =
      if perm.allows ((arrive n s).slot n).cls then
        setWindow n (.taken kind (some (serve (arrive n s)).answer)) (serve (arrive n s)).state
      else setWindow n (.taken kind (some (Answer.refuse .cls))) (arrive n s) := by
  simp [takeCell, serveCell, h]

/-! ## A blower at reset -/

/-- A blower at reset: each detector's timer idle while RESETN is asserted, and judged afresh at its release (R135, R138,
R139). -/
theorem resetBlower_eq (held : Bool) (short overload current : Nat) :
    resetBlower held short overload current =
      ⟨0, 0, .running, if held then none else freshTimer current short,
        if held then none else freshTimer current overload, none, 0, none, .none, current⟩ := by
  cases held <;> rfl

end Sys2Proof.Machine
end

