-- ==== Sys2Proof/Laws/PerInstr.lean ====
section
/-! SUPPORT. A statement about every command as syntax, with one lemma for each constructor of Instr. -/

namespace Sys2Proof.Laws

open Sys2Proof Sys2Proof.Machine

/-- A command that is a request has a kind code of R166 other than Idle's, and each of its operands may come as it
is. -/
def RequestKinds.Statement (i : Instr) : Prop :=
  ∀ n k, requestOf i = some (n, k) → namesKind k = true ∧ k ≠ 0x00#8 ∧ i.wellFormed = true

/-- The proof of the statement for a command that is no request. -/
theorem RequestKinds.of_none {i : Instr} (h : requestOf i = none) : RequestKinds.Statement i := by
  intro n k e; rw [h] at e; cases e

/-- The proof of the statement for a request. -/
theorem RequestKinds.of_kind {i : Instr} {m : Station} {j : Byte} (h : requestOf i = some (m, j))
    (hk : namesKind j = true ∧ j ≠ 0x00#8) (hw : i.wellFormed = true) : RequestKinds.Statement i := by
  intro n k e; rw [h] at e; cases e; exact ⟨hk.1, hk.2, hw⟩

theorem RequestKinds.reset (input : ResetInput) : RequestKinds.Statement (.reset input) :=
  RequestKinds.of_none rfl

theorem RequestKinds.frameMark (feedback : PerActuator Nat) (order : List MarkBlock) (turn : Turn) : RequestKinds.Statement (.frameMark feedback order turn) :=
  RequestKinds.of_none rfl

theorem RequestKinds.stationQuiet (n : Station) : RequestKinds.Statement (.stationQuiet n) :=
  RequestKinds.of_none rfl

theorem RequestKinds.stationLost (n : Station) (turn : Turn) : RequestKinds.Statement (.stationLost n turn) :=
  RequestKinds.of_none rfl

theorem RequestKinds.frameMarkEnd (heard : Readback) : RequestKinds.Statement (.frameMarkEnd heard) :=
  RequestKinds.of_none rfl

theorem RequestKinds.loopFaultRaise : RequestKinds.Statement (.loopFaultRaise) :=
  RequestKinds.of_none rfl

theorem RequestKinds.loopFaultClear : RequestKinds.Statement (.loopFaultClear) :=
  RequestKinds.of_none rfl

theorem RequestKinds.uplinkWindowEnd (n : Station) (rx : Reception) (turn : Turn) : RequestKinds.Statement (.uplinkWindowEnd n rx turn) :=
  RequestKinds.of_none rfl

theorem RequestKinds.downlinkStart (n : Station) : RequestKinds.Statement (.downlinkStart n) :=
  RequestKinds.of_none rfl

theorem RequestKinds.downlinkEnd (n : Station) : RequestKinds.Statement (.downlinkEnd n) :=
  RequestKinds.of_none rfl

theorem RequestKinds.idle (n : Station) : RequestKinds.Statement (.idle n) :=
  RequestKinds.of_none rfl

theorem RequestKinds.unknownKind (n : Station) (kind : Byte) : RequestKinds.Statement (.unknownKind n kind) :=
  RequestKinds.of_none rfl

theorem RequestKinds.setSetpoint (n : Station) (zone value : Word) : RequestKinds.Statement (.setSetpoint n zone value) :=
  RequestKinds.of_kind rfl (by decide) rfl

theorem RequestKinds.setFan (n : Station) (zone level : Word) : RequestKinds.Statement (.setFan n zone level) :=
  RequestKinds.of_kind rfl (by decide) rfl

theorem RequestKinds.setMode (n : Station) (mode : Word) : RequestKinds.Statement (.setMode n mode) :=
  RequestKinds.of_kind rfl (by decide) rfl

theorem RequestKinds.setShelter (n : Station) (code : Word) : RequestKinds.Statement (.setShelter n code) :=
  RequestKinds.of_kind rfl (by decide) rfl

theorem RequestKinds.withdraw (n : Station) (kind zone : Word) : RequestKinds.Statement (.withdraw n kind zone) :=
  RequestKinds.of_kind rfl (by decide) rfl

theorem RequestKinds.withdrawAll (n : Station) : RequestKinds.Statement (.withdrawAll n) :=
  RequestKinds.of_kind rfl (by decide) rfl

theorem RequestKinds.shelterRelease (n : Station) : RequestKinds.Statement (.shelterRelease n) :=
  RequestKinds.of_kind rfl (by decide) rfl

theorem RequestKinds.purge (n : Station) (scope : Word) : RequestKinds.Statement (.purge n scope) :=
  RequestKinds.of_kind rfl (by decide) rfl

theorem RequestKinds.purgeCancel (n : Station) : RequestKinds.Statement (.purgeCancel n) :=
  RequestKinds.of_kind rfl (by decide) rfl

theorem RequestKinds.clearLatches (n : Station) : RequestKinds.Statement (.clearLatches n) :=
  RequestKinds.of_kind rfl (by decide) rfl

theorem RequestKinds.readout (n : Station) (start count : Word) : RequestKinds.Statement (.readout n start count) :=
  RequestKinds.of_kind rfl (by decide) rfl

theorem RequestKinds.joinStream (n : Station) (mask decimation : Word) : RequestKinds.Statement (.joinStream n mask decimation) :=
  RequestKinds.of_kind rfl (by decide) rfl

theorem RequestKinds.leaveStream (n : Station) : RequestKinds.Statement (.leaveStream n) :=
  RequestKinds.of_kind rfl (by decide) rfl

theorem RequestKinds.vehicleReport (n : Station) (fields doors : Word) (turn : Turn) : RequestKinds.Statement (.vehicleReport n fields doors turn) :=
  RequestKinds.of_kind rfl (by decide) rfl

theorem RequestKinds.stationRestart (n : Station) : RequestKinds.Statement (.stationRestart n) :=
  RequestKinds.of_kind rfl (by decide) rfl

theorem RequestKinds.settingsStore (n : Station) : RequestKinds.Statement (.settingsStore n) :=
  RequestKinds.of_kind rfl (by decide) rfl

theorem RequestKinds.storeComplete : RequestKinds.Statement (.storeComplete) :=
  RequestKinds.of_none rfl

theorem RequestKinds.settingsWrite (n : Station) (index value : Word) : RequestKinds.Statement (.settingsWrite n index value) :=
  RequestKinds.of_kind rfl (by decide) rfl

theorem RequestKinds.supervisionWindowWrite (n : Station) (w : WindowSetting) (value : Word) : RequestKinds.Statement (.supervisionWindowWrite n w value) :=
  RequestKinds.of_kind rfl (by decide) rfl

theorem RequestKinds.slotEnableWrite (n slot : Station) (value : Word) : RequestKinds.Statement (.slotEnableWrite n slot value) :=
  RequestKinds.of_kind rfl (by decide) rfl

theorem RequestKinds.slotClassWrite (n slot : Station) (value : Word) : RequestKinds.Statement (.slotClassWrite n slot value) :=
  RequestKinds.of_kind rfl (by decide) rfl

theorem RequestKinds.slotRankWrite (n slot : Station) (value : Word) : RequestKinds.Statement (.slotRankWrite n slot value) :=
  RequestKinds.of_kind rfl (by decide) rfl

theorem RequestKinds.slotScopeWrite (n slot : Station) (value : Word) : RequestKinds.Statement (.slotScopeWrite n slot value) :=
  RequestKinds.of_kind rfl (by decide) rfl

theorem RequestKinds.planSettingWrite (n : Station) (p : PlanSetting) (value : Word) : RequestKinds.Statement (.planSettingWrite n p value) :=
  RequestKinds.of_kind rfl (by decide) rfl

theorem RequestKinds.regulatorGainWrite (n : Station) (g : Gain) (value : Word) : RequestKinds.Statement (.regulatorGainWrite n g value) :=
  RequestKinds.of_kind rfl (by decide) rfl

theorem RequestKinds.doorLevelWrite (n : Station) (value : Word) : RequestKinds.Statement (.doorLevelWrite n value) :=
  RequestKinds.of_kind rfl (by decide) rfl

theorem RequestKinds.purgeSettingWrite (n : Station) (p : PurgeSetting) (value : Word) : RequestKinds.Statement (.purgeSettingWrite n p value) :=
  RequestKinds.of_kind rfl (by decide) rfl

theorem RequestKinds.doorMapWrite (n : Station) (d : Door) (value : Word) : RequestKinds.Statement (.doorMapWrite n d value) :=
  RequestKinds.of_kind rfl (by decide) rfl

theorem RequestKinds.returnTimeWrite (n : Station) (value : Word) : RequestKinds.Statement (.returnTimeWrite n value) :=
  RequestKinds.of_kind rfl (by decide) rfl

theorem RequestKinds.scanListWrite (n : Station) (f : ScanField) (value : Word) : RequestKinds.Statement (.scanListWrite n f value) :=
  RequestKinds.of_kind rfl (by decide) rfl

theorem RequestKinds.calibrationWrite (n : Station) (c : CalChannel) (k : CalibrationPart) (value : Word) : RequestKinds.Statement (.calibrationWrite n c k value) :=
  RequestKinds.of_kind rfl (by decide) rfl

theorem RequestKinds.thresholdWrite (n : Station) (t : Threshold) (value : Word) : RequestKinds.Statement (.thresholdWrite n t value) :=
  RequestKinds.of_kind rfl (by decide) rfl

theorem RequestKinds.alertMaskWrite (n : Station) (value : Word) : RequestKinds.Statement (.alertMaskWrite n value) :=
  RequestKinds.of_kind rfl (by decide) rfl

theorem RequestKinds.protectionLevelWrite (n : Station) (l : LevelSetting) (value : Word) : RequestKinds.Statement (.protectionLevelWrite n l value) :=
  RequestKinds.of_kind rfl (by decide) rfl

theorem RequestKinds.protectionTimeWrite (n : Station) (t : TimeSetting) (value : Word) : RequestKinds.Statement (.protectionTimeWrite n t value) :=
  RequestKinds.of_kind rfl (by decide) rfl

theorem RequestKinds.feedbackEndWrite (n : Station) (a : ActuatorId) (e : FeedbackEnd) (value : Word) : RequestKinds.Statement (.feedbackEndWrite n a e value) :=
  RequestKinds.of_kind rfl (by decide) rfl

theorem RequestKinds.conversionEnd (raw : BitVec 14) (turn : Turn) : RequestKinds.Statement (.conversionEnd raw turn) :=
  RequestKinds.of_none rfl

theorem RequestKinds.emptyPassEnd (turn : Turn) : RequestKinds.Statement (.emptyPassEnd turn) :=
  RequestKinds.of_none rfl

theorem RequestKinds.trendCapture : RequestKinds.Statement (.trendCapture) :=
  RequestKinds.of_none rfl

theorem RequestKinds.purgeArmedLimit : RequestKinds.Statement (.purgeArmedLimit) :=
  RequestKinds.of_none rfl

theorem RequestKinds.purgeDeferredLimit : RequestKinds.Statement (.purgeDeferredLimit) :=
  RequestKinds.of_none rfl

theorem RequestKinds.purgeFlushingLimit : RequestKinds.Statement (.purgeFlushingLimit) :=
  RequestKinds.of_none rfl

theorem RequestKinds.fallbackFlushExpiry : RequestKinds.Statement (.fallbackFlushExpiry) :=
  RequestKinds.of_none rfl

theorem RequestKinds.blowerCurrentChange (b : Blower) (current : Nat) : RequestKinds.Statement (.blowerCurrentChange b current) :=
  RequestKinds.of_none rfl

theorem RequestKinds.shortTrip (b : Blower) : RequestKinds.Statement (.shortTrip b) :=
  RequestKinds.of_none rfl

theorem RequestKinds.overloadTrip (b : Blower) : RequestKinds.Statement (.overloadTrip b) :=
  RequestKinds.of_none rfl

theorem RequestKinds.cooldownEnd (b : Blower) : RequestKinds.Statement (.cooldownEnd b) :=
  RequestKinds.of_none rfl

theorem RequestKinds.tripWindowExpiry (b : Blower) : RequestKinds.Statement (.tripWindowExpiry b) :=
  RequestKinds.of_none rfl

theorem RequestKinds.actuatorStall (a : ActuatorId) : RequestKinds.Statement (.actuatorStall a) :=
  RequestKinds.of_none rfl

theorem RequestKinds.reversalEnd (a : ActuatorId) : RequestKinds.Statement (.reversalEnd a) :=
  RequestKinds.of_none rfl

theorem RequestKinds.stallWaitEnd (a : ActuatorId) : RequestKinds.Statement (.stallWaitEnd a) :=
  RequestKinds.of_none rfl

theorem RequestKinds.powerLoss : RequestKinds.Statement (.powerLoss) :=
  RequestKinds.of_none rfl

end Sys2Proof.Laws
end

