-- ==== Sys2Proof/Tests/Slice0.lean ====
section
/-! SUPPORT. Tests of single steps, the smoke test of WellFormed, and for each statement with hypotheses a state that
meets them. The expected results are those of the manual's worked sequences, named in each docstring, or are worked by
hand from the rule named. -/

namespace Sys2Proof.Tests

set_option Elab.async false

open Sys2Proof Sys2Proof.Machine

/-! ## States -/

/-- The state after a command. -/
def after (c : Instr) (s : State) : State :=
  match exec c s with
  | .next t => t
  | .fault _ => s
  | .refused _ => s

/-- Every factory station Live, the record Verified with ignition on, the engine running and the brake applied. -/
def crewRaw : State :=
  { State.reset with
    stations := ⟨⟨.live, 0⟩, ⟨.live, 0⟩, ⟨.live, 0⟩, ⟨.live, 0⟩, ⟨.live, 0⟩, ⟨.disabled, 0⟩, ⟨.disabled, 0⟩,
      ⟨.disabled, 0⟩⟩
    vehicle := { State.reset.vehicle with
      record := ⟨true, true, false, true, ⟨false, false, false, false, false, false⟩, true⟩ }
    conditions := { State.reset.conditions with vehicleUnverified := false } }

/-- The same with its plan formed: the cab runs Fresh. -/
def crew : State := resolve crewRaw

/-- One station in a supervision state, with a count. -/
def silent (n : Station) (r : StationState) (s : State) : State := s.setStations (s.stations.set n r)

/-- A channel with a Fresh value. -/
def fresh (c : CalChannel) (v : Int) (s : State) : State :=
  s.setRecord { s.record with cal := s.record.cal.set c ⟨.fresh, some v, some 0#32, 0⟩ }

/-- The contested setpoint of section 2.10, at version 37. -/
def contested : State :=
  resolve ((fresh .frontTemp 180 (fresh .rearTemp 200 (fresh .coolantTemp 600 crewRaw))).setPlan
    ⟨36#16, PlanBody.first⟩)

/-- Station 3's Shelter entry in force: the cab under Pressurize. -/
def sheltered : State := after (.setShelter .s3 1#16) crew

/-- A purge of scope Rear by station 1, under way. -/
def purging : State := after (.purge .s1 1#16) crew

/-- One blower's record put in place. -/
def withBlower (b : Blower) (r : BlowerState) (s : State) : State := s.setBlowers (s.blowers.set b r)

/-- One actuator's record put in place. -/
def withActuator (a : ActuatorId) (r : ActuatorState) (s : State) : State := s.setActuators (s.actuators.set a r)

/-- The answer that a slot's window holds. -/
def answerOf (n : Station) (s : State) : Option Answer :=
  match (s.loop.lines.get n).window with
  | .taken _ a => a
  | .nothing => none
  | .silent => none
  | .garbled => none

/-! ## Well-formed commands -/

theorem test_reset_readings_checked : Instr.wellFormed (.reset ⟨⟨0, 0, 0, 0, 1001⟩, false⟩) = false := by decide
theorem test_mark_readings_checked :
    Instr.wellFormed (.frameMark ⟨1001, 0, 0, 0, 0⟩ [.supervision, .purge, .blowers, .actuators] .resolverFirst) = false := by
  decide
theorem test_mark_order_checked :
    Instr.wellFormed (.frameMark ⟨0, 0, 0, 0, 0⟩ [.supervision, .purge, .purge, .actuators] .resolverFirst) = false := by
  decide
theorem test_reception_checked :
    Instr.wellFormed (.uplinkWindowEnd .s1 ⟨true, List.replicate 12 0#8, true⟩ .resolverFirst) = false := by decide
theorem test_reception_without_start_checked :
    Instr.wellFormed (.uplinkWindowEnd .s1 ⟨false, [0#8], true⟩ .resolverFirst) = false := by decide
theorem test_known_kind_checked : Instr.wellFormed (.unknownKind .s1 0x11#8) = false := by decide
theorem test_current_checked : Instr.wellFormed (.blowerCurrentChange .intake 401) = false := by decide
theorem test_well_formed : Instr.wellFormed (.unknownKind .s5 0x3F#8) = true := by decide

/-! ## Bytes and words -/

/-- No row of the table has bits. -/
theorem test_no_table_word : decodeTableWord 16 0 = none := by decide

/-- R165 on the nine digits, worked apart from the model. -/
theorem test_check_byte :
    crc8 [0x31#8, 0x32#8, 0x33#8, 0x34#8, 0x35#8, 0x36#8, 0x37#8, 0x38#8, 0x39#8] = 0xFB#8 := by decide +kernel

/-- The bytes of the worked frame's Set Setpoint, zone 1, value 222, by R164. -/
theorem test_cell_bytes :
    (Cell.mk .s1 0x01#8 1#16 222#16 0#16 0#16).bytes =
      [1#8, 1#8, 0#8, 1#8, 0#8, 222#8, 0#8, 0#8, 0#8, 0#8, 0xDC#8] := by decide +kernel

/-- R180 over the factory table, summed apart from the model. -/
theorem test_factory_check : Config.factory.checkWord = 0x0D38#16 := by decide +kernel

/-- Section 12.4: an offset of -5000 is held as EC78 hex; index 88 is place 88. -/
theorem test_offset_word : Config.factory.toWords[88]? = some 0xEC78#16 := by decide +kernel

/-! ## Stations and the Request Table (section 1.5) -/

/-- Step 1: 222 rounds to 220, Done, one entry. -/
theorem test_setpoint_rounds :
    (after (.setSetpoint .s1 1#16 222#16) crew).table = [⟨.s1, .setpoint .front 220, false⟩] ∧
    answerOf .s1 (after (.setSetpoint .s1 1#16 222#16) crew) = some ⟨.done, 220#16, 1#16, 0#16⟩ := by decide +kernel

/-- Step 5: 308 rounds to 310 and is clamped to 300. -/
theorem test_setpoint_clamps :
    answerOf .s1 (after (.setSetpoint .s1 1#16 308#16) crew) = some ⟨.clamped, 300#16, 1#16, 0#16⟩ := by
  decide +kernel

/-- Step 3: level 11 is stored as 8. -/
theorem test_fan_clamps :
    answerOf .s2 (after (.setFan .s2 2#16 11#16) crew) = some ⟨.clamped, 8#16, 1#16, 0#16⟩ := by decide +kernel

/-- Step 2: Front is outside station 2's scope. -/
theorem test_scope_refused :
    answerOf .s2 (after (.setFan .s2 1#16 3#16) crew) = some ⟨.scope, 0#16, 0#16, 0#16⟩ := by decide +kernel

/-- R17, R35: Recirc closes the shutter. -/
theorem test_mode_recirc :
    (after (.setMode .s1 2#16) crew).plan.body.cabMode = .recirc ∧
    (after (.setMode .s1 2#16) crew).plan.body.shutter = 0 := by decide +kernel

/-- Step 4, R38: a Shelter entry puts the cab under Pressurize, intake target 400. -/
theorem test_shelter_pressurizes :
    sheltered.plan.body.shelter = .pressurize ∧ sheltered.plan.body.intake = .regulated 400 300 200 ∧
    sheltered.plan.body.shutter = 100 := by decide +kernel

/-- Step 7: rank 5 is below the Release Rank. -/
theorem test_release_denied :
    answerOf .s1 (after (.shelterRelease .s1) sheltered) = some ⟨.denied, 0#16, 0#16, 0#16⟩ := by decide +kernel

/-- R20: rank 6 meets the Release Rank; one entry goes. -/
theorem test_release :
    answerOf .s3 (after (.shelterRelease .s3) sheltered) = some ⟨.done, 1#16, 0#16, 0#16⟩ ∧
    (after (.shelterRelease .s3) sheltered).plan.body.shelter = .inactive := by decide +kernel

/-- R19: the one entry goes. -/
theorem test_withdraw :
    answerOf .s3 (after (.withdraw .s3 4#16 0#16) sheltered) = some ⟨.done, 1#16, 0#16, 0#16⟩ := by decide +kernel

/-- Step 9: one entry removed, none left. -/
theorem test_withdraw_all :
    answerOf .s3 (after (.withdrawAll .s3) sheltered) = some ⟨.done, 1#16, 0#16, 0#16⟩ := by decide +kernel

/-- R8: the entries of station 3 go with its restart. -/
theorem test_restart : (after (.stationRestart .s3) sheltered).table = [] := by decide +kernel

/-- Step 6: the count reaches 25 at the mark; Quiet, and the entry Held. -/
theorem test_quiet_at_mark :
    (after (.frameMark ⟨100, 100, 100, 500, 500⟩ [] .resolverFirst) (silent .s3 ⟨.live, 24⟩ sheltered)).table =
      [⟨.s3, .shelter, true⟩] := by decide +kernel

/-- R4: an Idle cell makes the Quiet station Live and its entry Active. -/
theorem test_idle_refreshes :
    (after (.idle .s3) (after (.stationQuiet .s3) (silent .s3 ⟨.live, 25⟩ sheltered))).table =
      [⟨.s3, .shelter, false⟩] := by decide +kernel

/-- Step 8: Lost at 200, and the entry removed. -/
theorem test_lost_drops :
    (after (.stationLost .s3 .resolverFirst) (silent .s3 ⟨.quiet, 200⟩ sheltered)).table = [] := by decide +kernel

/-- R6: at equal ranks station 2's newer entry holds; Quiet hands the plan to station 1 and its Lost hands it back, so
the version is two on. -/
theorem test_quiet_before_lost :
    let g := { crew.settings with slots := crew.settings.slots.set .s2 { crew.slot .s2 with rank := (crew.slot .s1).rank } }
    let s := after (.setFan .s2 2#16 3#16) (after (.setFan .s1 2#16 5#16) (crew.setSettings g))
    let t := after (.frameMark ⟨100, 100, 100, 500, 500⟩ [.supervision] .resolverFirst)
      (silent .s1 ⟨.quiet, 199⟩ (silent .s2 ⟨.live, 24⟩ s))
    t.plan.body = s.plan.body ∧ t.plan.version = s.plan.version + 2#16 := by decide +kernel

/-- Section 10.5, slot 5: kind 3F hex is answered Unknown. -/
theorem test_unknown_kind :
    answerOf .s5 (after (.unknownKind .s5 0x3F#8) crew) = some ⟨.unknown, 0#16, 0#16, 0#16⟩ := by decide +kernel

/-! ## The plan and the regulator -/

/-- Section 2.10, version 37: mixes 65 and 55, blowers 625 and 375, Heater Valve 100. -/
theorem test_contested_37 :
    contested.plan.version = 37#16 ∧ contested.plan.body.frontMix = 65 ∧ contested.plan.body.rearMix = 55 ∧
    contested.plan.body.frontBlower = 625 ∧ contested.plan.body.rearBlower = 375 ∧
    contested.plan.body.heaterValve = 100 := by decide +kernel

/-- Section 2.10, step 1: version 38, Front Mix 70, Front blower 750. -/
theorem test_contested_38 :
    let t := after (.setSetpoint .s1 1#16 220#16) contested
    t.plan.version = 38#16 ∧ t.plan.body.frontMix = 70 ∧ t.plan.body.frontBlower = 750 := by decide +kernel

/-- Section 3.4, Regulating under Pressurize. -/
theorem test_update_pressurize :
    let r := (Regulator.mk .regulating 60000 false 0 0 (some 400) (some 300) (some 200) 1000 none none).update 40 6 250
    r.integral = 60900 ∧ r.windup = false ∧ r.output = 561 := by decide +kernel

/-- Section 3.4, Negative error under Fresh: the floor gives 96. -/
theorem test_update_negative :
    let r := (Regulator.mk .regulating 0 false 0 0 (some 100) (some 150) (some 0) 1000 none none).update 40 6 400
    r.integral = -1800 ∧ r.output = 96 := by decide +kernel

/-! ## The purge and the vehicle -/

/-- Section 4.8, row 1: Done, Flushing, Rear, target 10800. -/
theorem test_purge_starts :
    answerOf .s1 purging = some ⟨.done, 2#16, 1#16, 10800#16⟩ ∧ purging.plan.body.rearBlower = 1000 := by
  decide +kernel

/-- R81, R83: the originator cancels; the record shows Cancelled. -/
theorem test_cancel : (after (.purgeCancel .s1) purging).purge.last.result = .cancelled := by decide +kernel

/-- Section 4.8, row 2: D3 opens, and the purge is Armed. -/
theorem test_report_arms :
    (after (.vehicleReport .s4 0xB#16 4#16 .resolverFirst) purging).purge.phase = .armed := by decide +kernel

/-- Section 5.6, row 4: D3 closes at 1300 frames; one Crew Return, and a Rear purge by Auto. -/
theorem test_crew_return :
    let s := (after (.vehicleReport .s4 0xB#16 4#16 .resolverFirst) sheltered)
    let t := after (.vehicleReport .s4 0xB#16 0#16 .resolverFirst)
      (s.setVehicle { s.vehicle with timers := s.vehicle.timers.set .d3 (some 1300) })
    t.vehicle.crewReturns = 1#8 ∧ t.purge.phase = .flushing ∧ t.purge.originator = some .auto := by decide +kernel

/-! ## The scan -/

/-- Section 6.7, place 1: the conversion ends at 3 ms and Intake Flow starts. -/
theorem test_first_conversion :
    let t := after (.conversionEnd 8192#14 .resolverFirst) State.reset
    t.clock.ms = 3#32 ∧ t.record.cal.cabPressure.status = .fresh ∧
    t.scan.walk = .converting ⟨.cal .intakeFlow, 3, 1⟩ (Config.factoryScanList.drop 2) 3#32 := by decide +kernel

/-- R113: 8192 on Cab Pressure is 8192 * 10000 / 16384 - 5000, which is 0. -/
theorem test_calibration : calibrate .cabPressure 10000 (-5000) 8192 = 0 := by decide +kernel

/-- R108: the pass after an empty one starts 1 ms on, here the factory list at pass 1. -/
theorem test_empty_pass :
    let t := after (.emptyPassEnd .resolverFirst) (crew.setScan { crew.scan with walk := .empty 76#32 })
    t.scan.pass = 1#8 ∧ t.clock.ms = 77#32 := by decide +kernel

/-- Section 11.6, row 5: the run under way stays, the next record goes, and the one after it shows Overrun. -/
theorem test_trend_overrun :
    let record : TrendRecord := ⟨0#8, 0#16, false, []⟩
    let t := after .trendCapture (crew.setTrend ⟨some ⟨.s3, 1#16, 1⟩, 1, List.replicate 48 record, true, 1⟩)
    t.trend.queue.length = 48 ∧ t.trend.queue[0]? = some record ∧
    t.trend.queue[1]? = some { record with overrun := true } := by decide +kernel

/-! ## Blowers and actuators -/

/-- The intake blower of section 8.7 at a timer and a count. -/
def dragging (timer : Nat) (trips : Nat) : State :=
  withBlower .intake ⟨561, 561, .running, none, some timer, none, trips, none, .none, 150⟩ crew

/-- Section 8.7, row 2: Tripped at 300, output 0, count 1. -/
theorem test_overload_trip :
    let r := (after (.overloadTrip .intake) (dragging 300 0)).blowers.intake
    r.protection = .tripped ∧ r.output = 0 ∧ r.trips = 1 ∧ r.window = some 0 := by decide +kernel

/-- Section 8.7, row 7: the fourth trip latches, and Motor Fault drives ALERT. -/
theorem test_fourth_trip_latches :
    let t := after (.overloadTrip .intake) (dragging 300 3)
    t.blowers.intake.protection = .latched ∧ t.conditions.motorFault = true ∧ t.alert = true := by decide +kernel

/-- Section 8.7, row 8: one blower cleared. -/
theorem test_clear_latches :
    answerOf .s1 (after (.clearLatches .s1) (after (.overloadTrip .intake) (dragging 300 3))) =
      some ⟨.done, 1#16, 0#16, 0#16⟩ := by decide +kernel

/-- R138: 0.5 ms at the Short Level trips; 30.0 A starts the timer. -/
theorem test_short_trip :
    let t := after (.shortTrip .front) (after (.blowerCurrentChange .front 300) crew)
    t.blowers.front.protection = .tripped ∧ t.blowers.front.lastTrip = .short ∧ t.clock.tenths = 5 := by
  decide +kernel

/-- Section 8.7, row 3: the cooldown ends at 200. -/
theorem test_cooldown_end :
    (after (.cooldownEnd .intake)
      (withBlower .intake ⟨561, 0, .tripped, none, none, some 200, 1, some 200, .overload, 0⟩ crew)).blowers.intake.protection
      = .running := by decide +kernel

/-- R142: the count returns to 0 at 6000. -/
theorem test_window_expiry :
    (after (.tripWindowExpiry .intake)
      (withBlower .intake ⟨561, 0, .running, none, none, none, 2, some 6000, .overload, 0⟩ crew)).blowers.intake.trips = 0 := by
  decide +kernel

/-- The shutter of section 9.9, jammed at 40. -/
def jammed (motion : Motion) (timer : Nat) (wait : Option Nat) (target : Nat) (retry : Bool) : State :=
  withActuator .shutter
    ⟨target, 40, motion, if motion = .moving then .opening else .off, 40, timer, none, wait, retry, .none, false, 420⟩
    crew

/-- Section 9.9, row 3: Stalled after 150 marks without progress. -/
theorem test_stall :
    (after (.actuatorStall .shutter) (jammed .moving 150 none 100 false)).actuators.shutter.motion = .stalled := by
  decide +kernel

/-- Section 9.9, row 11: Stuck at the second stall, and Actuator Stuck raised. -/
theorem test_second_stall :
    (after (.actuatorStall .shutter) (jammed .moving 150 none 100 true)).conditions.actuatorStuck = true := by
  decide +kernel

/-- Section 9.9, row 5: the wait ends; Moving toward closed, the retry used. -/
theorem test_stall_wait_end :
    let r := (after (.stallWaitEnd .shutter) (jammed .stalled 0 (some 500) 0 false)).actuators.shutter
    r.motion = .moving ∧ r.drive = .closing ∧ r.retryUsed = true := by decide +kernel

/-- Section 9.10, frame 2090: the reversal ends toward open from 51. -/
theorem test_reversal_end :
    let r := (after (.reversalEnd .frontMix) (withActuator .frontMix
      ⟨60, 51, .reversing, .off, 50, 0, some 10, none, false, .none, false, 508⟩ crew)).actuators.frontMix
    r.motion = .moving ∧ r.drive = .opening := by decide +kernel

/-- R160: a reading of 900 is position 100; target 0 is 100 away. -/
theorem test_reset_moves :
    let r := (after (.reset ⟨⟨900, 100, 100, 500, 500⟩, false⟩) crew).actuators.shutter
    r.position = 100 ∧ r.drive = .closing := by decide +kernel

/-- A part whose stored Alert Mask is Vehicle Unverified alone. -/
def masked : State :=
  let g := { Config.factory with alertMask := 0x0200#16 }
  crew.setStore { crew.store with stored := .whole g g.checkWord }

/-- The part with RESETN asserted. -/
def heldReset : State := after (.reset ⟨⟨900, 100, 100, 500, 500⟩, true⟩) masked

/-- R134, R160: while RESETN is asserted ALERT is released and no move starts; its release drives the pin and starts the
move. -/
theorem test_reset_held :
    let u := after (.reset ⟨⟨900, 100, 100, 500, 500⟩, false⟩) heldReset
    heldReset.alert = false ∧ heldReset.actuators.shutter.drive = .off ∧ u.alert = true ∧
    u.actuators.shutter.drive = .closing := by decide +kernel

/-- R138: a current at the Short Level with the drive off is a short: it stands over the reset and trips 0.5 ms after. -/
theorem test_reset_compares_the_current :
    let s := after (.reset ⟨⟨100, 100, 100, 500, 500⟩, false⟩) (after (.blowerCurrentChange .front 300) crew)
    let t := after (.shortTrip .front) s
    s.blowers.front.shortTimer = some 0 ∧ s.blowers.rear.shortTimer = none ∧ t.blowers.front.protection = .tripped ∧
    t.clock.tenths = 5 := by decide +kernel

/-! ## The Crew Loop -/

/-- R171: the third mismatch raises Loop Fault. -/
theorem test_third_mismatch :
    (after (.frameMarkEnd ⟨false, 0#8, 0#8, 0#8, false⟩)
      (crew.setLoop { crew.loop with mismatchRun := 2 })).conditions.loopFault = true := by decide +kernel

/-- R161, R165: the bytes of the mark of frame 0 are 00, 00, D7 hex. -/
theorem test_good_mark :
    (after (.frameMarkEnd ⟨true, 0#8, 0#8, 0xD7#8, true⟩)
      (crew.setLoop { crew.loop with mismatchRun := 2 })).loop.mismatchRun = 0 := by decide +kernel

/-- Section 10.5, slot 1: the Answer is kind 01, Done, 220. -/
theorem test_worked_slot_1 :
    let s := after (.uplinkWindowEnd .s1 ⟨true, (Cell.mk .s1 0x01#8 1#16 222#16 0#16 0#16).bytes, true⟩ .resolverFirst) crew
    ((after (.downlinkStart .s1) s).loop.lines.s1.onAir.map fun a => (a.cell.w0, a.cell.w1, a.cell.w2)) =
      some (0x0001#16, 220#16, 1#16) := by decide +kernel

/-- Section 10.5, slot 4: one byte corrupted is Garbled, kind FF hex. -/
theorem test_worked_slot_4 :
    let s := after (.uplinkWindowEnd .s4 ⟨true, [4#8, 14#8, 0#8, 0#8, 0#8, 0#8, 0#8, 0#8, 0#8, 0#8, 0#8], true⟩
      .resolverFirst) crew
    (s.loop.lines.s4.choice = .answer 0xFF#8 ⟨.garbled, 0#16, 0#16, 0#16⟩) ∧ s.stations = crew.stations := by
  decide +kernel

/-- Section 11.6, row 1: words 150 to 173 clear Conditions, Vehicle and Purge, and Plan stands. -/
theorem test_readout_marks :
    let m := (after (.readout .s3 150#16 24#16) crew).marks.s3
    m.conditions = false ∧ m.vehicle = false ∧ m.purge = false ∧ m.plan = true := by decide +kernel

/-- R174: 6 words are two cells; the first sent leaves the second. -/
theorem test_run_advances :
    let s := after (.readout .s3 0#16 6#16) crew
    let t := after (.downlinkEnd .s3) (after (.downlinkStart .s3)
      (s.setLoop { s.loop with lines := s.loop.lines.set .s3 ⟨.silent, false, .data, none⟩ }))
    (t.buffers.s3.map fun b => b.sent) = some 1 := by decide +kernel

/-- Section 11.6: station 1, rank 5, is answered Busy while station 3 holds the stream. -/
theorem test_join_busy :
    answerOf .s1 (after (.joinStream .s1 1#16 1#16) (after (.joinStream .s3 0xFF#16 1#16) crew)) =
      some ⟨.busy, 0#16, 0#16, 0#16⟩ := by decide +kernel

/-- R2: a station detached by the Vehicle class (R10) sends a Leave Stream: Class, and the indication stays. -/
theorem test_refused_leave_keeps_detached :
    let s := (after (.leaveStream .s4) (crew.setDetached (crew.detached.set .s4 true)))
    answerOf .s4 s = some ⟨.cls, 0#16, 0#16, 0#16⟩ ∧ s.detached.s4 = true := by decide +kernel

/-- R176: the holder leaves, with word 1 of 1. -/
theorem test_leave :
    answerOf .s3 (after (.leaveStream .s3) (after (.joinStream .s3 0xFF#16 1#16) crew)) =
      some ⟨.done, 1#16, 0#16, 0#16⟩ := by decide +kernel

/-! ## Settings -/

/-- R7: a Quiet Window of 200 is clamped to 100. -/
theorem test_window_clamps :
    answerOf .s5 (after (.supervisionWindowWrite .s5 .quiet 200#16) crew) = some ⟨.clamped, 0#16, 100#16, 0#16⟩ := by
  decide +kernel

/-- R133: a raise level of 100 pulls the Smoke Clear Level to 99. -/
theorem test_threshold_pair :
    (after (.thresholdWrite .s5 .smokeRaise 100#16) crew).settings.thresholds.smokeClear = 99 := by decide +kernel

/-- R182, check 3: a second Vehicle class among the enabled slots. -/
theorem test_second_vehicle :
    answerOf .s5 (after (.slotClassWrite .s5 .s1 4#16) crew) = some ⟨.range, 0#16, 0#16, 0#16⟩ := by decide +kernel

/-- R181: without the brake, Blocked. -/
theorem test_blocked :
    answerOf .s5 (after (.returnTimeWrite .s5 20#16) State.reset) = some ⟨.blocked, 0#16, 0#16, 0#16⟩ := by
  decide +kernel

/-- R182: the index of station 2's scope is 167. -/
theorem test_index_write :
    (after (.settingsWrite .s5 167#16 2#16) crew).settings.slots.s2.scope = .both := by decide +kernel

/-- R157: a Closed End of 850 keeps the Open End 100 above. -/
theorem test_end_pair :
    (after (.feedbackEndWrite .s5 .relief .closed 850#16) crew).settings.openEnd.relief = 950 := by
  decide +kernel

/-- R183: the store completes 40 ms after its acceptance. -/
theorem test_store_completes :
    let t := after .storeComplete (after (.settingsStore .s5) crew)
    t.store.writing = none ∧ t.clock.ms = 40#32 ∧ t.store.shownCheck = 0x0D38#16 := by decide +kernel

/-- R180, R183: power lost while Writing, then reset: the factory defaults and Settings Defaulted. -/
theorem test_power_loss :
    let t := after (.reset ⟨⟨100, 100, 100, 500, 500⟩, false⟩) (after .powerLoss (after (.settingsStore .s5) crew))
    t.conditions.settingsDefaulted = true := by decide +kernel

/-! ## States that meet the hypotheses of the statements -/

/-- A table with no room: 24 entries of one key. -/
def fullTable : List Entry := List.replicate 24 ⟨.s3, .shelter, false⟩

/-- A key of another station finds no room in the full table. -/
theorem fullTable_no_room (s : State) (h : s.table = fullTable) (k : Key) : ¬HasRoom s .s1 k := by
  rintro (⟨e, he, hs, _⟩ | hl)
  · rw [h] at he
    rw [List.eq_of_mem_replicate he] at hs
    cases hs
  · rw [h] at hl; exact absurd hl (by decide)

theorem witness_StepRunsTheFrontCommand :
    (crew.setPending [.idle .s1]).pending = .idle .s1 :: [] := rfl

/-- The last tenth of the last millisecond. -/
theorem witness_EmptyQueueLetsTimePass :
    (crew.setClock ⟨0xFFFFFFFF#32, 9⟩).pending = [] ∧ (crew.setClock ⟨0xFFFFFFFF#32, 9⟩).clock.tenths < 10 ∧
    crew.resetHeld = false ∧ heldReset.pending = [] ∧ heldReset.clock.tenths < 10 ∧ heldReset.resetHeld = true := by
  decide +kernel

/-- RESETN asserted; a stored scan list of no entry, and the factory's. -/
theorem witness_ResetLeavesEveryBlockAtItsStart :
    let g := { Config.factory with scanLength := 0 }
    let s := crew.setStore { crew.store with stored := .whole g g.checkWord }
    let c : Instr := .reset ⟨⟨100, 100, 100, 500, 500⟩, false⟩
    heldReset.resetHeld = true ∧ (after c s).scan.working = [] ∧ (after c s).scan.walk = .stopped ∧
    (after c crew).scan.walk = .converting ⟨.cal .cabPressure, 3, 1⟩ (Config.factoryScanList.drop 1) 0#32 := by
  decide +kernel

theorem witness_ResetLoadsTheStoredCopy :
    (after (.settingsStore .s5) crew).store.writing.isSome = true ∧ crew.store.writing = none ∧
    (after (.reset ⟨⟨0, 0, 0, 0, 0⟩, false⟩) crew).store.stored = .whole Config.factory Config.factory.checkWord ∧
    (after (.reset ⟨⟨0, 0, 0, 0, 0⟩, false⟩) (after (.settingsStore .s5) crew)).store.stored = .torn ∧
    (0#16 ≠ Config.factory.checkWord) := by decide +kernel

/-- Readings at both ends of the range and just outside it; positions 2 and 3 away from their targets on both sides. -/
theorem witness_ResetSettlesTheActuators :
    let t := after (.reset ⟨⟨116, 124, 19, 476, 484⟩, false⟩) crew
    let u := after (.reset ⟨⟨20, 980, 981, 500, 500⟩, false⟩) crew
    (∀ a ∈ ActuatorId.all, t.settings.closedEnd.get a < t.settings.openEnd.get a) ∧
    t.actuators.shutter.position = t.actuators.shutter.target + 2 ∧
    t.actuators.relief.position = t.actuators.relief.target + 3 ∧ t.actuators.heater.waiting = true ∧
    t.actuators.frontMix.position + 3 = t.actuators.frontMix.target ∧
    t.actuators.rearMix.position + 2 = t.actuators.rearMix.target ∧
    u.actuators.shutter.waiting = false ∧ u.actuators.relief.waiting = false ∧ u.actuators.heater.waiting = true := by
  decide +kernel

theorem witness_IdleCellRefreshesItsStation :
    State.reset.receives .s1 = true ∧ State.reset.modeOf .s1 = .absent ∧
    (silent .s1 ⟨.lost, 0⟩ crew).receives .s1 = true ∧ (silent .s1 ⟨.lost, 0⟩ crew).modeOf .s1 = .lost ∧
    (silent .s3 ⟨.quiet, 30⟩ sheltered).receives .s3 = true ∧ (silent .s3 ⟨.quiet, 30⟩ sheltered).modeOf .s3 = .quiet ∧
    (silent .s3 ⟨.quiet, 30⟩ sheltered).vehicleStation ≠ some .s3 ∧
    (silent .s4 ⟨.quiet, 30⟩ crew).receives .s4 = true ∧ (silent .s4 ⟨.quiet, 30⟩ crew).vehicleStation = some .s4 ∧
    crew.receives .s1 = true ∧ crew.modeOf .s1 = .live := by decide +kernel

/-- The Vehicle class sends a Set Fan; a Crew Panel a Vehicle Report; a code above 11 hex; a disabled slot. -/
theorem witness_RefusedKindsOnlyRefresh :
    crew.receives .s4 = true ∧ requestOf (.setFan .s4 1#16 1#16) = some (.s4, 0x02#8) ∧
    mayRequest (crew.slot .s4).cls 0x02#8 = false ∧ requestOf (.leaveStream .s4) = some (.s4, 0x0D#8) ∧
    mayRequest (crew.slot .s4).cls 0x0D#8 = false ∧ crew.receives .s2 = true ∧
    requestOf (.vehicleReport .s2 0#16 0#16 .resolverFirst) = some (.s2, 0x0E#8) ∧
    mayRequest (crew.slot .s2).cls 0x0E#8 = false ∧ namesKind 0x12#8 = false ∧ namesKind 0xFF#8 = false ∧
    crew.receives .s6 = false ∧ heldReset.receives .s1 = false := by decide +kernel

/-- A mark at which no station changes its state, with no purge, keeps the plan. -/
theorem calm_of (s : State) (hp : s.plan.body = formPlan s)
    (hn : ∀ n ∈ Station.all, (supervised s.settings (s.stations.get n)).mode = s.modeOf n) (hi : s.purge.phase = .idle) :
    Calm s := ⟨⟨hp, fun n => hn n (by cases n <;> decide)⟩, hi⟩

theorem crew_calm : Calm crew := calm_of _ (by decide +kernel) (by decide +kernel) (by decide +kernel)

/-- Station 3 enters Lost at the mark, with the stream and without it; the Vehicle-class station stays, goes Quiet and
enters Lost. -/
theorem witness_FrameMarkCountsAndSupervises :
    let s := silent .s3 ⟨.quiet, 199⟩ sheltered
    let h := silent .s3 ⟨.quiet, 199⟩ (after (.joinStream .s3 1#16 1#16) sheltered)
    let c : Instr := .frameMark ⟨100, 100, 100, 500, 500⟩ [.actuators] .purgeFirst
    s.modeOf .s3 ≠ .lost ∧ (after c s).modeOf .s3 = .lost ∧ s.holdsStream .s3 = false ∧
    h.modeOf .s3 ≠ .lost ∧ (after c h).modeOf .s3 = .lost ∧ h.holdsStream .s3 = true ∧
    s.resetHeld = false ∧ crew.vehicleStation = some .s4 ∧ (after c crew).modeOf .s4 = crew.modeOf .s4 ∧
    crew.modeOf .s4 = .live ∧ (after c (silent .s4 ⟨.live, 24⟩ crew)).modeOf .s4 = .quiet ∧
    (silent .s4 ⟨.quiet, 199⟩ crew).modeOf .s4 ≠ .lost ∧ (after c (silent .s4 ⟨.quiet, 199⟩ crew)).modeOf .s4 = .lost ∧
    (after c (silent .s4 ⟨.quiet, 198⟩ crew)).modeOf .s4 = .quiet := by decide +kernel

/-- The intake blower under a target of 100, with its output, its overload timer, its window and its cooldown. -/
def turning (output : Nat) (p : Protection) (timer cooldown window : Option Nat) : State :=
  withBlower .intake ⟨100, output, p, none, timer, cooldown, 1, window, .none, 150⟩ crew

theorem turning_calm : Calm (turning 79 .running (some 299) none (some 5999)) ∧
    Calm (turning 121 .running (some 298) none (some 5998)) ∧ Calm (turning 0 .tripped none (some 199) (some 10)) :=
  ⟨calm_of _ (by decide +kernel) (by decide +kernel) (by decide +kernel),
   calm_of _ (by decide +kernel) (by decide +kernel) (by decide +kernel),
   calm_of _ (by decide +kernel) (by decide +kernel) (by decide +kernel)⟩

/-- 20 ‰ and 21 ‰ from the target on both sides; each timer at its end and one frame short of it. -/
theorem witness_RampMovesTowardTheTarget :
    let c : Instr := .frameMark ⟨100, 100, 100, 500, 500⟩ [.blowers, .supervision, .purge, .actuators] .resolverFirst
    let r := fun (s : State) => (after c s).blowers.intake
    (turning 80 .running none none (some 5998)).resetHeld = false ∧
    (r (turning 80 .running none none (some 5998))).output = 100 ∧ (r (turning 79 .running none none none)).output = 99 ∧
    (r (turning 120 .running none none none)).output = 100 ∧ (r (turning 121 .running none none none)).output = 101 ∧
    (r (turning 80 .running none none (some 5998))).window = some 5999 ∧
    (r (turning 80 .running none none (some 5999))).trips = 0 ∧
    (r (turning 80 .running (some 299) none none)).protection = .tripped ∧
    (r (turning 80 .running (some 298) none none)).overloadTimer = some 299 ∧
    (r (turning 0 .tripped none (some 199) none)).protection = .running ∧
    (r (turning 0 .tripped none (some 198) none)).cooldown = some 199 := by decide +kernel

/-- At the windows and one frame short of them, for station 3 and for the Vehicle-class station. -/
theorem witness_SilentStationGoesQuietThenLost :
    (∀ n ∈ [Station.s3, .s4], (silent n ⟨.live, 25⟩ crew).modeOf n = .live ∧
      crew.settings.quietWindow ≤ ((silent n ⟨.live, 25⟩ crew).stations.get n).silence ∧
      (silent n ⟨.quiet, 200⟩ crew).modeOf n = .quiet ∧
      crew.settings.lostWindow ≤ ((silent n ⟨.quiet, 200⟩ crew).stations.get n).silence) ∧
    ¬crew.settings.quietWindow ≤ ((silent .s3 ⟨.live, 24⟩ crew).stations.get .s3).silence ∧
    ¬crew.settings.lostWindow ≤ ((silent .s3 ⟨.quiet, 199⟩ crew).stations.get .s3).silence ∧
    crew.vehicleStation = some .s4 := by decide +kernel

theorem witness_RestartClearsItsStation :
    sheltered.receives .s3 = true ∧ (∃ e ∈ (after (.idle .s3) sheltered).table, e.station = .s3) ∧
    sheltered.receives .s1 = true ∧ (∀ e ∈ (after (.idle .s1) sheltered).table, e.station ≠ .s1) := by decide +kernel

theorem witness_SetSetpointStoresTheRoundedValue :
    crew.receives .s1 = true ∧ mayRequest (crew.slot .s1).cls 0x01#8 = true ∧
    (crew.slot .s1).scope.covers .front = true ∧ HasRoom crew .s1 (.setpoint .front) :=
  ⟨by decide +kernel, by decide +kernel, by decide +kernel, .inr (by decide +kernel)⟩

/-- With the levels 0, 1, 8, 9 and Auto. -/
theorem witness_SetFanStoresTheLevel :
    crew.receives .s2 = true ∧ mayRequest (crew.slot .s2).cls 0x02#8 = true ∧
    (crew.slot .s2).scope.covers .rear = true ∧ HasRoom crew .s2 (.fan .rear) :=
  ⟨by decide +kernel, by decide +kernel, by decide +kernel, .inr (by decide +kernel)⟩

theorem witness_SetModeAndShelterStoreTheirEntries :
    sheltered.receives .s3 = true ∧ mayRequest (sheltered.slot .s3).cls 0x03#8 = true ∧ HasRoom sheltered .s3 .mode ∧
    HasRoom sheltered .s3 .shelter :=
  ⟨by decide +kernel, by decide +kernel, .inr (by decide +kernel), .inr (by decide +kernel)⟩

theorem witness_SetRequestsAreRefusedInOrder :
    let s := crew.setTable fullTable
    s.receives .s1 = true ∧ mayRequest (s.slot .s1).cls 0x01#8 = true ∧ (s.slot .s1).scope.covers .front = true ∧
    (∀ k, ¬HasRoom s .s1 k) ∧
    s.receives .s2 = true ∧ mayRequest (s.slot .s2).cls 0x01#8 = true ∧ (s.slot .s2).scope.covers .front = false ∧
    ((0#16 ≠ 1#16 ∧ 0#16 ≠ 2#16) ∧ (3#16 ≠ 1#16 ∧ 3#16 ≠ 2#16) ∧ 4 < (5#16 : Word).toNat ∧ 1 < (2#16 : Word).toNat) :=
  ⟨by decide +kernel, by decide +kernel, by decide +kernel, fullTable_no_room _ rfl, by decide +kernel,
   by decide +kernel, by decide +kernel, by decide +kernel⟩

/-- Each key by its codes; the codes 0 and 5, and the zone codes 0 and 3 of a Setpoint. -/
theorem witness_WithdrawsRemoveOwnEntries :
    crew.receives .s1 = true ∧ mayRequest (crew.slot .s1).cls 0x05#8 = true ∧
    (1#16 : Word) = Word.ofNat Zone.front.code ∧ (2#16 : Word) = Word.ofNat Zone.rear.code ∧
    ((0#16 : Word).toNat = 0 ∧ 4 < (5#16 : Word).toNat) ∧ ((0#16 ≠ 1#16 ∧ 0#16 ≠ 2#16) ∧ (3#16 ≠ 1#16 ∧ 3#16 ≠ 2#16)) := by
  decide +kernel

/-- Rank 5 under the Release Rank, rank 6 at it. -/
theorem witness_ShelterReleaseEndsTheRequests :
    sheltered.receives .s1 = true ∧ mayRequest (sheltered.slot .s1).cls 0x09#8 = true ∧
    (sheltered.slot .s1).rank < sheltered.settings.releaseRank ∧
    sheltered.receives .s3 = true ∧ mayRequest (sheltered.slot .s3).cls 0x09#8 = true ∧
    sheltered.settings.releaseRank ≤ (sheltered.slot .s3).rank := by decide +kernel

/-! ### The invariants, at a state with an entry and a next step -/

/-- Station 3's entry in force, with a command waiting. -/
def busy : State := sheltered.setPending [.withdrawAll .s3]

theorem busy_steps : step busy = .next (after (.withdrawAll .s3) sheltered) := rfl

theorem witness_StepKeepsTheTableLawful : KeysDistinct busy ∧ HeldWithQuiet busy ∧ ∃ t, step busy = .next t := by
  refine ⟨⟨by decide +kernel, by decide +kernel⟩, ⟨?_, by decide +kernel⟩, _, busy_steps⟩
  intro n; cases n <;> decide +kernel

theorem witness_StepKeepsThePlanCurrent :
    HeldWithQuiet busy ∧ EntriesInScope busy ∧ PlanCurrent busy ∧ ∃ t, step busy = .next t :=
  ⟨witness_StepKeepsTheTableLawful.2.1, by unfold EntriesInScope; decide +kernel, by unfold PlanCurrent; decide +kernel, _, busy_steps⟩

theorem witness_StepKeepsTheIntegralBounded : IntegralBounded busy ∧ ∃ t, step busy = .next t :=
  ⟨by unfold IntegralBounded; decide +kernel, _, busy_steps⟩

theorem witness_StepKeepsIdlePurgeEmpty : IdlePurgeEmpty busy ∧ ∃ t, step busy = .next t :=
  ⟨by unfold IdlePurgeEmpty; decide +kernel, _, busy_steps⟩

/-- The owners' conditions agree where none of them holds. -/
theorem owned_of_none (s : State) (h : s.conditions.coUnderSeal = false ∧ s.conditions.cabCoHigh = false ∧
      s.conditions.vehicleUnverified = false ∧ s.vehicle.record.verified = true ∧ s.conditions.sensorFailed = false ∧
      (∀ e ∈ s.scan.working, (s.record.get e.channel).status ≠ .failed) ∧
      s.conditions.motorFault = false ∧ s.conditions.actuatorStuck = false)
    (hb : ∀ b, (s.blowers.get b).protection ≠ .latched) (ha : ∀ a, (s.actuators.get a).motion ≠ .stuck) :
    OwnedConditions s := by
  obtain ⟨h1, h2, h3, h4, h5, h6, h7, h8⟩ := h
  refine ⟨by simp [h1, h2], by simp [h3, h4], by simpa [h5] using h6, by simpa [h7] using hb, by simpa [h8] using ha⟩

theorem busy_owned : OwnedConditions busy := by
  refine owned_of_none _ (by decide +kernel) ?_ ?_
  · intro b; cases b <;> decide +kernel
  · intro a; cases a <;> decide +kernel

theorem witness_StepKeepsOwnedConditions : OwnedConditions busy ∧ ∃ t, step busy = .next t := ⟨busy_owned, _, busy_steps⟩

/-- Vehicle Unverified is Raised at a station's first silence and Hold Shortfall is not: no masked condition, no ALERT. -/
theorem witness_StepKeepsAlertWithTheMask : AlertWithMask busy ∧ ∃ t, step busy = .next t := by
  refine ⟨⟨fun h => absurd h (by decide +kernel), ?_⟩, _, busy_steps⟩
  rintro ⟨_, c, _, hc⟩
  exact absurd hc (by cases c <;> decide +kernel)

theorem witness_StepKeepsTheTrendQueueBounded : TrendBounded busy ∧ ∃ t, step busy = .next t :=
  ⟨by unfold TrendBounded; decide +kernel, _, busy_steps⟩

theorem witness_StepKeepsTheRecordConsistent : RecordConsistent busy ∧ ∃ t, step busy = .next t := by
  refine ⟨fun c => ?_, _, busy_steps⟩
  have h : busy.record.get c = ⟨.unsampled, none, none, 0⟩ := by
    cases c with
    | cal k => cases k <;> decide +kernel
    | reference => decide +kernel
    | ground => decide +kernel
  rw [h]
  exact ⟨by decide, fun v hv => (by cases hv), rfl, by decide⟩

theorem witness_StepKeepsStoppedBlowersAtZero : StoppedAtZero busy ∧ ∃ t, step busy = .next t := by
  refine ⟨⟨⟨by decide +kernel, by decide +kernel, by decide +kernel, by decide +kernel, ?_⟩, ?_⟩, _, busy_steps⟩
  · intro e he z l h
    have : e = ⟨.s3, .shelter, false⟩ := by
      have ht : busy.table = [⟨.s3, .shelter, false⟩] := by decide +kernel
      simpa [ht] using he
    rw [this] at h; cases h
  · intro b; cases b <;> decide +kernel

theorem witness_StepKeepsActuatorsInRange : ActuatorsInRange busy ∧ ∃ t, step busy = .next t := by
  refine ⟨fun a => ?_, _, busy_steps⟩
  cases a <;> decide +kernel

/-- The factory settings lie in range. -/
theorem factory_in_range : SettingsInRange Config.factory := by
  refine ⟨?_, by decide, ?_, by decide, by decide, ?_⟩
  · intro st lo hi h
    rcases st with w | _ | n | n | n | n | p | g | _ | p | d | _ | f | ⟨c, k⟩ | t | _ | l | t | ⟨a, e⟩
    case scan => rcases f with _ | ⟨p, k⟩ <;> simp [rangeOf] at h; obtain ⟨rfl, rfl⟩ := h; decide
    case level => rcases l with _ | b <;> [skip; cases b] <;> simp [rangeOf] at h <;> obtain ⟨rfl, rfl⟩ := h <;> decide
    case feedbackEnd => cases e <;> cases a <;> simp [rangeOf] at h <;> obtain ⟨rfl, rfl⟩ := h <;> decide
    case slotRank => cases n <;> simp [rangeOf] at h <;> obtain ⟨rfl, rfl⟩ := h <;> decide
    case window => cases w <;> simp [rangeOf] at h <;> obtain ⟨rfl, rfl⟩ := h <;> decide
    case plan => cases p <;> simp [rangeOf] at h <;> obtain ⟨rfl, rfl⟩ := h <;> decide
    case gain => cases g <;> simp [rangeOf] at h <;> obtain ⟨rfl, rfl⟩ := h <;> decide
    case purge => cases p <;> simp [rangeOf] at h <;> obtain ⟨rfl, rfl⟩ := h <;> decide
    case threshold => cases t <;> simp [rangeOf] at h <;> obtain ⟨rfl, rfl⟩ := h <;> decide
    case time => cases t <;> simp [rangeOf] at h <;> obtain ⟨rfl, rfl⟩ := h <;> decide
    all_goals simp [rangeOf] at h
    all_goals obtain ⟨rfl, rfl⟩ := h
    all_goals decide
  · intro c k; cases c <;> cases k <;> decide
  · intro n m; cases n <;> cases m <;> decide

theorem witness_StepKeepsTheSettingsInRange : SettingsSound busy ∧ ∃ t, step busy = .next t := by
  refine ⟨⟨factory_in_range, fun g w h => ?_, fun w h => ?_⟩, _, busy_steps⟩
  · have hs : busy.store.stored = .whole Config.factory factoryCheck := rfl
    rw [hs] at h
    cases h
    exact factory_in_range
  · have hs : busy.store.writing = none := by decide +kernel
    rw [hs] at h
    cases h

/-! ### The plan, the purge and the vehicle -/

/-- A plan that the resolution changes: reset's, once the ignition is on. -/
theorem witness_ResolutionInstallsAndHandsOn : (resolve crewRaw).plan.body ≠ crewRaw.plan.body := by decide +kernel

/-- Rank 5 and rank 6 contest the Front setpoint. -/
theorem witness_WinnerHasRankThenStateThenRecency :
    let s := after (.setSetpoint .s1 1#16 220#16) (after (.setSetpoint .s3 1#16 190#16) crew)
    s.winner (.setpoint .front) = some ⟨.s3, .setpoint .front 190, false⟩ ∧ s.winner .mode = none := by decide +kernel

/-- A purge to widen, and one to keep; Heavy Smoke, an open Rear door, and neither; each scope rule. -/
theorem witness_PurgeRequestStartsKeepsOrWidens :
    crew.receives .s1 = true ∧ mayRequest (crew.slot .s1).cls 0x07#8 = true ∧ (crew.slot .s1).scope = .both ∧
    crew.purge.phase = .idle ∧ 0 < crew.settings.fallbackFlush ∧ (0#16 ≠ 1#16 ∧ 0#16 ≠ 2#16) ∧
    purging.receives .s1 = true ∧ purging.purge.phase ≠ .idle ∧ purging.purge.scope = some .rear ∧
    (crew.slot .s2).scope = .rear ∧ crew.receives .s2 = true ∧ mayRequest (crew.slot .s2).cls 0x07#8 = true ∧
    (after (.purge .s1 1#16) (after (.vehicleReport .s4 0xB#16 4#16 .resolverFirst) crew)).purge.phase = .armed ∧
    (after (.purge .s1 1#16) (crew.setConditions { crew.conditions with heavySmoke := true })).purge.phase = .deferred := by
  decide +kernel

/-- The originator; rank 6 over it; rank 3 under it; an Auto purge against ranks 3 and 4. -/
theorem witness_CancelEndsThePurge :
    let auto := purging.setPurge { purging.purge with originator := some .auto }
    (∀ n ∈ [Station.s1, .s2, .s3, .s5], purging.receives n = true ∧ mayRequest (purging.slot n).cls 0x08#8 = true) ∧
    crew.purge.phase = .idle ∧ purging.purge.phase ≠ .idle ∧ purging.purge.originator = some (.station .s1) ∧
    (purging.slot .s1).rank ≤ (purging.slot .s3).rank ∧ (purging.slot .s2).rank < (purging.slot .s1).rank ∧
    auto.purge.originator = some .auto ∧ 4 ≤ (auto.slot .s5).rank ∧ (auto.slot .s2).rank < 4 := by decide +kernel

/-- Each phase at its limit and one frame short of it, without a flow value. -/
theorem witness_TimeLimitsEndThePurge :
    let at' := fun (p : PurgePhase) (flushing deferred armed : Nat) =>
      purging.setPurge { purging.purge with phase := p, flushing := flushing, deferred := deferred, armed := armed }
    (at' .armed 0 0 30000).purge.phase = .armed ∧ 30000 ≤ (at' .armed 0 0 30000).purge.armed ∧
    (at' .deferred 0 90000 0).purge.phase = .deferred ∧ 90000 ≤ (at' .deferred 0 90000 0).purge.deferred ∧
    (at' .flushing 24000 0 0).purge.phase = .flushing ∧ (at' .flushing 24000 0 0).flowShown = none ∧
    100 * purging.settings.fallbackFlush ≤ (at' .flushing 24000 0 0).purge.flushing ∧
    ¬100 * purging.settings.fallbackFlush ≤ (at' .flushing 23999 0 0).purge.flushing ∧
    (fresh .intakeFlow 1250 (at' .flushing 60000 0 0)).flowShown = some 1250 ∧
    60000 ≤ (fresh .intakeFlow 1250 (at' .flushing 60000 0 0)).purge.flushing := by decide +kernel

/-- A purge Armed by an open Rear door, with its timers, before the mark at which the Vehicle-class station enters Lost. -/
def doorPurge (armed deferred : Nat) : State :=
  let s := after (.vehicleReport .s4 0xB#16 4#16 .resolverFirst) purging
  silent .s4 ⟨.quiet, 199⟩ (s.setPurge { s.purge with armed := armed, deferred := deferred })

/-- Each timer one and two frames short of its limit at the mark; the doors closed by the loss, and left open. -/
theorem witness_TimeLimitsEndThePurge_at_the_mark :
    let c : Instr := .frameMark ⟨100, 100, 100, 500, 500⟩ [.purge, .supervision, .blowers, .actuators] .purgeFirst
    let at' := fun (p : PurgePhase) (flushing deferred armed : Nat) =>
      purging.setPurge { purging.purge with phase := p, flushing := flushing, deferred := deferred, armed := armed }
    let result := fun (s : State) => (after c s).purge.last.result
    purging.resetHeld = false ∧ (after c crew).purge = crew.purge ∧
    result (at' .armed 0 0 29999) = .abortedDoors ∧ (after c (at' .armed 0 0 29998)).purge.armed = 29999 ∧
    result (at' .deferred 0 89999 0) = .abortedSmoke ∧ (after c (at' .deferred 0 89998 0)).purge.deferred = 89999 ∧
    result (at' .flushing 23999 0 0) = .doneTimed ∧ (after c (at' .flushing 23998 0 0)).purge.flushing = 23999 ∧
    result (fresh .intakeFlow 1250 (at' .flushing 59999 0 0)) = .abortedTime ∧
    (after c (fresh .intakeFlow 1250 (at' .flushing 59998 0 0))).purge.flushing = 59999 := by decide +kernel

theorem witness_TimeLimitsEndThePurge_doors_closed :
    let c : Instr := .frameMark ⟨100, 100, 100, 500, 500⟩ [.purge, .supervision, .blowers, .actuators] .purgeFirst
    let s := doorPurge 29998 0
    s.purge.phase = .armed ∧ s.vehicleStation = some .s4 ∧ s.modeOf .s4 ≠ .lost ∧ (after c s).modeOf .s4 = .lost ∧
    s.purge.scope = some .rear ∧ s.vehicle.record.doors.get .d3 = true ∧ s.settings.doorMap.get .d3 = .rear ∧
    s.conditions.heavySmoke = false ∧ (fresh .intakeFlow 1250 s).flowShown ≠ none ∧
    (after c (fresh .intakeFlow 1250 s)).purge.phase = .flushing ∧
    (after c ((doorPurge 29998 89998).setConditions { s.conditions with heavySmoke := true })).purge.phase = .deferred ∧
    (after c (doorPurge 29999 0)).purge.phase ≠ .armed := by decide +kernel

/-- Section 4.8's flow, with a count short of the target and one that meets it; the count at its top. -/
theorem witness_FlowSampleAddsItsUnits :
    let s := fresh .intakeFlow 1250 purging
    s.purge.phase = .flushing ∧ s.flowShown = some ((1250 : Nat) : Int) ∧ s.purge.litres ≤ 65535 ∧
    s.purge.remainder < 10000 ∧ s.purge.target = some 10800 ∧
    (flowSample (some 0#32) 40#32 s).purge.litres = 5 ∧
    (flowSample (some 0#32) 40#32 (s.setPurge { s.purge with litres := 10795 })).purge.phase = .idle ∧
    10000 * 65536 ≤ 10000 * 65535 + 9999 + 1250 * 40 := by decide +kernel

/-- A report that gives a Crew Return, one a frame short of it, and one that repeats the record. -/
theorem witness_ReportIsTakenWhole :
    let s := after (.vehicleReport .s4 0xB#16 4#16 .resolverFirst) sheltered
    let open' := fun (k : Nat) => s.setVehicle { s.vehicle with timers := s.vehicle.timers.set .d3 (some k) }
    (open' 1000).receives .s4 = true ∧ ((open' 1000).slot .s4).cls = .vehicle ∧
    (after (.vehicleReport .s4 0xB#16 0#16 .purgeFirst) (open' 1000)).vehicle.crewReturns = 1#8 ∧
    (after (.vehicleReport .s4 0xB#16 0#16 .purgeFirst) (open' 999)).vehicle.crewReturns = 0#8 ∧
    (after (.vehicleReport .s4 0xB#16 4#16 .purgeFirst) s).vehicle.record = s.vehicle.record ∧ s.modeOf .s4 = .live := by
  decide +kernel

/-! ### The scan and the trend -/

/-- A Flushing purge in a sheltered cab, with Outside Smoke converting and the Heavy Smoke timer at 100. -/
def smoky : State :=
  let s := after (.purge .s1 1#16) sheltered
  (s.setScan { s.scan with walk := .converting ⟨.cal .outsideSmoke, 5, 2⟩ [⟨.ground, 2, 1⟩] 0#32 }).setScene
    { s.scene with heavy := ⟨some 100, none⟩ }

/-- A Flushing purge without a shelter source, with both smoke timers at their raise times. -/
def plume : State :=
  (purging.setScan { purging.scan with walk := .converting ⟨.cal .outsideSmoke, 5, 2⟩ [⟨.ground, 2, 1⟩] 0#32 }).setScene
    { purging.scene with heavy := ⟨some 100, none⟩, smoke := ⟨some 200, none⟩ }

/-- R78, R124: one sample raises both; the Purge Controller first, one Sealed plan follows the Flushing one. -/
theorem test_two_raises_seal_at_once :
    let t := fun (turn : Turn) => (after (.conversionEnd 12000#14 turn) plume).plan
    plume.plan.body.shelter = .inactive ∧ plume.plan.body.shutter = 100 ∧
    (t .purgeFirst).version = plume.plan.version + 1#16 ∧ (t .resolverFirst).version = plume.plan.version + 2#16 ∧
    (t .purgeFirst).body.shutter = 0 ∧ (t .purgeFirst).body = (t .resolverFirst).body := by decide +kernel

/-- A count of 12000 is 732, over the Heavy Raise Level. -/
theorem witness_HeavySmokeSealsTheCab :
    smoky.scan.walk = .converting ⟨.cal .outsideSmoke, 5, 2⟩ [⟨.ground, 2, 1⟩] 0#32 ∧
    nextDue smoky.scan.pass [⟨.ground, 2, 1⟩] ≠ none ∧ (12000#14 ≠ 0#14 ∧ 12000#14 ≠ 16383#14) ∧
    smoky.conditions.converterDrift = false ∧ smoky.conditions.heavySmoke = false ∧
    smoky.plan.body.shelter ≠ .sealed ∧ smoky.resetHeld = false ∧
    (smoky.settings.thresholds.heavyRaise : Int) ≤ calibrate .outsideSmoke smoky.settings.gain.outsideSmoke
      smoky.settings.offset.outsideSmoke (12000#14 : BitVec 14).toNat ∧
    smoky.scene.heavy.raise = some 100 ∧ (∃ en ∈ smoky.table, en.demand = .shelter) ∧ smoky.purge.phase = .flushing ∧
    plume.settings.autoShelter = true ∧ plume.conditions.smokeOutside = false ∧
    (plume.settings.thresholds.smokeRaise : Int) ≤ calibrate .outsideSmoke plume.settings.gain.outsideSmoke
      plume.settings.offset.outsideSmoke (12000#14 : BitVec 14).toNat ∧
    plume.scene.smoke.raise = some 200 ∧ plume.scene.heavy.raise = some 100 ∧
    plume.conditions.heavySmoke = false := by
  decide +kernel

/-- The two ends of each good range; a place with more entries due, and the last one of its pass. -/
theorem witness_ConversionEndTakesTheSample :
    State.reset.scan.walk = .converting ⟨.cal .cabPressure, 3, 1⟩ (Config.factoryScanList.drop 1) 0#32 ∧
    nextDue State.reset.scan.pass (Config.factoryScanList.drop 1) =
      some (⟨.cal .intakeFlow, 3, 1⟩, Config.factoryScanList.drop 2) ∧ State.reset.clock.tenths < 10 ∧
    State.reset.resetHeld = false ∧ nextDue 0#8 [] = none ∧ nextDue 1#8 [⟨.ground, 2, 8⟩, ⟨.reference, 2, 4⟩] = none ∧
    nextDue 0#8 [⟨.ground, 2, 8⟩, ⟨.reference, 2, 8⟩] = some (⟨.ground, 2, 8⟩, [⟨.reference, 2, 8⟩]) ∧
    ((1#14 ≠ 0#14 ∧ 1#14 ≠ 16383#14) ∧ (16382#14 ≠ 0#14 ∧ 16382#14 ≠ 16383#14)) ∧
    (8032 ≤ (8032#14 : BitVec 14).toNat ∧ (8352#14 : BitVec 14).toNat ≤ 8352 ∧ (80#14 : BitVec 14).toNat ≤ 80) := by
  decide +kernel

/-- An empty list, a list with an entry due, a list with none due, and no empty pass. -/
theorem witness_EmptyPassEndStartsTheNextPass :
    let s := crew.setScan { crew.scan with walk := .empty 76#32 }
    let none' := s.setSettings { s.settings with scanLength := 0 }
    let eights := s.setSettings { s.settings with scanLength := 1, scanPositions := [⟨.ground, 2, 8⟩] }
    s.scan.walk = .empty 76#32 ∧ s.resetHeld = false ∧
    (after (.emptyPassEnd .resolverFirst) none').scan.working = [] ∧
    (after (.emptyPassEnd .resolverFirst) s).scan.working = [] ++ ⟨.cal .cabPressure, 3, 1⟩ :: Config.factoryScanList.drop 1 ∧
    (after (.emptyPassEnd .resolverFirst) s).scan.pass.toNat % 1 = 0 ∧
    (after (.emptyPassEnd .resolverFirst) eights).scan.working = [⟨.ground, 2, 8⟩] ∧
    (after (.emptyPassEnd .resolverFirst) eights).scan.pass.toNat % 8 ≠ 0 ∧
    crew.scan.walk ≠ .empty 76#32 := by decide +kernel

/-- The counter at its decimation and one short of it; 47 and 48 records in the queue. -/
theorem witness_TrendCaptureTakesARecord :
    let held := fun (counter records : Nat) => crew.setTrend
      ⟨some ⟨.s3, 1#16, 50⟩, counter, List.replicate records ⟨0#8, 0#16, false, []⟩, true, 1⟩
    (held 50 47).trend.hold = some ⟨.s3, 1#16, 50⟩ ∧ 50 ≤ (held 50 47).trend.passCounter ∧
    (held 50 47).trend.queue.length < 48 ∧ 48 ≤ (held 50 48).trend.queue.length ∧
    (held 49 0).trend.passCounter < 50 := by decide +kernel

/-- The pass end of a stream at its decimation and one short of it, and of no stream; a check seen Good, seen Bad and not
seen, and a new list without one. -/
theorem witness_pass_ends :
    let held := fun (counter : Nat) => crew.setTrend ⟨some ⟨.s3, 1#16, 50⟩, counter, [], false, 0⟩
    let ends := fun (s : State) => s.setScan { s.scan with walk := .converting ⟨.ground, 2, 1⟩ [] 0#32 }
    let drift := fun (seen bad : Bool) =>
      let s := crew.setConditions { crew.conditions with converterDrift := true }
      s.setScan { s.scan with walk := .empty 0#32, checkSeen := seen, checkBad := bad }
    let unlisted := fun (s : State) => s.setSettings { s.settings with scanLength := 1 }
    let e : Instr := .emptyPassEnd .resolverFirst
    (after (.conversionEnd 80#14 .resolverFirst) (ends (held 48))).trend.passCounter = 49 ∧
    (after (.conversionEnd 80#14 .resolverFirst) (ends (held 49))).trend.queue.length = 1 ∧
    (after (.conversionEnd 81#14 .resolverFirst) (ends crew)).conditions.converterDrift = true ∧
    (after e (drift true false)).conditions.converterDrift = false ∧
    (after e (drift true true)).conditions.converterDrift = true ∧
    (after e (drift false false)).conditions.converterDrift = true ∧
    (after e (unlisted (drift false false))).conditions.converterDrift = false := by decide +kernel

/-! ### Blowers and actuators -/

theorem witness_CurrentChangeIsComparedAtOnce :
    (crew.blowers.get .front).protection = .running ∧ crew.resetHeld = false ∧ heldReset.resetHeld = true ∧
    crew.settings.shortLevel ≤ 300 ∧ ¬crew.settings.shortLevel ≤ 299 ∧
    crew.settings.overloadLevel.get .front ≤ 120 ∧ ¬crew.settings.overloadLevel.get .front ≤ 119 := by decide +kernel

/-- Nothing that the owned conditions tell of holds in `crew`. -/
theorem crew_none : crew.conditions.coUnderSeal = false ∧ crew.conditions.cabCoHigh = false ∧
    crew.conditions.vehicleUnverified = false ∧ crew.vehicle.record.verified = true ∧
    crew.conditions.sensorFailed = false ∧
    (∀ e ∈ crew.scan.working, (crew.record.get e.channel).status ≠ .failed) ∧
    crew.conditions.motorFault = false ∧ crew.conditions.actuatorStuck = false := by decide +kernel

theorem crew_blowers (b : Blower) : (crew.blowers.get b).protection ≠ .latched := by cases b <;> decide +kernel

theorem crew_actuators (a : ActuatorId) : (crew.actuators.get a).motion ≠ .stuck := by cases a <;> decide +kernel

theorem withBlower_owned (b : Blower) (r : BlowerState) (h : r.protection ≠ .latched) :
    OwnedConditions (withBlower b r crew) := by
  refine owned_of_none _ crew_none (fun b' => ?_) crew_actuators
  show ((crew.blowers.set b r).get b').protection ≠ .latched
  rw [PerBlower.get_set]
  split
  · exact h
  · exact crew_blowers b'

theorem withActuator_owned (a : ActuatorId) (r : ActuatorState) (h : r.motion ≠ .stuck) :
    OwnedConditions (withActuator a r crew) := by
  refine owned_of_none _ crew_none crew_blowers (fun a' => ?_)
  show ((crew.actuators.set a r).get a').motion ≠ .stuck
  rw [PerActuator.get_set]
  split
  · exact h
  · exact crew_actuators a'

/-- A running short timer; the overload timer at its time and one frame short of it; the fourth trip. -/
theorem witness_TripsStopTheBlower :
    OwnedConditions (withBlower .intake ⟨0, 0, .running, some 0, none, none, 0, none, .none, 300⟩ crew) ∧
    OwnedConditions (dragging 300 3) ∧ OwnedConditions (dragging 299 0) ∧
    ((dragging 300 3).blowers.get .intake).protection = .running ∧
    ((dragging 300 3).blowers.get .intake).overloadTimer = some 300 ∧
    10 * (dragging 300 3).settings.overloadTime ≤ 300 ∧ 299 < 10 * (dragging 299 0).settings.overloadTime := by
  exact ⟨withBlower_owned _ _ (by decide), withBlower_owned _ _ (by decide), withBlower_owned _ _ (by decide),
    by decide +kernel, by decide +kernel, by decide +kernel, by decide +kernel⟩

/-- The cooldown at 200 and 199, the window at 6000 and 5999. -/
theorem witness_CooldownAndWindowRunOut :
    let tripped' := fun (k w : Nat) =>
      withBlower .intake ⟨561, 0, .tripped, none, none, some k, 1, some w, .overload, 0⟩ crew
    OwnedConditions (tripped' 200 6000) ∧ OwnedConditions (tripped' 199 5999) ∧
    ((tripped' 200 6000).blowers.get .intake).protection = .tripped ∧
    ((tripped' 200 6000).blowers.get .intake).cooldown = some 200 ∧
    ((tripped' 200 6000).blowers.get .intake).window = some 6000 ∧
    ((tripped' 199 5999).blowers.get .intake).cooldown = some 199 ∧
    ((tripped' 199 5999).blowers.get .intake).window = some 5999 := by
  exact ⟨withBlower_owned _ _ (by decide), withBlower_owned _ _ (by decide), by decide +kernel, by decide +kernel,
    by decide +kernel, by decide +kernel, by decide +kernel⟩

/-- Rank 3 under the rank of 4, the Service station at it. -/
theorem witness_ClearLatchesRestartsTheMovers :
    let s := after (.overloadTrip .intake) (dragging 300 3)
    s.receives .s2 = true ∧ mayRequest (s.slot .s2).cls 0x0A#8 = true ∧ (s.slot .s2).rank < 4 ∧
    s.receives .s5 = true ∧ mayRequest (s.slot .s5).cls 0x0A#8 = true ∧ 4 ≤ (s.slot .s5).rank ∧
    (s.blowers.get .intake).protection = .latched := by decide +kernel

/-- The three timers at their ends; a target within 2 of the position and one beyond. -/
theorem witness_ActuatorTimersRunOut :
    OwnedConditions (jammed .moving 150 none 100 false) ∧ OwnedConditions (jammed .moving 150 none 100 true) ∧
    OwnedConditions (jammed .stalled 0 (some 500) 42 false) ∧ OwnedConditions (jammed .stalled 0 (some 500) 43 false) ∧
    ((jammed .moving 150 none 100 false).actuators.get .shutter).stallTimer = 150 ∧
    ((jammed .stalled 0 (some 500) 42 false).actuators.get .shutter).stallWait = some 500 ∧
    OwnedConditions (withActuator .frontMix ⟨60, 51, .reversing, .off, 50, 0, some 10, none, false, .none, false, 508⟩ crew) := by
  exact ⟨withActuator_owned _ _ (by decide), withActuator_owned _ _ (by decide), withActuator_owned _ _ (by decide),
    withActuator_owned _ _ (by decide), by decide +kernel, by decide +kernel, withActuator_owned _ _ (by decide)⟩

theorem jammed_calm : Calm (jammed .moving 149 none 100 false) ∧ Calm (jammed .stalled 0 (some 499) 42 false) :=
  ⟨calm_of _ (by decide +kernel) (by decide +kernel) (by decide +kernel),
   calm_of _ (by decide +kernel) (by decide +kernel) (by decide +kernel)⟩

/-- The mark with readings at both ends of the range and just outside it; each timer one and two frames short of its
end. -/
theorem witness_ActuatorTimersRunOut_at_the_mark :
    let mark := fun (reading : Nat) (s : State) =>
      (after (.frameMark ⟨reading, 100, 100, 500, 500⟩ [.actuators, .supervision, .purge, .blowers] .resolverFirst)
        s).actuators.shutter
    let reversing := fun (k target : Nat) =>
      withActuator .shutter ⟨target, 40, .reversing, .off, 40, 0, some k, none, false, .none, false, 420⟩ crew
    let waits := fun (target : Nat) =>
      withActuator .shutter ⟨target, 0, .still, .off, 0, 0, none, none, false, .none, true, 0⟩ crew
    crew.resetHeld = false ∧ crew.settings.closedEnd.shutter < crew.settings.openEnd.shutter ∧
    (mark 19 crew).motion = .stuck ∧ (mark 20 (jammed .still 0 none 40 false)).motion = .still ∧ (mark 980 crew).position = 100 ∧
    (mark 981 crew).lastFault = .feedback ∧
    (mark 420 (jammed .moving 149 none 100 false)).motion = .stalled ∧
    (mark 420 (jammed .moving 148 none 100 false)).stallTimer = 149 ∧
    (mark 420 (jammed .moving 149 none 100 true)).motion = .stuck ∧
    (mark 436 (jammed .moving 149 none 100 false)).stallTimer = 0 ∧
    (mark 420 (jammed .moving 0 none 42 false)).motion = .still ∧
    (mark 420 (jammed .moving 0 none 37 false)).motion = .reversing ∧
    (mark 420 (reversing 9 42)).motion = .still ∧ (mark 420 (reversing 9 43)).motion = .moving ∧
    (mark 420 (reversing 8 43)).reversal = some 9 ∧
    (mark 420 (jammed .stalled 0 (some 499) 42 false)).motion = .still ∧
    (mark 420 (jammed .stalled 0 (some 499) 43 false)).retryUsed = true ∧
    (mark 420 (jammed .stalled 0 (some 498) 43 false)).stallWait = some 499 ∧
    (mark 420 (waits 42)).motion = .still ∧ (mark 420 (waits 43)).motion = .moving := by decide +kernel

/-! ### The Crew Loop and the readout -/

/-- Runs of 1, 2, 8 and 9, with Loop Fault Clear and Raised. -/
theorem witness_FrameMarkEndCountsTheReadback :
    let raised := (crew.setConditions { crew.conditions with loopFault := true }).setLoop { crew.loop with goodRun := 9 }
    crew.resetHeld = false ∧ crew.conditions.loopFault = false ∧ crew.loop.mismatchRun < 2 ∧
    2 ≤ (crew.setLoop { crew.loop with mismatchRun := 2 }).loop.mismatchRun ∧
    raised.conditions.loopFault = true ∧ 9 ≤ raised.loop.goodRun ∧
    (raised.setLoop { raised.loop with goodRun := 8 }).loop.goodRun < 9 := by decide +kernel

/-- A slot that can take none; a window not taken, taken by Idle with words waiting and without, and taken by a request;
a cell that disables its own slot. -/
theorem witness_WindowEndJudgesAndChooses :
    let reading := after (.readout .s3 0#16 6#16) crew
    let own : Cell := ⟨.s5, 0x0F#8, 176#16, 0#16, 0#16, 0#16⟩
    crew.receives .s6 = false ∧ crew.receives .s3 = true ∧ crew.cellTaken .s3 = false ∧
    (∃ a, (reading.loop.lines.get .s3).window = .taken 0x0B#8 (some a)) ∧
    ((after (.idle .s3) crew).loop.lines.get .s3).window = .taken 0x00#8 none ∧
    (reading.buffers.get .s3).isSome = true ∧ (crew.buffers.get .s3).isSome = false ∧
    commandOf ⟨.s3, 0x00#8, 0#16, 0#16, 0#16, 0#16⟩ .resolverFirst = .idle .s3 ∧
    (List.replicate 10 0#8).length < 11 ∧
    commandOf own .resolverFirst = .settingsWrite .s5 176#16 0#16 ∧
    (after (.settingsWrite .s5 176#16 0#16) crew).receives .s5 = false := by
  refine ⟨by decide +kernel, by decide +kernel, by decide +kernel, ⟨⟨.done, 0#16, 6#16, 0#16⟩, by decide +kernel⟩, ?_⟩
  decide +kernel

/-- Each choice; a readout and a stream record waiting. -/
theorem witness_DownlinkStartSendsTheChosenCell :
    let choose := fun (d : Downlink) (s : State) =>
      s.setLoop { s.loop with lines := s.loop.lines.set .s3 ⟨.silent, false, d, none⟩ }
    let stream := crew.setTrend ⟨some ⟨.s3, 1#16, 1⟩, 0, [⟨0#8, 0#16, false, [none]⟩], false, 0⟩
    (crew.loop.lines.get .s3).choice = .none ∧
    ((choose (.answer 0x01#8 ⟨.done, 0#16, 0#16, 0#16⟩) crew).loop.lines.get .s3).choice =
      .answer 0x01#8 ⟨.done, 0#16, 0#16, 0#16⟩ ∧
    ((choose .status crew).loop.lines.get .s3).choice = .status ∧ crew.modeOf .s3 ≠ .disabled ∧
    ((choose .data (after (.readout .s3 0#16 6#16) crew)).buffers.get .s3).isSome = true ∧
    (choose .data stream).buffers.get .s3 = none ∧ (choose .data stream).holdsStream .s3 = true ∧
    (choose .data stream).trend.queue = [⟨0#8, 0#16, false, [none]⟩] := by decide +kernel

/-- A cell on the line that is no run's, a readout's with one cell left and with more, a record's. -/
theorem witness_DownlinkEndAdvancesTheRun :
    let onLine := fun (run : Option RunKind) (s : State) => s.setLoop { s.loop with
      lines := s.loop.lines.set .s3 ⟨.silent, false, .none, some ⟨⟨.s3, 0x02#8, 0#16, 0#16, 0#16, 0#16⟩, run⟩⟩ }
    let read := fun (words : Nat) => crew.setBuffers (crew.buffers.set .s3 (some ⟨List.replicate words 0#16, 0⟩))
    (crew.loop.lines.get .s3).onAir = none ∧ ((onLine none crew).loop.lines.get .s3).onAir.isSome = true ∧
    ((onLine (some .readout) (read 3)).buffers.get .s3) = some ⟨List.replicate 3 0#16, 0⟩ ∧
    ((onLine (some .readout) (read 4)).buffers.get .s3) = some ⟨List.replicate 4 0#16, 0⟩ ∧
    (onLine (some .stream) (crew.setTrend
      ⟨some ⟨.s3, 1#16, 1⟩, 0, [⟨0#8, 0#16, false, [none, none]⟩], true, 0⟩)).trend.queue =
        [⟨0#8, 0#16, false, [none, none]⟩] := by decide +kernel

/-- The start words 361 and 362; a readout in flight. -/
theorem witness_ReadoutCopiesAndClearsMarks :
    crew.receives .s3 = true ∧ (361#16 : Word).toNat ≤ 361 ∧ 361 < (362#16 : Word).toNat ∧ crew.buffers.get .s3 = none ∧
    ((after (.readout .s3 0#16 6#16) crew).buffers.get .s3).isSome = true ∧
    (after (.readout .s3 0#16 6#16) crew).receives .s3 = true := by decide +kernel

/-- Masks of 0, 1, 8 and 9 channels; a holder of higher rank, and one of lower. -/
theorem witness_StreamIsJoinedAndLeft :
    let held := after (.joinStream .s3 1#16 1#16) crew
    let channels := fun (mask : Word) => (Channel.all.filter fun c => mask.getLsbD c.num).length
    held.receives .s1 = true ∧ mayRequest (held.slot .s1).cls 0x0C#8 = true ∧ channels 0xE000#16 = 0 ∧
    channels 1#16 = 1 ∧ channels 0xFF#16 = 8 ∧ channels 0x1FF#16 = 9 ∧
    held.trend.hold = some ⟨.s3, 1#16, 1⟩ ∧ (held.slot .s1).rank ≤ (held.slot .s3).rank ∧
    ¬(held.slot .s3).rank ≤ (held.slot .s1).rank := by decide +kernel

/-! ### Settings -/

theorem crew_permit : Permit (arrive .s5 crew) := by unfold Permit; decide +kernel

theorem crew_service : crew.receives .s5 = true ∧ (crew.slot .s5).cls = .service :=
  ⟨by decide +kernel, by decide +kernel⟩

/-- The permit missing and met; an index of no setting, a code of no class, a second Vehicle class, a store under way. -/
theorem witness_ServiceRequestsAreRefusedInOrder :
    (crew.receives .s5 = true ∧ (crew.slot .s5).cls = .service) ∧ Permit (arrive .s5 crew) ∧
    ¬Permit (arrive .s5 sheltered) ∧ requestOf (.doorLevelWrite .s5 1#16) = some (.s5, 0x0F#8) ∧
    (∀ st ∈ Setting.all, st.index ≠ (252#16 : Word).toNat) ∧ ¬MayHold crew (.slotClass .s1) 6#16 ∧
    ¬MayHold crew (.slotClass .s1) 4#16 ∧ (after (.settingsStore .s5) crew).store.writing.isSome = true := by
  refine ⟨crew_service, crew_permit, by unfold Permit; decide +kernel, by decide, by decide +kernel, ?_, ?_,
    by decide +kernel⟩
  · intro h; exact absurd (h.1 5 rfl) (by decide)
  · intro h
    exact h.2.2 .s1 rfl (by decide) (by decide +kernel) .s4 (by decide) ⟨by decide +kernel, by decide +kernel⟩

/-- A setting of numbers at any word, and a coded one at its last code. -/
theorem witness_SettingsWritesHoldTheirValue :
    (crew.receives .s5 = true ∧ (crew.slot .s5).cls = .service) ∧ Permit (arrive .s5 crew) ∧
    (∀ value, MayHold crew (.plan .shelterTarget) value) ∧ MayHold crew (.doorMap .d1) 2#16 ∧
    SettingsInRange crew.settings := by
  refine ⟨crew_service, crew_permit, fun v => ⟨fun k h => (by cases h), fun m h => (by cases h), fun m h => (by cases h)⟩,
    ⟨fun k h => ?_, fun m h => (by cases h), fun m h => (by cases h)⟩, factory_in_range⟩
  cases h; decide

/-- Station 3 holds an entry; slot 6 is disabled; the permit holds. -/
theorem witness_SlotWritesActAtOnce :
    (crew.receives .s5 = true ∧ (crew.slot .s5).cls = .service) ∧ Permit (arrive .s5 crew) ∧
    SettingsInRange crew.settings ∧ MayHold crew (.slotEnabled .s6) 1#16 ∧
    MayHold crew (.slotClass .s1) (Word.ofNat StationClass.service.code) ∧
    ((after (.idle .s5) crew).slot .s6).enabled = false ∧ ((after (.idle .s5) crew).slot .s3).enabled = true := by
  refine ⟨crew_service, crew_permit, factory_in_range, ⟨fun k h => ?_, fun m h => ?_, fun m h => (by cases h)⟩,
    ⟨fun k h => ?_, fun m h => (by cases h), fun m h hv => ?_⟩, by decide +kernel, by decide +kernel⟩
  · cases h; decide
  · cases h; intro _ hv; exact absurd hv (by decide +kernel)
  · cases h; decide
  · exact absurd hv (by decide)

theorem witness_StoreSnapshotsAndCompletes :
    (crew.receives .s5 = true ∧ (crew.slot .s5).cls = .service) ∧ Permit (arrive .s5 crew) ∧
    crew.store.writing = none ∧ (after (.settingsStore .s5) crew).store.writing.isSome = true ∧
    crew.conditions.settingsDefaulted = false :=
  ⟨crew_service, crew_permit, by decide +kernel, by decide +kernel, by decide +kernel⟩

end Sys2Proof.Tests
end

section
/-! What a resolution does, said once: the inputs of the plan, what a handing on may change, and the specification of
`resolve` (R23, R25, R26). -/

namespace Sys2Proof.Machine

open Sys2Proof

/-! ## The inputs of the plan -/

/-- The plan is formed from the settings, the table, the resolver's own memory, the purge, the vehicle, the Cab Air
Record and the conditions other than Hold Shortfall and CO Under Seal (R25). -/
theorem formPlan_congr {s t : State} (settings : t.settings = s.settings) (table : t.table = s.table)
    (resolver : t.resolver = s.resolver) (purge : t.purge = s.purge) (vehicle : t.vehicle = s.vehicle)
    (record : t.record = s.record) (conditions : ConditionsChangeOnly [.holdShortfall, .coUnderSeal] s t) :
    formPlan t = formPlan s := by
  have smoke : t.conditions.heavySmoke = s.conditions.heavySmoke := conditions .heavySmoke (by decide)
  have outsideCo : t.conditions.outsideCoHigh = s.conditions.outsideCoHigh := conditions .outsideCoHigh (by decide)
  have cabCo : t.conditions.cabCoHigh = s.conditions.cabCoHigh := conditions .cabCoHigh (by decide)
  have supply : t.conditions.supplyLow = s.conditions.supplyLow := conditions .supplyLow (by decide)
  calc formPlan t
    _ = formPlan { s with
          settings := t.settings, table := t.table, resolver := t.resolver, purge := t.purge, vehicle := t.vehicle
          record := t.record
          conditions := { s.conditions with
            heavySmoke := t.conditions.heavySmoke, outsideCoHigh := t.conditions.outsideCoHigh
            cabCoHigh := t.conditions.cabCoHigh, supplyLow := t.conditions.supplyLow } } := rfl
    _ = formPlan s := by
      rw [settings, table, resolver, purge, vehicle, record, smoke, outsideCo, cabCo, supply]

@[simp] theorem formPlan_setLoop (s : State) (l : Loop) : formPlan (s.setLoop l) = formPlan s := rfl

/-! ## Handing on -/

/-- What the handing on of a plan may change: the regulator, the two conditions that follow the plan, their pin and
marks, the actuators and the blowers' targets (R26). -/
structure HandedOn (s t : State) : Prop where
  parts : ChangesOnly [.reg, .conditions, .alert, .blowers, .actuators, .marks] s t
  conditions : ConditionsChangeOnly [.holdShortfall, .coUnderSeal] s t
  marks : MarksChangeOnly [.plan, .conditions] s t
  blowers : BlowersKeepAllButTargets s t

theorem HandedOn.refl (s : State) : HandedOn s s :=
  ⟨ChangesOnly.refl _ s, fun _ _ => rfl, fun _ _ _ => rfl, fun _ => rfl⟩

theorem HandedOn.trans {s t u : State} (h : HandedOn s t) (h' : HandedOn t u) : HandedOn s u where
  parts := h.parts.trans h'.parts
  conditions := h.conditions.trans h'.conditions
  marks := h.marks.trans h'.marks
  blowers b := by rw [h'.blowers b, h.blowers b]

theorem setReg_handedOn (r : Regulator) (s : State) : HandedOn s (s.setReg r) where
  parts p hp := by cases p <;> first | rfl | exact absurd (by decide) hp
  conditions _ _ := rfl
  marks _ _ _ := rfl
  blowers _ := rfl

theorem setActuators_handedOn (v : PerActuator ActuatorState) (s : State) : HandedOn s (s.setActuators v) where
  parts p hp := by cases p <;> first | rfl | exact absurd (by decide) hp
  conditions _ _ := rfl
  marks _ _ _ := rfl
  blowers _ := rfl

theorem setBlowers_handedOn {v : PerBlower BlowerState} {s : State}
    (h : ∀ b, v.get b = { s.blowers.get b with target := (v.get b).target }) : HandedOn s (s.setBlowers v) where
  parts p hp := by cases p <;> first | rfl | exact absurd (by decide) hp
  conditions _ _ := rfl
  marks _ _ _ := rfl
  blowers := h

theorem markPlan_handedOn (s : State) : HandedOn s (markAll .plan s) := by
  obtain ⟨-, marks, parts⟩ := markAll_spec .plan s
  exact ⟨parts.mono (by decide), fun d _ => by simp, marks.mono (by decide), fun b => by simp⟩

theorem setCondition_handedOn {c : Condition} (hc : c ∈ [Condition.holdShortfall, .coUnderSeal]) (v : Bool)
    (s : State) : HandedOn s (setCondition c v s) := by
  obtain ⟨get, -, -, marks, parts⟩ := setCondition_spec c v s
  refine ⟨parts.mono (by decide), fun d hd => ?_, marks.mono (by decide), fun b => by simp⟩
  rw [get, if_neg (ne_of_mem_of_not_mem hc hd).symm]

theorem checkShortfall_handedOn (s : State) : HandedOn s (checkShortfall s) := by
  unfold checkShortfall
  split
  · exact .refl s
  · exact (setReg_handedOn _ s).trans (setCondition_handedOn (by decide) _ _)

theorem syncIntake_handedOn (s : State) : HandedOn s (syncIntake s) :=
  setBlowers_handedOn fun b => by cases b <;> rfl

theorem takeZoneBlowers_handedOn (s : State) : HandedOn s (takeZoneBlowers s) :=
  setBlowers_handedOn fun b => by cases b <;> rfl

theorem withRegulator_handedOn (r : Regulator) (s : State) : HandedOn s (withRegulator r s) :=
  ((setReg_handedOn r s).trans (syncIntake_handedOn _)).trans (checkShortfall_handedOn _)

theorem updateCoUnderSeal_handedOn (s : State) : HandedOn s (updateCoUnderSeal s) :=
  setCondition_handedOn (by decide) _ s

/-- The handing on of an installed plan, block by block (R26). -/
theorem handOver_handedOn (s : State) : HandedOn s (handOver s) :=
  (markPlan_handedOn s).trans <| (withRegulator_handedOn _ _).trans <| (takeZoneBlowers_handedOn _).trans <|
    (setActuators_handedOn _ _).trans (updateCoUnderSeal_handedOn _)

/-! ## A resolution -/

theorem updateHeater_changesOnly (s : State) : ChangesOnly [.resolver] s (updateHeater s) := by
  intro p hp
  cases p <;> first | rfl | exact absurd (by decide) hp

theorem install_changesOnly (b : PlanBody) (s : State) : ChangesOnly [.plan] s (install b s) := by
  intro p hp
  cases p <;> first | rfl | exact absurd (by decide) hp

/-- An unchanged plan changes nothing but the heater availability (R23, R45). -/
theorem resolve_of_same {s : State} (h : formPlan (updateHeater s) = s.plan.body) : resolve s = updateHeater s :=
  if_pos h

/-- A changed plan is installed and handed on (R23, R26). -/
theorem resolve_of_changed {s : State} (h : formPlan (updateHeater s) ≠ s.plan.body) :
    resolve s = handOver (install (formPlan (updateHeater s)) (updateHeater s)) :=
  if_neg h

theorem updateHeater_resolved {s : State} (h : formPlan (updateHeater s) = s.plan.body) :
    Resolved s (updateHeater s) where
  parts := (updateHeater_changesOnly s).mono (by decide)
  conditions _ _ := rfl
  marks _ _ _ := rfl
  blowers _ := rfl
  latch := rfl
  current := h.symm
  version := (if_pos rfl).symm
  quiet _ := updateHeater_changesOnly s

/-- An installed plan stays the plan that the state forms: its handing on changes none of its inputs (R25). -/
theorem handOver_install_resolved {s : State} (h : formPlan (updateHeater s) ≠ s.plan.body) :
    Resolved s (handOver (install (formPlan (updateHeater s)) (updateHeater s))) := by
  have on := handOver_handedOn (install (formPlan (updateHeater s)) (updateHeater s))
  have plan : (handOver (install (formPlan (updateHeater s)) (updateHeater s))).plan =
      ⟨s.plan.version + 1#16, formPlan (updateHeater s)⟩ := by simp [install]
  have current : formPlan (handOver (install (formPlan (updateHeater s)) (updateHeater s))) =
      formPlan (updateHeater s) :=
    formPlan_congr (by simp) (by simp) (by simp) (by simp) (by simp) (by simp) on.conditions
  exact
    { parts := ((updateHeater_changesOnly s).mono (by decide)).trans
        (((install_changesOnly _ _).mono (by decide)).trans (on.parts.mono (by decide)))
      conditions := on.conditions
      marks := on.marks
      blowers := on.blowers
      latch := by simp [updateHeater]
      current := by rw [plan, current]
      version := by rw [plan, if_neg h]
      quiet := fun same => absurd (by rw [← same, plan]) h }

/-- What one resolution does (R23, R25, R26). -/
theorem resolve_resolved (s : State) : Resolved s (resolve s) := by
  by_cases h : formPlan (updateHeater s) = s.plan.body
  · rw [resolve_of_same h]
    exact updateHeater_resolved h
  · rw [resolve_of_changed h]
    exact handOver_install_resolved h

/-- A resolution neither reads nor writes the Loop Port. -/
theorem Resolved.setLoop {s t : State} (h : Resolved s t) (l : Loop) : Resolved (s.setLoop l) (t.setLoop l) where
  parts p hp := by cases p <;> first | rfl | exact h.parts _ hp
  conditions := h.conditions
  marks := h.marks
  blowers := h.blowers
  latch := h.latch
  current := h.current.trans (formPlan_setLoop t l).symm
  version := h.version
  quiet same p hp := by cases p <;> first | rfl | exact h.quiet same _ hp

/-- A resolution where a trigger was given, with the Loop Port brought to the same state on both sides (R21, R24). -/
theorem resolveIf_resolvedIf {trigger : Prop} {b : Bool} (hb : b = true ↔ trigger) (s : State) (l : Loop) :
    ResolvedIf trigger (s.setLoop l) ((resolveIf b s).setLoop l) := by
  rcases resolveIf_cases b s with ⟨given, eq⟩ | ⟨absent, eq⟩
  · rw [eq]
    exact ⟨fun _ => (resolve_resolved s).setLoop l, fun no => absurd (hb.mp given) no⟩
  · rw [eq]
    exact ⟨fun yes => absurd (hb.mpr yes) (by simp [absent]), fun _ => rfl⟩

end Sys2Proof.Machine
end

section
/-! A request handled: the state an Idle cell leaves, the comparison of `Handled` for every kind of cell, and what the
refresh keeps of what the Request Table's rules read (R2, R4, R14). -/

namespace Sys2Proof

@[simp] theorem PerStation.set_set {α : Type} (t : PerStation α) (i : Station) (v w : α) :
    (t.set i v).set i w = t.set i w := by
  cases i <;> rfl

end Sys2Proof

namespace Sys2Proof.Machine

open Sys2Proof

/-! ## Words and codes -/

@[simp] theorem Zone.ofCode_code (z : Zone) : Zone.ofCode (Word.ofNat z.code) = some z := by cases z <;> rfl

@[simp] theorem RequestedMode.ofCode_code (m : RequestedMode) :
    RequestedMode.ofCode (Word.ofNat m.code) = some m := by cases m <;> rfl

/-- The panel and service classes are all but the Vehicle class (R2). -/
theorem panelOrService_allows (c : StationClass) : Permission.panelOrService.allows c = decide (c ≠ .vehicle) := by
  cases c <;> rfl

/-! ## The refresh -/

@[simp] theorem arrive_slot (n m : Station) (s : State) : (arrive n s).slot m = s.slot m := by
  simp [State.slot]

/-- A refresh keeps the table or makes the entries of its station Active, in their places (R4). -/
theorem arrive_table (n : Station) (s : State) :
    (arrive n s).table = s.table ∨
      (arrive n s).table = s.table.map fun e => if e.station = n then { e with held := false } else e := by
  unfold arrive refresh
  cases s.modeOf n <;> simp [holdEntries, setStation, markStation]

/-- The keys of the table, station and kind with zone, in order (R12). -/
def keysOf (t : List Entry) : List (Station × Key) := t.map fun e => (e.station, e.demand.key)

theorem arrive_keys (n : Station) (s : State) : keysOf (arrive n s).table = keysOf s.table := by
  rcases arrive_table n s with h | h
  · rw [h]
  · rw [h, keysOf, keysOf, List.map_map]
    refine List.map_congr_left fun e _ => ?_
    by_cases he : e.station = n <;> simp [he]

/-- The room for a key is read from the keys alone (R14, check 4). -/
theorem hasRoom_iff_keys (s : State) (n : Station) (k : Key) :
    HasRoom s n k ↔ (n, k) ∈ keysOf s.table ∨ (keysOf s.table).length < 24 := by
  simp [HasRoom, keysOf]

@[simp] theorem hasRoom_arrive (m n : Station) (k : Key) (s : State) : HasRoom (arrive m s) n k ↔ HasRoom s n k := by
  rw [hasRoom_iff_keys, hasRoom_iff_keys, arrive_keys]

/-! ## A request handled -/

theorem exec_idle (n : Station) (s : State) : exec (.idle n) s = .next (takeIdle n s) := rfl

theorem Handled.imp {c : Instr} {n : Station} {k : Byte} {s : State} {P Q : State → State → Answer → Prop}
    (h : Handled c n k s P) (hPQ : ∀ a t ans, P a t ans → Q a t ans) : Handled c n k s Q := by
  obtain ⟨a, t, ans, idle, taken, line, hP⟩ := h
  exact ⟨a, t, ans, idle, taken, line, hPQ _ _ _ hP⟩

/-- A row that takes a cell of a permitted class is handled as its own rules handle the refreshed state; the Loop Port
may stand in any state where they are compared, since the rules of the kind do not touch it. -/
theorem handled_of_takeCell {c : Instr} {n : Station} {k : Byte} {perm : Permission} {serve : State → Served}
    {s : State} {P : State → State → Answer → Prop} (hc : exec c s = .next (takeCell n k perm serve s))
    (hr : s.receives n = true) (hperm : perm.allows (s.slot n).cls = true)
    (hloop : (serve (arrive n s)).state.loop = (arrive n s).loop)
    (hP : ∀ l, P ((arrive n s).setLoop l) ((serve (arrive n s)).state.setLoop l) (serve (arrive n s)).answer) :
    Handled c n k s P := by
  have idle : takeIdle n s = setWindow n (.taken 0x00#8 none) (arrive n s) := if_pos hr
  have taken : takeCell n k perm serve s =
      setWindow n (.taken k (some (serve (arrive n s)).answer)) (serve (arrive n s)).state := by
    rw [takeCell_of_receives hr, arrive_slot, if_pos hperm]
  refine ⟨_, _, (serve (arrive n s)).answer, (exec_idle n s).trans (by rw [idle]), hc.trans (by rw [taken]), ?_,
    hP _⟩
  simp [LineBecomes, setWindow, setLine, hloop]

/-- A request whose rules refuse the refreshed state is refused (R2, R168). -/
theorem refused_of_takeCell {c : Instr} {n : Station} {k : Byte} {perm : Permission} {serve : State → Served}
    {s : State} {code : AnswerCode} (hc : exec c s = .next (takeCell n k perm serve s)) (hr : s.receives n = true)
    (hperm : perm.allows (s.slot n).cls = true) (hs : serve (arrive n s) = Served.refuse code (arrive n s)) :
    Refused c n k code s := by
  refine handled_of_takeCell hc hr hperm (by rw [hs]; rfl) fun l => ?_
  rw [hs]
  exact ⟨rfl, rfl⟩

end Sys2Proof.Machine
end

section
/-! The Request Table: what a demand applied and an entry removed do to the table, the Answer and the plan (R18,
R19). -/

namespace Sys2Proof.Machine

open Sys2Proof

/-! ## A demand applied -/

theorem withoutKey_eq_filter (n : Station) (k : Key) (t : List Entry) :
    withoutKey n k t = t.filter fun e => decide (¬(e.station = n ∧ e.demand.key = k)) := by
  simp [withoutKey, Entry.hasKey]

theorem setEntry_eq_renewed (n : Station) (d : Demand) (t : List Entry) : setEntry n d t = renewed n d t := by
  rw [setEntry, withoutKey_eq_filter, renewed]

theorem hasKeyIn_iff (n : Station) (k : Key) (t : List Entry) :
    hasKeyIn n k t = true ↔ ∃ e ∈ t, e.station = n ∧ e.demand.key = k := by
  simp [hasKeyIn, Entry.hasKey]

/-- Check 4 of R14 refuses exactly where there is no room. -/
theorem tableFull_eq_false_iff (s : State) (n : Station) (k : Key) : s.tableFull n k = false ↔ HasRoom s n k := by
  rw [HasRoom, ← hasKeyIn_iff]
  cases h : hasKeyIn n k s.table <;> simp [State.tableFull, h]

/-- A demand with room renews the table with one trigger (R18). -/
theorem applyDemand_of_room {n : Station} {d : Demand} {s : State} (h : HasRoom s n d.key) (code : AnswerCode) :
    applyDemand n d code s =
      ⟨resolve (s.setTable (renewed n d s.table)),
       ⟨code, d.word, Word.ofNat (renewed n d s.table).length, 0#16⟩⟩ := by
  simp [applyDemand, (tableFull_eq_false_iff s n d.key).mpr h, changeTable, setEntry_eq_renewed]

theorem applyDemand_stored {n : Station} {d : Demand} {s : State} (h : HasRoom s n d.key) (code : AnswerCode)
    (l : Loop) :
    Stored n d d.word code (s.setLoop l) ((applyDemand n d code s).state.setLoop l)
      (applyDemand n d code s).answer := by
  have table : (resolve (s.setTable (renewed n d s.table))).table = renewed n d s.table := by simp
  rw [applyDemand_of_room h]
  refine ⟨table, by simp, ?_⟩
  simp only [State.setLoop_table, table]
  exact (resolve_resolved (s.setTable (renewed n d s.table))).setLoop l

/-! ## Entries removed -/

/-- The table cut down with its one trigger, answered with the number removed and the number left (R19). -/
theorem resolveIf_cutDown {keep : Entry → Bool} {s : State} {b : Bool} {ans : Answer}
    (hb : b = true ↔ (s.table.filter keep).length < s.table.length)
    (hans : ans = ⟨.done, Word.ofNat (s.table.length - (s.table.filter keep).length),
      Word.ofNat (s.table.filter keep).length, 0#16⟩) (l : Loop) :
    CutDown keep (s.setLoop l) ((resolveIf b (s.setTable (s.table.filter keep))).setLoop l) ans := by
  have table : (resolveIf b (s.setTable (s.table.filter keep))).table = s.table.filter keep := by simp
  refine ⟨table, ?_, ?_⟩
  · simp [hans]
  · simp only [State.setLoop_table, table]
    exact resolveIf_resolvedIf hb (s.setTable (s.table.filter keep)) l

theorem hasKeyIn_iff_shorter (n : Station) (k : Key) (t : List Entry) :
    hasKeyIn n k t = true ↔ (withoutKey n k t).length < t.length := by
  simp [hasKeyIn, withoutKey, List.length_filter_lt_length_iff_exists]

/-- A key removed where it stands is one cut of the table with its trigger, as a key absent leaves the table (R19). -/
theorem withdrawKey_eq (n : Station) (k : Key) (s : State) :
    withdrawKey n k s = resolveIf (hasKeyIn n k s.table) (s.setTable (withoutKey n k s.table)) := by
  unfold withdrawKey
  split
  · next h => rw [h]; rfl
  · next h =>
    have absent : withoutKey n k s.table = s.table := by
      simpa [withoutKey, hasKeyIn] using h
    rw [absent, Bool.eq_false_iff.mpr h]; rfl

theorem serveWithdrawKey_cutDown (n : Station) (k : Key) (s : State) (l : Loop) :
    CutDown (fun e => decide (¬(e.station = n ∧ e.demand.key = k))) (s.setLoop l)
      ((serveWithdrawKey n k s).state.setLoop l) (serveWithdrawKey n k s).answer := by
  have shorter := hasKeyIn_iff_shorter n k s.table
  simp only [serveWithdrawKey, withdrawKey_eq]
  rw [withoutKey_eq_filter] at shorter ⊢
  exact resolveIf_cutDown shorter rfl l

/-- The station's entries are those that the removal of R19 leaves out. -/
theorem entriesOf_eq (n : Station) (s : State) :
    s.entriesOf n = s.table.length - (s.table.filter fun e => decide (e.station ≠ n)).length := by
  have split := List.length_eq_length_filter_add (l := s.table) fun e => decide (e.station = n)
  simp only [State.entriesOf, decide_not]
  omega

theorem serveWithdrawAll_cutDown (n : Station) (s : State) (l : Loop) :
    CutDown (fun e => decide (e.station ≠ n)) (s.setLoop l) ((serveWithdrawAll n s).state.setLoop l)
      (serveWithdrawAll n s).answer := by
  unfold serveWithdrawAll removeEntries
  rw [entriesOf_eq]
  exact resolveIf_cutDown (by rw [decide_eq_true_iff]; omega) rfl l

end Sys2Proof.Machine
end

section
/-! The set requests and the withdrawals (R15 to R19). -/

namespace Sys2Proof.Machine

open Sys2Proof

/-! ## The rows, and the rules of each kind -/

theorem exec_setSetpoint (n : Station) (zone value : Word) (s : State) :
    exec (.setSetpoint n zone value) s =
      .next (takeCell n 0x01#8 .panelOrService (serveSetpoint n zone value) s) := rfl

theorem exec_setFan (n : Station) (zone level : Word) (s : State) :
    exec (.setFan n zone level) s = .next (takeCell n 0x02#8 .panelOrService (serveFan n zone level) s) := rfl

theorem exec_setMode (n : Station) (mode : Word) (s : State) :
    exec (.setMode n mode) s = .next (takeCell n 0x03#8 .panelOrService (serveMode n mode) s) := rfl

theorem exec_setShelter (n : Station) (code : Word) (s : State) :
    exec (.setShelter n code) s = .next (takeCell n 0x04#8 .panelOrService (serveShelter n code) s) := rfl

theorem exec_withdraw (n : Station) (kind zone : Word) (s : State) :
    exec (.withdraw n kind zone) s = .next (takeCell n 0x05#8 .panelOrService (serveWithdraw n kind zone) s) := rfl

theorem exec_withdrawAll (n : Station) (s : State) :
    exec (.withdrawAll n) s = .next (takeCell n 0x06#8 .panelOrService (serveWithdrawAll n) s) := rfl

theorem serveSetpoint_of_covers {n : Station} {z : Zone} {s : State} (h : (s.slot n).scope.covers z = true)
    (value : Word) :
    serveSetpoint n (Word.ofNat z.code) value s =
      applyDemand n (.setpoint z (setpointOfValue value.toInt)) (clampCode (setpointClamped value.toInt)) s := by
  simp [serveSetpoint, h]

theorem serveFan_of_covers {n : Station} {z : Zone} {s : State} (h : (s.slot n).scope.covers z = true)
    (level : Word) :
    serveFan n (Word.ofNat z.code) level s =
      applyDemand n (.fan z (FanChoice.ofWord level).1) (clampCode (FanChoice.ofWord level).2) s := by
  simp [serveFan, h]

theorem serveMode_code (n : Station) (m : RequestedMode) (s : State) :
    serveMode n (Word.ofNat m.code) s = applyDemand n (.mode m) .done s := by
  simp [serveMode]

theorem serveWithdraw_of_key {kind zone : Word} {k : Key} (h : Key.ofCodes kind zone = some k) (n : Station)
    (s : State) : serveWithdraw n kind zone s = serveWithdrawKey n k s := by
  simp [serveWithdraw, h]

theorem serveWithdraw_of_no_key {kind zone : Word} (h : Key.ofCodes kind zone = none) (n : Station) (s : State) :
    serveWithdraw n kind zone s = Served.refuse .range s := by
  simp [serveWithdraw, h]

/-! ## Requests that store a demand -/

/-- A row whose rules apply a demand that has room stores it (R18). -/
theorem handled_of_applyDemand {c : Instr} {n : Station} {k : Byte} {perm : Permission} {serve : State → Served}
    {s : State} {d : Demand} {code : AnswerCode} (hc : exec c s = .next (takeCell n k perm serve s))
    (hr : s.receives n = true) (hperm : perm.allows (s.slot n).cls = true) (hroom : HasRoom s n d.key)
    (hs : serve (arrive n s) = applyDemand n d code (arrive n s)) :
    Handled c n k s (Stored n d d.word code) := by
  refine handled_of_takeCell hc hr hperm (by simp [hs]) fun l => ?_
  rw [hs]
  exact applyDemand_stored ((hasRoom_arrive n n d.key s).mpr hroom) code l

/-- A row whose rules withdraw a key removes the sender's entry of that key (R19). -/
theorem handled_of_serveWithdrawKey {c : Instr} {n : Station} {k : Byte} {perm : Permission} {serve : State → Served}
    {s : State} {key : Key} (hc : exec c s = .next (takeCell n k perm serve s)) (hr : s.receives n = true)
    (hperm : perm.allows (s.slot n).cls = true)
    (hs : serve (arrive n s) = serveWithdrawKey n key (arrive n s)) :
    Handled c n k s (CutDown fun e => decide (¬(e.station = n ∧ e.demand.key = key))) := by
  refine handled_of_takeCell hc hr hperm (by simp [hs]) fun l => ?_
  rw [hs]
  exact serveWithdrawKey_cutDown n key (arrive n s) l

/-! ## The setpoint -/

/-- The Answer code of R15: the clamp moved the rounded value or not. -/
theorem clampCode_setpointClamped (v : Int) :
    clampCode (setpointClamped v) = if setpointOfValue v = roundFive v then .done else .clamped := by
  by_cases h : setpointOfValue v = roundFive v <;> simp [clampCode, setpointClamped, h]

/-- Settles O15: the rounded value is `roundFive`, the stored one its clamp. -/
theorem setSetpointStoresTheRoundedValue : Obligations.SetSetpointStoresTheRoundedValue := by
  unfold Obligations.SetSetpointStoresTheRoundedValue
  intro n z value s hr hmay hcov hroom
  obtain ⟨multiple, above, below⟩ := roundFive_spec value.toInt
  refine ⟨roundFive value.toInt, setpointOfValue value.toInt, multiple, above, below,
    clampInt_eq_within 120 300 _ (by decide), ?_⟩
  rw [← clampCode_setpointClamped]
  exact handled_of_applyDemand (exec_setSetpoint n _ value s) hr ((panelOrService_allows _).trans hmay) hroom
    (serveSetpoint_of_covers (by simpa using hcov) value)

/-! ## The fan level -/

theorem FanChoice.ofWord_level {level : Word} (h : level ≠ 0xFFFF#16) :
    FanChoice.ofWord level =
      (.level (clampNat 1 8 level.toNat), decide (clampNat 1 8 level.toNat ≠ level.toNat)) :=
  if_neg h

/-- Settles O16, by the ranges of the level word. -/
theorem setFanStoresTheLevel : Obligations.SetFanStoresTheLevel := by
  unfold Obligations.SetFanStoresTheLevel
  intro n z level s hr hmay hcov hroom
  have stored : Handled (.setFan n (Word.ofNat z.code) level) n 0x02#8 s
      (Stored n (.fan z (FanChoice.ofWord level).1) (FanChoice.ofWord level).1.code
        (clampCode (FanChoice.ofWord level).2)) :=
    handled_of_applyDemand (exec_setFan n _ level s) hr ((panelOrService_allows _).trans hmay) hroom
      (serveFan_of_covers (by simpa using hcov) level)
  refine stored.imp fun a t ans h => ⟨fun auto => ?_, fun low high => ?_, fun zero => ?_, fun high not_auto => ?_⟩
  · subst auto
    exact h
  · have not_auto : level ≠ 0xFFFF#16 := by rintro rfl; exact absurd high (by decide)
    obtain ⟨-, -, in_range_iff⟩ := clampNat_spec 1 8 level.toNat (by decide)
    have kept : clampNat 1 8 level.toNat = level.toNat := in_range_iff.mpr ⟨low, high⟩
    simpa [FanChoice.ofWord_level not_auto, kept, clampCode, FanChoice.code] using h
  · subst zero
    exact h
  · have lowered : clampNat 1 8 level.toNat = 8 := by rw [clampNat, if_neg (by omega), if_pos high]
    have moved : 8 ≠ level.toNat := by omega
    simpa [FanChoice.ofWord_level not_auto, lowered, moved, clampCode, FanChoice.code] using h

/-! ## Mode and Shelter -/

/-- Settles O17: each part through the one rule its row applies. -/
theorem setModeAndShelterStoreTheirEntries : Obligations.SetModeAndShelterStoreTheirEntries := by
  unfold Obligations.SetModeAndShelterStoreTheirEntries
  intro n s hr hmay
  have allowed := (panelOrService_allows (s.slot n).cls).trans hmay
  exact ⟨fun m hroom => handled_of_applyDemand (exec_setMode n _ s) hr allowed hroom (serveMode_code n m _),
    fun hroom => handled_of_applyDemand (exec_setShelter n _ s) hr allowed hroom rfl,
    handled_of_serveWithdrawKey (exec_setShelter n _ s) hr allowed rfl⟩

/-! ## Withdraw -/

theorem Key.ofCodes_setpoint (z : Zone) : Key.ofCodes 1#16 (Word.ofNat z.code) = some (.setpoint z) := by
  cases z <;> rfl

theorem Key.ofCodes_fan (z : Zone) : Key.ofCodes 2#16 (Word.ofNat z.code) = some (.fan z) := by
  cases z <;> rfl

/-- A kind code outside 1 to 4 names no key (R19). -/
theorem Key.ofCodes_of_kind_outside {kind : Word} (h : kind.toNat = 0 ∨ 4 < kind.toNat) (zone : Word) :
    Key.ofCodes kind zone = none := by
  unfold Key.ofCodes
  split
  case h_5 => rfl
  all_goals omega

/-- A Setpoint or Fan kind with a code that names no zone names no key (R19). -/
theorem Key.ofCodes_of_no_zone {kind zone : Word} (hk : kind = 1#16 ∨ kind = 2#16) (hz : Zone.ofCode zone = none) :
    Key.ofCodes kind zone = none := by
  rcases hk with rfl | rfl <;> simp [Key.ofCodes, hz]

/-- Settles O19: the codes that name a key, those that name none, and Withdraw All. -/
theorem withdrawsRemoveOwnEntries : Obligations.WithdrawsRemoveOwnEntries := by
  unfold Obligations.WithdrawsRemoveOwnEntries
  intro n kind zone s hr hmay
  have allowed := (panelOrService_allows (s.slot n).cls).trans hmay
  refine ⟨fun k named => ?_, fun unnamed => ?_, ?_⟩
  · have key : Key.ofCodes kind zone = some k := by
      rcases named with ⟨rfl, z, rfl, rfl⟩ | ⟨rfl, z, rfl, rfl⟩ | ⟨rfl, rfl⟩ | ⟨rfl, rfl⟩
      · exact Key.ofCodes_setpoint z
      · exact Key.ofCodes_fan z
      · rfl
      · rfl
    exact handled_of_serveWithdrawKey (exec_withdraw n kind zone s) hr allowed (serveWithdraw_of_key key n _)
  · have no_key : Key.ofCodes kind zone = none := by
      rcases unnamed with zero | high | ⟨kind_zoned, not_front, not_rear⟩
      · exact Key.ofCodes_of_kind_outside (.inl zero) zone
      · exact Key.ofCodes_of_kind_outside (.inr high) zone
      · exact Key.ofCodes_of_no_zone kind_zoned (by simp [Zone.ofCode, not_front, not_rear])
    exact refused_of_takeCell (exec_withdraw n kind zone s) hr allowed (serveWithdraw_of_no_key no_key n _)
  · exact handled_of_takeCell (exec_withdrawAll n s) hr allowed (by simp)
      (serveWithdrawAll_cutDown n (arrive n s))

end Sys2Proof.Machine
end

section
/-! Purge Cancel (R81): the refresh of a station that is not the Vehicle-class station, the end of a purge said once
for every result (R82 to R84), and the rule of who may cancel. -/

namespace Sys2Proof.Machine

open Sys2Proof

/-! ## The refresh of a station of another class than Vehicle -/

theorem refresh_modeOf_of_ne {m n : Station} (h : m ≠ n) (s : State) : (refresh n s).modeOf m = s.modeOf m := by
  unfold refresh
  cases s.modeOf n <;> simp [State.modeOf, holdEntries, setStation, markStation, h]

/-- The Vehicle-class station is a station of Vehicle class (R96). -/
theorem slot_cls_of_vehicleStation {s : State} {m : Station} (h : s.vehicleStation = some m) :
    (s.slot m).cls = .vehicle := by
  have found := List.find?_some h
  simp only [Bool.and_eq_true, decide_eq_true_eq] at found
  exact found.2

theorem refresh_vehicleStation (n : Station) (s : State) : (refresh n s).vehicleStation = s.vehicleStation := by
  have slots : (refresh n s).slot = s.slot := by
    funext m
    simp [State.slot]
  rw [State.vehicleStation, slots, State.vehicleStation]

/-- The refresh of a station of another class does not change what Vehicle State sees of its station (R96). -/
theorem refresh_vehicleView {n : Station} {s : State} (h : (s.slot n).cls ≠ .vehicle) :
    (refresh n s).vehicleView = s.vehicleView := by
  unfold State.vehicleView
  rw [refresh_vehicleStation]
  cases hv : s.vehicleStation with
  | none => rfl
  | some m =>
    have other : m ≠ n := by
      rintro rfl
      exact h (slot_cls_of_vehicleStation hv)
    simp only [Option.map_some, refresh_modeOf_of_ne other]

/-- The arrival of such a station's cell is its refresh with a trigger where the station was Quiet (R4). -/
theorem arrive_of_not_vehicle {n : Station} {s : State} (h : (s.slot n).cls ≠ .vehicle) :
    arrive n s = resolveIf (decide (s.modeOf n = .quiet)) (refresh n s) :=
  if_pos (refresh_vehicleView h)

theorem arrive_purge {n : Station} {s : State} (h : (s.slot n).cls ≠ .vehicle) : (arrive n s).purge = s.purge := by
  rw [arrive_of_not_vehicle h]
  simp

/-! ## The end of a purge -/

theorem setPurge_changesOnly (p : Purge) (s : State) : ChangesOnly [.purge] s (s.setPurge p) := by
  intro q hq
  cases q with
  | purge => exact absurd (by decide) hq
  | _ => rfl

theorem PurgeResult.aborted_eq (r : PurgeResult) :
    r.aborted = decide (r = .abortedDoors ∨ r = .abortedSmoke ∨ r = .abortedTime) := by
  cases r <;> rfl

/-- The end of a purge before its trigger: the record of R83, Purge Incomplete where the result is an abort, and
nothing else (R82, R84). -/
structure ClearedPurge (r : PurgeResult) (s t : State) : Prop where
  purge : t.purge = Purge.idleWith (s.purgeRecord r)
  incomplete : t.conditions.purgeIncomplete = (s.conditions.purgeIncomplete || r.aborted)
  parts : ChangesOnly [.purge, .conditions, .alert, .marks] s t
  conditions : ConditionsChangeOnly [.purgeIncomplete] s t
  marks : MarksChangeOnly [.conditions] s t

theorem endPurge_clearedPurge (r : PurgeResult) (s : State) : ClearedPurge r s (endPurge r s) := by
  have cleared (u : State) := setPurge_changesOnly (Purge.idleWith (s.purgeRecord r)) u
  cases aborted : r.aborted with
  | false =>
    have eq : endPurge r s = s.setPurge (Purge.idleWith (s.purgeRecord r)) := by simp [endPurge, aborted]
    rw [eq]
    exact ⟨rfl, by simp [aborted], (cleared s).mono (by decide), fun _ _ => rfl, fun _ _ _ => rfl⟩
  | true =>
    have eq : endPurge r s =
        (setCondition .purgeIncomplete true s).setPurge (Purge.idleWith (s.purgeRecord r)) := by
      simp [endPurge, aborted]
    obtain ⟨get, -, -, marks, parts⟩ := setCondition_spec .purgeIncomplete true s
    rw [eq]
    exact
      { purge := rfl
        incomplete := by rw [aborted, Bool.or_true]; exact get .purgeIncomplete
        parts := (parts.mono (by decide)).trans ((cleared _).mono (by decide))
        conditions := fun d hd => (get d).trans (if_neg (List.ne_of_not_mem_cons hd))
        marks := marks }

/-- A change of phase at the Purge Controller gives its mark and one trigger (R79, R90). -/
theorem purgeEvent_of_phase_ne {f : State → State} {s : State} (h : (f s).purge.phase ≠ s.purge.phase) :
    purgeEvent f s = resolve (markAll .purge (f s)) :=
  if_neg fun same => h same.1

/-- A mark set everywhere stands while neither its group nor the stations change. -/
theorem MarkedAll.of_marksChangeOnly {g : Group} {gs : List Group} {s t : State} (h : MarkedAll g s)
    (marks : MarksChangeOnly gs s t) (hg : g ∉ gs) (stations : t.stations = s.stations) : MarkedAll g t := by
  intro n enabled
  rw [marks n g hg]
  exact h n (by rwa [State.modeOf, stations] at enabled)

/-- The end of a purge under way, taken with its mark and its one trigger, for every result (R82). -/
theorem purgeEvent_endPurge (r : PurgeResult) {s : State} (h : s.purge.phase ≠ .idle) :
    PurgeEnds r s (purgeEvent (endPurge r) s) := by
  have ended := endPurge_clearedPurge r s
  obtain ⟨marked, marks, parts⟩ := markAll_spec .purge (endPurge r s)
  have on := resolve_resolved (markAll .purge (endPurge r s))
  have phase_ne : (endPurge r s).purge.phase ≠ s.purge.phase := by
    rw [ended.purge]
    exact h.symm
  have purge : (resolve (markAll .purge (endPurge r s))).purge = (endPurge r s).purge := by simp
  have conditions : ConditionsChangeOnly [.holdShortfall, .coUnderSeal] (endPurge r s)
      (resolve (markAll .purge (endPurge r s))) := fun c hc => (on.conditions c hc).trans (by simp)
  rw [purgeEvent_of_phase_ne phase_ne]
  refine ⟨?_, ?_, on.current, ?_, ?_, ?_, ?_, ?_⟩
  · exact purge.trans ended.purge
  · rw [← PurgeResult.aborted_eq, ← ended.incomplete]
    exact conditions .purgeIncomplete (by decide)
  · exact marked.of_marksChangeOnly on.marks (by decide) (by simp)
  · exact (ended.parts.mono (by decide)).trans ((parts.mono (by decide)).trans (on.parts.mono (by decide)))
  · exact (ended.conditions.mono (by decide)).trans (conditions.mono (by decide))
  · exact (ended.marks.mono (by decide)).trans ((marks.mono (by decide)).trans (on.marks.mono (by decide)))
  · simpa [BlowersKeepAllButTargets] using on.blowers

/-- The Loop Port may stand in any state where it is the same on both sides. -/
theorem ChangesOnly.setLoop {ps : List Part} {s t : State} (h : ChangesOnly ps s t) (l : Loop) :
    ChangesOnly ps (s.setLoop l) (t.setLoop l) := by
  intro p hp
  cases p with
  | loop => rfl
  | _ => exact h _ hp

/-- The end of a purge neither reads nor writes the Loop Port. -/
theorem PurgeEnds.setLoop {r : PurgeResult} {s t : State} (h : PurgeEnds r s t) (l : Loop) :
    PurgeEnds r (s.setLoop l) (t.setLoop l) := by
  obtain ⟨purge, incomplete, current, marked, parts, conditions, marks, blowers⟩ := h
  exact ⟨purge, incomplete, current.trans (formPlan_setLoop t l).symm, marked, parts.setLoop l, conditions, marks,
    blowers⟩

/-! ## Who may cancel -/

theorem exec_purgeCancel (n : Station) (s : State) :
    exec (.purgeCancel n) s = .next (takeCell n 0x08#8 .panelOrService (serveCancel n) s) := rfl

/-- A purge of a station is cancelled by that station and by those of its rank or above (R81). -/
theorem mayCancel_of_station {s : State} {m : Station} (h : s.purge.originator = some (.station m)) (n : Station) :
    s.mayCancel n = true ↔ n = m ∨ (s.slot m).rank ≤ (s.slot n).rank := by
  simp [State.mayCancel, h]

/-- An automatic purge is cancelled by the stations of rank 4 or above (R81). -/
theorem mayCancel_of_auto {s : State} (h : s.purge.originator = some .auto) (n : Station) :
    s.mayCancel n = true ↔ 4 ≤ (s.slot n).rank := by
  simp [State.mayCancel, h]

/-- The ranks compared are the slot settings, which a refresh keeps (R81). -/
theorem arrive_mayCancel {n : Station} {s : State} (h : (s.slot n).cls ≠ .vehicle) :
    (arrive n s).mayCancel n = s.mayCancel n := by
  simp [State.mayCancel, arrive_purge h]

theorem serveCancel_of_idle {s : State} (h : s.purge.phase = .idle) (n : Station) :
    serveCancel n s = ⟨s, ⟨.done, 0#16, 0#16, 0#16⟩⟩ :=
  if_pos h

theorem serveCancel_of_mayCancel {n : Station} {s : State} (h : s.purge.phase ≠ .idle) (may : s.mayCancel n = true) :
    serveCancel n s = ⟨purgeEvent (endPurge .cancelled) s, ⟨.done, 0#16, 3#16, 0#16⟩⟩ := by
  rw [serveCancel, if_neg h, if_pos may]
  rfl

theorem serveCancel_of_not_mayCancel {n : Station} {s : State} (h : s.purge.phase ≠ .idle)
    (may : ¬s.mayCancel n = true) : serveCancel n s = Served.refuse .denied s := by
  rw [serveCancel, if_neg h, if_neg may]

/-! ## Purge Cancel -/

theorem panelOrService_allows_of_not_vehicle {c : StationClass} (h : c ≠ .vehicle) :
    Permission.panelOrService.allows c = true :=
  (panelOrService_allows c).trans (decide_eq_true h)

section

variable {n : Station} {s : State} (hr : s.receives n = true) (hcls : (s.slot n).cls ≠ .vehicle)

include hr hcls

theorem purgeCancel_of_idle (idle : s.purge.phase = .idle) :
    Handled (.purgeCancel n) n 0x08#8 s fun a t ans => t = a ∧ ans = ⟨.done, 0#16, 0#16, 0#16⟩ := by
  have served := serveCancel_of_idle (s := arrive n s) (by rwa [arrive_purge hcls]) n
  refine handled_of_takeCell (exec_purgeCancel n s) hr (panelOrService_allows_of_not_vehicle hcls) (by rw [served])
    fun l => ?_
  rw [served]
  exact ⟨rfl, rfl⟩

theorem purgeCancel_of_mayCancel (under_way : s.purge.phase ≠ .idle) (may : s.mayCancel n = true) :
    Handled (.purgeCancel n) n 0x08#8 s fun a t ans =>
      PurgeEnds .cancelled a t ∧ ans = ⟨.done, 0#16, 3#16, 0#16⟩ := by
  have under_way' : (arrive n s).purge.phase ≠ .idle := by rwa [arrive_purge hcls]
  have served := serveCancel_of_mayCancel under_way' ((arrive_mayCancel hcls).trans may)
  refine handled_of_takeCell (exec_purgeCancel n s) hr (panelOrService_allows_of_not_vehicle hcls) (by simp [served])
    fun l => ?_
  rw [served]
  exact ⟨(purgeEvent_endPurge .cancelled under_way').setLoop l, rfl⟩

theorem purgeCancel_of_not_mayCancel (under_way : s.purge.phase ≠ .idle) (may : ¬s.mayCancel n = true) :
    Refused (.purgeCancel n) n 0x08#8 .denied s :=
  refused_of_takeCell (exec_purgeCancel n s) hr (panelOrService_allows_of_not_vehicle hcls)
    (serveCancel_of_not_mayCancel (by rwa [arrive_purge hcls]) (by rwa [arrive_mayCancel hcls]))

end

/-- Settles O29: the phase, then the originator, decide which of the three ways of R81 is taken. -/
theorem cancelEndsThePurge : Obligations.CancelEndsThePurge := by
  unfold Obligations.CancelEndsThePurge
  intro n s hr hmay
  have hcls : (s.slot n).cls ≠ .vehicle := by simpa [mayRequest] using hmay
  refine ⟨purgeCancel_of_idle hr hcls, fun m under_way originator => ?_, fun under_way originator => ?_⟩
  · have may := mayCancel_of_station originator n
    refine ⟨fun allowed => purgeCancel_of_mayCancel hr hcls under_way (may.mpr allowed), fun other below => ?_⟩
    exact purgeCancel_of_not_mayCancel hr hcls under_way fun h => (may.mp h).elim other (Nat.not_le.mpr below)
  · have may := mayCancel_of_auto originator n
    refine ⟨fun allowed => purgeCancel_of_mayCancel hr hcls under_way (may.mpr allowed), fun below => ?_⟩
    exact purgeCancel_of_not_mayCancel hr hcls under_way fun h => Nat.not_le.mpr below (may.mp h)

end Sys2Proof.Machine
end

section
/-! What keeps an invariant, said once: the primitive changes that every command is made of, and the proof that a
property kept by each of them is kept by every command. A property names the parts of the state that it reads; a change
of other parts keeps it. -/

namespace Sys2Proof.Machine

open Sys2Proof

/-! ## What a change may do to a record -/

/-- Some part of the first list is read. -/
abbrev Touches (ps reads : List Part) : Prop := ∃ p ∈ ps, p ∈ reads

/-- A blower's levels lie in range, and it stands at 0 unless it is Running (R135). -/
def BlowerState.Sound (b : BlowerState) : Prop :=
  b.target ≤ 1000 ∧ b.output ≤ 1000 ∧ (b.protection ≠ .running → b.output = 0)

/-- An actuator's places lie in range, and its drive is off exactly where it is not Moving (R148). -/
def ActuatorState.Sound (a : ActuatorState) : Prop :=
  a.target ≤ 100 ∧ a.position ≤ 100 ∧ (a.drive = .off ↔ a.motion ≠ .moving)

/-- The integral lies within the bounds of R58. -/
def Regulator.IntegralSound (r : Regulator) : Prop := -256000 ≤ r.integral ∧ r.integral ≤ 256000

/-- The output and the cap are levels (R50). -/
def Regulator.LevelsSound (r : Regulator) : Prop := r.output ≤ 1000 ∧ r.cap ≤ 1000

/-- The Trend Queue holds at most 48 records, and none without a holder (R176). -/
def Trend.Sound (tr : Trend) : Prop := tr.queue.length ≤ 48 ∧ (tr.hold = none → tr.queue = [])

/-- The count of a purge is a word, and an Idle purge is empty (R70, R82). -/
def Purge.Sound (p : Purge) : Prop := p.litres ≤ 65535 ∧ (p.phase = .idle → p = Purge.idleWith p.last)

/-- From `p` to `q` the purge stays sound, and where a purge was under way at the start of the command (`p₀`), none
starts anew and the count is not lowered (R70, R82). -/
def PurgeMoves (p₀ p q : Purge) : Prop :=
  p.Sound → q.Sound ∧ (p₀.phase ≠ .idle → q.phase ≠ .idle → p.phase ≠ .idle ∧ p.litres ≤ q.litres)

/-- The conditions that follow an owner of their own or Cab CO High, which CO Under Seal follows (R98, R119, R129, R130,
R144, R156). -/
def ownedConditions : List Condition :=
  [.cabCoHigh, .coUnderSeal, .vehicleUnverified, .sensorFailed, .motorFault, .actuatorStuck]

/-- The parts that no invariant reads. -/
def unreadParts : List Part := [.loop, .resolver, .clock, .scene, .buffers, .marks, .detached]

/-! ## The primitive changes -/

/-- A property that reads the parts `reads` and is kept by each primitive change of them. `p₀` is the purge at the start
of the command. -/
structure KeptFrom (p₀ : Purge) (reads : List Part) (P : State → Prop) : Prop where
  congr : ∀ {s t : State}, (∀ p ∈ reads, p.same s t) → P s → P t
  apart : ¬Touches unreadParts reads := by decide
  onReset : ∀ fb held s, P s → P (resetPart fb held s)
  onResolve : Touches resolutionParts reads → ∀ s, P s → P (resolve s) := by
    intro h; exact absurd h (by decide)
  onCondition : Touches [.conditions, .alert, .marks] reads →
      ∀ c v s, c ∉ ownedConditions → P s → P (setCondition c v s) := by
    intro h; exact absurd h (by decide)
  onCabCo : Touches [.scene, .conditions, .alert, .marks] reads → ∀ f r v s, P s → P (putCabCo f r v s) := by
    intro h; exact absurd h (by decide)
  onRegulator : Touches [.reg, .conditions, .alert, .blowers, .marks] reads →
      ∀ r s, (s.reg.IntegralSound → r.IntegralSound) → (s.reg.LevelsSound → r.LevelsSound) →
        P s → P (withRegulator r s) := by
    intro h; exact absurd h (by decide)
  onRegTimers : Touches [.reg] reads →
      ∀ r s, r.integral = s.reg.integral → r.output = s.reg.output → r.cap = s.reg.cap → P s → P (s.setReg r) := by
    intro h; exact absurd h (by decide)
  onPurge : Touches [.purge] reads → ∀ q s, PurgeMoves p₀ s.purge q → P s → P (s.setPurge q) := by
    intro h; exact absurd h (by decide)
  onTimers : Touches [.vehicle] reads → ∀ v s, v.record = s.vehicle.record → P s → P (s.setVehicle v) := by
    intro h; exact absurd h (by decide)
  onVehicle : Touches [.vehicle, .conditions, .alert, .marks] reads → ∀ v s, P s → P (putVehicle v s) := by
    intro h; exact absurd h (by decide)
  onDetectors : Touches [.blowers] reads →
      ∀ bs s, (∀ b, (bs.get b).target = (s.blowers.get b).target ∧ (bs.get b).output = (s.blowers.get b).output ∧
        (bs.get b).protection = (s.blowers.get b).protection) → P s → P (s.setBlowers bs) := by
    intro h; exact absurd h (by decide)
  onBlowers : Touches [.blowers, .conditions, .alert, .marks] reads →
      ∀ bs m s, (∀ b, (s.blowers.get b).Sound → (bs.get b).Sound) → P s →
        P (updateMotorFault (markAllIf m .movers (s.setBlowers bs))) := by
    intro h; exact absurd h (by decide)
  onActuators : Touches [.actuators, .conditions, .alert, .marks] reads →
      ∀ as m s, (∀ a, (s.actuators.get a).Sound → (as.get a).Sound) → P s →
        P (updateActuatorStuck (markAllIf m .movers (s.setActuators as))) := by
    intro h; exact absurd h (by decide)
  onClear : Touches [.blowers, .actuators, .conditions, .alert, .marks] reads →
      ∀ m s, P s → P (updateActuatorStuck (updateMotorFault (markAllIf m .movers (clearMovers s)))) := by
    intro h; exact absurd h (by decide)
  onSample : Touches [.record, .conditions, .alert, .marks] reads →
      ∀ c raw now s, raw ≤ 16383 → P s → P (recordSample c raw now s) := by
    intro h; exact absurd h (by decide)
  onScan : Touches [.scan] reads → ∀ sc s, sc.working = s.scan.working → P s → P (s.setScan sc) := by
    intro h; exact absurd h (by decide)
  onList : Touches [.scan, .record, .conditions, .alert, .marks] reads →
      ∀ l s, P s → P (listConditions l (dropChannels l (s.setScan { s.scan with working := l }))) := by
    intro h; exact absurd h (by decide)
  onTrend : Touches [.trend] reads → ∀ tr s, (s.trend.Sound → tr.Sound) → P s → P (s.setTrend tr) := by
    intro h; exact absurd h (by decide)
  onRefresh : Touches [.stations, .table, .marks] reads → ∀ n s, P s → P (refresh n s) := by
    intro h; exact absurd h (by decide)
  onQuiet : Touches [.stations, .table] reads → ∀ n s, s.quietDue n = true → P s → P (enterQuiet n s) := by
    intro h; exact absurd h (by decide)
  onLost : Touches [.stations, .table] reads →
      ∀ n s, s.lostDue n = true → P s → P (removeEntries n (setStation n ⟨.lost, 0⟩ s)) := by
    intro h; exact absurd h (by decide)
  onCounts : Touches [.stations] reads → ∀ s, P s → P (advanceCounts s) := by
    intro h; exact absurd h (by decide)
  onFilter : Touches [.table] reads → ∀ (keep : Entry → Bool) s, P s → P (s.setTable (s.table.filter keep)) := by
    intro h; exact absurd h (by decide)
  onDemand : Touches [.table] reads →
      ∀ n d s, s.modeOf n = .live → s.tableFull n d.key = false → d.within (s.slot n).scope = true →
        (∀ z l, d = .fan z (.level l) → l ≤ 8) → P s → P (s.setTable (setEntry n d s.table)) := by
    intro h; exact absurd h (by decide)
  onDisable : Touches [.settings, .stations, .table] reads →
      ∀ n s, (s.slot n).enabled = true →
        P s → P (removeEntries n (setStation n ⟨.disabled, 0⟩ (setSlot n { s.slot n with enabled := false } s))) := by
    intro h; exact absurd h (by decide)
  onEnable : Touches [.settings, .stations] reads →
      ∀ n s, (s.slot n).enabled = false →
        (SettingsInRange s.settings → SettingsInRange (setSlot n { s.slot n with enabled := true } s).settings) →
        P s → P (setStation n ⟨.absent, 0⟩ (setSlot n { s.slot n with enabled := true } s)) := by
    intro h; exact absurd h (by decide)
  onScope : Touches [.settings, .table] reads →
      ∀ n sc s, P s → P ((setSlot n { s.slot n with scope := sc } s).setTable
        (if (s.slot n).enabled then withoutUncovered n sc s.table else s.table)) := by
    intro h; exact absurd h (by decide)
  onSettings : Touches [.settings] reads →
      ∀ g s, (SettingsInRange s.settings → SettingsInRange g) → g.alertMask = s.settings.alertMask →
        (∀ n, (g.slots.get n).enabled = (s.slot n).enabled ∧ (g.slots.get n).scope = (s.slot n).scope) →
        P s → P (s.setSettings g) := by
    intro h; exact absurd h (by decide)
  onMask : Touches [.settings, .alert, .marks] reads →
      ∀ w s, P s → P (updateAlert (s.setSettings { s.settings with alertMask := w })) := by
    intro h; exact absurd h (by decide)
  onStore : Touches [.store] reads →
      ∀ st s, (SettingsSound s → SettingsSound (s.setStore st)) → P s → P (s.setStore st) := by
    intro h; exact absurd h (by decide)

namespace KeptFrom

variable {p₀ : Purge} {reads : List Part} {P : State → Prop} {s t : State}

/-- A change of certain parts keeps a property that reads none of them. -/
theorem of_touches (h : KeptFrom p₀ reads P) {ps : List Part} (changes : ChangesOnly ps s t)
    (touched : Touches ps reads → P t) (hs : P s) : P t := by
  by_cases ht : Touches ps reads
  · exact touched ht
  · exact h.congr (fun p hp => changes p fun hm => ht ⟨p, hm, hp⟩) hs

/-- A change of parts that no invariant reads keeps every one. -/
theorem of_unread (h : KeptFrom p₀ reads P) {ps : List Part} (changes : ChangesOnly ps s t)
    (unread : ∀ p ∈ ps, p ∈ unreadParts) (hs : P s) : P t :=
  h.of_touches changes (fun ⟨p, hp, hr⟩ => absurd ⟨p, unread p hp, hr⟩ h.apart) hs

end KeptFrom

end Sys2Proof.Machine
end

section
/-! The working copy of the settings after an accepted write, for every setting of section 12.4, and the ranges that it
stays in (R1, R182). -/

namespace Sys2Proof.Machine

open Sys2Proof

/-! ## The working copy after a write -/

/-- A word brought into a range. -/
abbrev held (lo hi : Nat) (value : Word) : Nat := clampNat lo hi value.toNat

/-- The slot settings of a station replaced. -/
abbrev withSlot (g : Settings) (n : Station) (t : SlotSettings) : Settings := { g with slots := g.slots.set n t }

/-- The thresholds after a write of one (R133). -/
def writtenThresholds (g : Thresholds) (t : Threshold) (value : Word) : Thresholds :=
  match t with
  | .smokeRaise =>
    { g with smokeRaise := held 1 1000 value, smokeClear := min g.smokeClear (held 1 1000 value - 1) }
  | .smokeClear => { g with smokeClear := held 0 (g.smokeRaise - 1) value }
  | .heavyRaise =>
    { g with heavyRaise := held 1 1000 value, heavyClear := min g.heavyClear (held 1 1000 value - 1) }
  | .heavyClear => { g with heavyClear := held 0 (g.heavyRaise - 1) value }
  | .outsideCoRaise =>
    { g with outsideCoRaise := held 1 1000 value, outsideCoClear := min g.outsideCoClear (held 1 1000 value - 1) }
  | .outsideCoClear => { g with outsideCoClear := held 0 (g.outsideCoRaise - 1) value }
  | .cabCoRaise =>
    { g with cabCoRaise := held 1 1000 value, cabCoClear := min g.cabCoClear (held 1 1000 value - 1) }
  | .cabCoClear => { g with cabCoClear := held 0 (g.cabCoRaise - 1) value }
  | .filterLimit => { g with filterLimit := held 100 5000 value }
  | .supplyLow =>
    { g with supplyLow := held 0 399 value, supplyRecover := max g.supplyRecover (held 0 399 value + 1) }
  | .supplyRecover => { g with supplyRecover := held (g.supplyLow + 1) 400 value }

/-- The scan positions after a write of one field (R110). -/
def writtenPositions (l : List ScanEntry) (p : Fin 20) (k : ScanFieldKind) (value : Word) : List ScanEntry :=
  l.set p.val (putScanField ((l[p.val]?).getD Config.spareScanEntry) k value.toNat).1

/-- The working copy after an accepted write (R182); a code that names nothing leaves it. -/
def writtenSettings (g : Settings) (st : Setting) (value : Word) : Settings :=
  match st with
  | .window .quiet =>
    { g with quietWindow := held 10 100 value, lostWindow := max g.lostWindow (held 10 100 value + 10) }
  | .window .lost => { g with lostWindow := held (g.quietWindow + 10) 1000 value }
  | .releaseRank => { g with releaseRank := held 0 7 value }
  | .slotEnabled n =>
    withSlot g n { g.slots.get n with enabled := (switchOfCode value).getD (g.slots.get n).enabled }
  | .slotClass n => withSlot g n { g.slots.get n with cls := (StationClass.ofCode value).getD (g.slots.get n).cls }
  | .slotRank n => withSlot g n { g.slots.get n with rank := held 0 7 value }
  | .slotScope n => withSlot g n { g.slots.get n with scope := (Scope.ofCode value).getD (g.slots.get n).scope }
  | .plan .defaultSetpoint => { g with defaultSetpoint := setpointOfValue value.toNat }
  | .plan .autoShelter => { g with autoShelter := (switchOfCode value).getD g.autoShelter }
  | .plan .shelterOnPump => { g with shelterOnPump := (switchOfCode value).getD g.shelterOnPump }
  | .plan .shelterTarget => { g with shelterTarget := held 50 1500 value }
  | .plan .shelterBase => { g with shelterBase := held 0 1000 value }
  | .plan .shelterFloor => { g with shelterFloor := held 0 1000 value }
  | .plan .freshTarget => { g with freshTarget := held 50 1500 value }
  | .plan .freshBase => { g with freshBase := held 0 1000 value }
  | .plan .freshFloor => { g with freshFloor := held 0 1000 value }
  | .gain .kp => { g with kp := held 0 255 value }
  | .gain .ki => { g with ki := held 0 255 value }
  | .doorLevel => { g with doorLevel := held 0 1000 value }
  | .purge .frontVolume => { g with frontVolume := held 500 20000 value }
  | .purge .rearVolume => { g with rearVolume := held 500 20000 value }
  | .purge .purgeChanges => { g with purgeChanges := held 1 8 value }
  | .purge .autoPurge => { g with autoPurge := (switchOfCode value).getD g.autoPurge }
  | .purge .fallbackFlush => { g with fallbackFlush := held 10 600 value }
  | .doorMap d => { g with doorMap := g.doorMap.set d ((DoorZone.ofCode value).getD (g.doorMap.get d)) }
  | .returnTime => { g with returnTime := held 1 60 value }
  | .scan .length => { g with scanLength := held 0 20 value }
  | .scan (.position p k) => { g with scanPositions := writtenPositions g.scanPositions p k value }
  | .calibration c .gain => { g with gain := g.gain.set c value.toInt }
  | .calibration c .offset => { g with offset := g.offset.set c value.toInt }
  | .threshold t => { g with thresholds := writtenThresholds g.thresholds t value }
  | .alertMask => { g with alertMask := value }
  | .level .short => { g with shortLevel := held 100 400 value }
  | .level (.overload b) => { g with overloadLevel := g.overloadLevel.set b (held 20 250 value) }
  | .time .short => { g with shortTime := held 1 20 value }
  | .time .overload => { g with overloadTime := held 5 100 value }
  | .feedbackEnd a .closed =>
    { g with
      closedEnd := g.closedEnd.set a (held 20 880 value)
      openEnd := g.openEnd.set a (max (g.openEnd.get a) (held 20 880 value + 100)) }
  | .feedbackEnd a .opened => { g with openEnd := g.openEnd.set a (held (g.closedEnd.get a + 100) 980 value) }

/-! ## The ranges -/

/-- The ranges of section 12.4 for the thresholds, one field for each (R133). -/
structure ThresholdRanges (g : Thresholds) : Prop where
  smokeRaise : 1 ≤ g.smokeRaise ∧ g.smokeRaise ≤ 1000
  smokeClear : g.smokeClear ≤ g.smokeRaise - 1
  heavyRaise : 1 ≤ g.heavyRaise ∧ g.heavyRaise ≤ 1000
  heavyClear : g.heavyClear ≤ g.heavyRaise - 1
  outsideCoRaise : 1 ≤ g.outsideCoRaise ∧ g.outsideCoRaise ≤ 1000
  outsideCoClear : g.outsideCoClear ≤ g.outsideCoRaise - 1
  cabCoRaise : 1 ≤ g.cabCoRaise ∧ g.cabCoRaise ≤ 1000
  cabCoClear : g.cabCoClear ≤ g.cabCoRaise - 1
  filterLimit : 100 ≤ g.filterLimit ∧ g.filterLimit ≤ 5000
  supplyLow : g.supplyLow ≤ 399
  supplyRecover : g.supplyLow + 1 ≤ g.supplyRecover ∧ g.supplyRecover ≤ 400

/-- At most one enabled slot has the Vehicle class (R1). -/
def OneVehicle (slots : PerStation SlotSettings) : Prop :=
  ∀ n m, (slots.get n).enabled = true → (slots.get n).cls = .vehicle → (slots.get m).enabled = true →
    (slots.get m).cls = .vehicle → n = m

/-- The ranges of section 12.4, one field for each setting that has one. -/
structure SettingRanges (g : Settings) : Prop where
  quietWindow : 10 ≤ g.quietWindow ∧ g.quietWindow ≤ 100
  lostWindow : g.quietWindow + 10 ≤ g.lostWindow ∧ g.lostWindow ≤ 1000
  releaseRank : g.releaseRank ≤ 7
  rank : ∀ n, (g.slots.get n).rank ≤ 7
  shelterTarget : 50 ≤ g.shelterTarget ∧ g.shelterTarget ≤ 1500
  shelterBase : g.shelterBase ≤ 1000
  shelterFloor : g.shelterFloor ≤ 1000
  freshTarget : 50 ≤ g.freshTarget ∧ g.freshTarget ≤ 1500
  freshBase : g.freshBase ≤ 1000
  freshFloor : g.freshFloor ≤ 1000
  kp : g.kp ≤ 255
  ki : g.ki ≤ 255
  doorLevel : g.doorLevel ≤ 1000
  frontVolume : 500 ≤ g.frontVolume ∧ g.frontVolume ≤ 20000
  rearVolume : 500 ≤ g.rearVolume ∧ g.rearVolume ≤ 20000
  purgeChanges : 1 ≤ g.purgeChanges ∧ g.purgeChanges ≤ 8
  fallbackFlush : 10 ≤ g.fallbackFlush ∧ g.fallbackFlush ≤ 600
  returnTime : 1 ≤ g.returnTime ∧ g.returnTime ≤ 60
  scanLength : g.scanLength ≤ 20
  thresholds : ThresholdRanges g.thresholds
  shortLevel : 100 ≤ g.shortLevel ∧ g.shortLevel ≤ 400
  overloadLevel : ∀ b, 20 ≤ g.overloadLevel.get b ∧ g.overloadLevel.get b ≤ 250
  shortTime : 1 ≤ g.shortTime ∧ g.shortTime ≤ 20
  overloadTime : 5 ≤ g.overloadTime ∧ g.overloadTime ≤ 100
  closedEnd : ∀ a, 20 ≤ g.closedEnd.get a ∧ g.closedEnd.get a ≤ 880
  openEnd : ∀ a, g.closedEnd.get a + 100 ≤ g.openEnd.get a ∧ g.openEnd.get a ≤ 980
  defaultSetpoint : g.defaultSetpoint % 5 = 0 ∧ 120 ≤ g.defaultSetpoint ∧ g.defaultSetpoint ≤ 300
  gain : ∀ c, -32768 ≤ g.gain.get c ∧ g.gain.get c ≤ 32767
  offset : ∀ c, -32768 ≤ g.offset.get c ∧ g.offset.get c ≤ 32767
  positions : g.scanPositions.length = 20
  entries : ∀ e ∈ g.scanPositions, e.timeClass ∈ [2, 3, 5, 10] ∧ e.divider ∈ [1, 2, 4, 8]
  oneVehicle : OneVehicle g.slots

/-- The range that a pair of numbers gives, over the integers. -/
theorem cast_range {lo hi v : Nat} : ((lo : Int) ≤ v ∧ (v : Int) ≤ hi) ↔ lo ≤ v ∧ v ≤ hi := by omega

theorem ThresholdRanges.of_settingsInRange {g : Settings} (h : SettingsInRange g) : ThresholdRanges g.thresholds := by
  obtain ⟨ranges, -⟩ := h
  have range (t : Threshold) (lo hi : Nat) (eq : rangeOf g (.threshold t) = some (lo, hi)) :
      lo ≤ thresholdValue g.thresholds t ∧ thresholdValue g.thresholds t ≤ hi := cast_range.mp (ranges _ lo hi eq)
  exact
    { smokeRaise := range .smokeRaise _ _ rfl
      smokeClear := (range .smokeClear _ _ rfl).2
      heavyRaise := range .heavyRaise _ _ rfl
      heavyClear := (range .heavyClear _ _ rfl).2
      outsideCoRaise := range .outsideCoRaise _ _ rfl
      outsideCoClear := (range .outsideCoClear _ _ rfl).2
      cabCoRaise := range .cabCoRaise _ _ rfl
      cabCoClear := (range .cabCoClear _ _ rfl).2
      filterLimit := range .filterLimit _ _ rfl
      supplyLow := (range .supplyLow _ _ rfl).2
      supplyRecover := range .supplyRecover _ _ rfl }

theorem SettingRanges.of_settingsInRange {g : Settings} (h : SettingsInRange g) : SettingRanges g := by
  have thresholds := ThresholdRanges.of_settingsInRange h
  obtain ⟨ranges, setpoint, calibration, positions, entries, vehicle⟩ := h
  have range (st : Setting) (lo hi v : Nat) (eq : rangeOf g st = some (lo, hi)) (value : settingValue g st = v) :
      lo ≤ v ∧ v ≤ hi := cast_range.mp (value ▸ ranges st lo hi eq)
  exact
    { quietWindow := range (.window .quiet) _ _ _ rfl rfl
      lostWindow := range (.window .lost) _ _ _ rfl rfl
      releaseRank := (range .releaseRank _ _ _ rfl rfl).2
      rank := fun n => (range (.slotRank n) _ _ _ rfl rfl).2
      shelterTarget := range (.plan .shelterTarget) _ _ _ rfl rfl
      shelterBase := (range (.plan .shelterBase) _ _ _ rfl rfl).2
      shelterFloor := (range (.plan .shelterFloor) _ _ _ rfl rfl).2
      freshTarget := range (.plan .freshTarget) _ _ _ rfl rfl
      freshBase := (range (.plan .freshBase) _ _ _ rfl rfl).2
      freshFloor := (range (.plan .freshFloor) _ _ _ rfl rfl).2
      kp := (range (.gain .kp) _ _ _ rfl rfl).2
      ki := (range (.gain .ki) _ _ _ rfl rfl).2
      doorLevel := (range .doorLevel _ _ _ rfl rfl).2
      frontVolume := range (.purge .frontVolume) _ _ _ rfl rfl
      rearVolume := range (.purge .rearVolume) _ _ _ rfl rfl
      purgeChanges := range (.purge .purgeChanges) _ _ _ rfl rfl
      fallbackFlush := range (.purge .fallbackFlush) _ _ _ rfl rfl
      returnTime := range .returnTime _ _ _ rfl rfl
      scanLength := (range (.scan .length) _ _ _ rfl rfl).2
      thresholds := thresholds
      shortLevel := range (.level .short) _ _ _ rfl rfl
      overloadLevel := fun b => range (.level (.overload b)) _ _ _ rfl rfl
      shortTime := range (.time .short) _ _ _ rfl rfl
      overloadTime := range (.time .overload) _ _ _ rfl rfl
      closedEnd := fun a => range (.feedbackEnd a .closed) _ _ _ rfl rfl
      openEnd := fun a => range (.feedbackEnd a .opened) _ _ _ rfl rfl
      defaultSetpoint := setpoint
      gain := fun c => calibration c .gain
      offset := fun c => calibration c .offset
      positions := positions
      entries := entries
      oneVehicle := vehicle }

/-- The ranges give back those of the table of section 12.4, setting by setting. -/
theorem SettingRanges.range {g : Settings} (h : SettingRanges g) (st : Setting) (lo hi : Nat)
    (eq : rangeOf g st = some (lo, hi)) : (lo : Int) ≤ settingValue g st ∧ settingValue g st ≤ hi := by
  have low {v hi : Nat} (hv : v ≤ hi) : ((0 : Nat) : Int) ≤ (v : Int) ∧ (v : Int) ≤ hi := by omega
  cases st with
  | window w =>
    cases w <;> cases eq
    exacts [cast_range.mpr h.quietWindow, cast_range.mpr h.lostWindow]
  | releaseRank => cases eq; exact low h.releaseRank
  | slotRank n => cases eq; exact low (h.rank n)
  | plan p =>
    cases p <;> cases eq
    exacts [cast_range.mpr h.shelterTarget, low h.shelterBase, low h.shelterFloor, cast_range.mpr h.freshTarget,
      low h.freshBase, low h.freshFloor]
  | gain k =>
    cases k <;> cases eq
    exacts [low h.kp, low h.ki]
  | doorLevel => cases eq; exact low h.doorLevel
  | purge p =>
    cases p <;> cases eq
    exacts [cast_range.mpr h.frontVolume, cast_range.mpr h.rearVolume, cast_range.mpr h.purgeChanges,
      cast_range.mpr h.fallbackFlush]
  | returnTime => cases eq; exact cast_range.mpr h.returnTime
  | scan f =>
    cases f <;> cases eq
    exact low h.scanLength
  | threshold t =>
    have ht := h.thresholds
    cases t <;> cases eq
    exacts [cast_range.mpr ht.smokeRaise, low ht.smokeClear, cast_range.mpr ht.heavyRaise, low ht.heavyClear,
      cast_range.mpr ht.outsideCoRaise, low ht.outsideCoClear, cast_range.mpr ht.cabCoRaise, low ht.cabCoClear,
      cast_range.mpr ht.filterLimit, low ht.supplyLow, cast_range.mpr ht.supplyRecover]
  | level l =>
    cases l <;> cases eq
    exacts [cast_range.mpr h.shortLevel, cast_range.mpr (h.overloadLevel _)]
  | time t =>
    cases t <;> cases eq
    exacts [cast_range.mpr h.shortTime, cast_range.mpr h.overloadTime]
  | feedbackEnd a e =>
    cases e <;> cases eq
    exacts [cast_range.mpr (h.closedEnd a), cast_range.mpr (h.openEnd a)]
  | slotEnabled | slotClass | slotScope | doorMap | calibration | alertMask => cases eq

theorem settingsInRange_iff (g : Settings) : SettingsInRange g ↔ SettingRanges g := by
  refine ⟨SettingRanges.of_settingsInRange, fun h => ⟨h.range, h.defaultSetpoint, fun c k => ?_, h.positions, h.entries,
    h.oneVehicle⟩⟩
  cases k
  · exact h.gain c
  · exact h.offset c

/-! ## A write keeps the ranges -/

theorem held_range {lo hi : Nat} (h : lo ≤ hi) (value : Word) : lo ≤ held lo hi value ∧ held lo hi value ≤ hi :=
  ⟨(clampNat_spec lo hi value.toNat h).1, (clampNat_spec lo hi value.toNat h).2.1⟩

theorem setpointOfValue_range (v : Int) :
    setpointOfValue v % 5 = 0 ∧ 120 ≤ setpointOfValue v ∧ setpointOfValue v ≤ 300 := by
  have multiple := (roundFive_spec v).1
  unfold setpointOfValue clampInt
  split <;> [skip; split] <;> omega

theorem word_toInt_range (value : Word) : -32768 ≤ value.toInt ∧ value.toInt ≤ 32767 := by
  have := BitVec.toInt_lt (x := value)
  have := BitVec.le_toInt (x := value)
  omega

theorem ThresholdRanges.written {g : Thresholds} (h : ThresholdRanges g) (t : Threshold) (value : Word) :
    ThresholdRanges (writtenThresholds g t value) := by
  have raise := held_range (lo := 1) (hi := 1000) (by decide) value
  have below {hi : Nat} := (held_range (Nat.zero_le hi) value).2
  cases t with
  | smokeRaise => exact { h with smokeRaise := raise, smokeClear := Nat.min_le_right _ _ }
  | smokeClear => exact { h with smokeClear := below }
  | heavyRaise => exact { h with heavyRaise := raise, heavyClear := Nat.min_le_right _ _ }
  | heavyClear => exact { h with heavyClear := below }
  | outsideCoRaise => exact { h with outsideCoRaise := raise, outsideCoClear := Nat.min_le_right _ _ }
  | outsideCoClear => exact { h with outsideCoClear := below }
  | cabCoRaise => exact { h with cabCoRaise := raise, cabCoClear := Nat.min_le_right _ _ }
  | cabCoClear => exact { h with cabCoClear := below }
  | filterLimit => exact { h with filterLimit := held_range (by decide) value }
  | supplyLow =>
    have low : held 0 399 value ≤ 399 := below
    have recover := h.supplyRecover
    exact { h with
      supplyLow := low
      supplyRecover := by simp only [writtenThresholds]; omega }
  | supplyRecover =>
    have low := h.supplyLow
    exact { h with supplyRecover := held_range (lo := g.supplyLow + 1) (hi := 400) (by omega) value }

theorem scanTimeClass_mem (v : Nat) : scanTimeClass v ∈ [2, 3, 5, 10] := by
  unfold scanTimeClass; grind

theorem scanDivider_mem (v : Nat) : scanDivider v ∈ [1, 2, 4, 8] := by
  unfold scanDivider; grind

/-- A position stays in range with one field written (R110). -/
theorem putScanField_range {e : ScanEntry} (h : e.timeClass ∈ [2, 3, 5, 10] ∧ e.divider ∈ [1, 2, 4, 8])
    (k : ScanFieldKind) (v : Nat) :
    (putScanField e k v).1.timeClass ∈ [2, 3, 5, 10] ∧ (putScanField e k v).1.divider ∈ [1, 2, 4, 8] := by
  cases k
  · exact h
  · exact ⟨scanTimeClass_mem v, h.2⟩
  · exact ⟨h.1, scanDivider_mem v⟩

theorem writtenPositions_range {l : List ScanEntry}
    (h : ∀ e ∈ l, e.timeClass ∈ [2, 3, 5, 10] ∧ e.divider ∈ [1, 2, 4, 8]) (p : Fin 20) (k : ScanFieldKind)
    (value : Word) :
    ∀ e ∈ writtenPositions l p k value, e.timeClass ∈ [2, 3, 5, 10] ∧ e.divider ∈ [1, 2, 4, 8] := by
  intro e he
  rcases List.mem_or_eq_of_mem_set he with old | rfl
  · exact h e old
  · refine putScanField_range ?_ k _
    cases hp : l[p.val]? with
    | none => simp [Config.spareScanEntry]
    | some x => exact h x (List.mem_of_getElem? hp)

/-- A changed slot leaves at most one enabled slot of Vehicle class, where it is none itself or no other is one (R1). -/
theorem OneVehicle.set {slots : PerStation SlotSettings} (h : OneVehicle slots) (n : Station) (t : SlotSettings)
    (ht : t.enabled = true → t.cls = .vehicle →
      ((slots.get n).enabled = true ∧ (slots.get n).cls = .vehicle) ∨
      ∀ m, m ≠ n → ¬((slots.get m).enabled = true ∧ (slots.get m).cls = .vehicle)) : OneVehicle (slots.set n t) := by
  intro a b enA clsA enB clsB
  rw [PerStation.get_set] at enA clsA enB clsB
  by_cases ha : a = n <;> by_cases hb : b = n <;> simp only [ha, hb, if_true, if_false] at enA clsA enB clsB ⊢
  · rcases ht enA clsA with old | alone
    · exact h n b old.1 old.2 enB clsB
    · exact absurd ⟨enB, clsB⟩ (alone b hb)
  · rcases ht enB clsB with old | alone
    · exact ha (h a n enA clsA old.1 old.2)
    · exact absurd ⟨enA, clsA⟩ (alone a ha)
  · exact h a b enA clsA enB clsB

theorem otherVehicle_eq_false {s : State} {n : Station} (h : s.otherVehicle n = false) (m : Station) (hm : m ≠ n) :
    ¬((s.slot m).enabled = true ∧ (s.slot m).cls = .vehicle) := by
  rintro ⟨enabled, vehicle⟩
  have some_other : s.otherVehicle n = true := by
    simp only [State.otherVehicle, List.any_eq_true]
    exact ⟨m, by cases m <;> decide, by simp [hm, enabled, vehicle]⟩
  rw [h] at some_other
  cases some_other

/-- The ranges with one slot's settings replaced. -/
theorem SettingRanges.withSlot {g : Settings} (h : SettingRanges g) (n : Station) (t : SlotSettings) (rank : t.rank ≤ 7)
    (vehicle : t.enabled = true → t.cls = .vehicle →
      ((g.slots.get n).enabled = true ∧ (g.slots.get n).cls = .vehicle) ∨
      ∀ m, m ≠ n → ¬((g.slots.get m).enabled = true ∧ (g.slots.get m).cls = .vehicle)) :
    SettingRanges (withSlot g n t) :=
  { h with
    rank := fun m => by
      by_cases hm : m = n
      · simpa [hm] using rank
      · simpa [hm] using h.rank m
    oneVehicle := h.oneVehicle.set n t vehicle }

/-- A write of any setting but a slot's enabled and class fields keeps the ranges (R182); those two are checked for the
Vehicle class first. -/
theorem SettingRanges.written {g : Settings} (h : SettingRanges g) (st : Setting) (value : Word)
    (not_enabled : ∀ n, st ≠ .slotEnabled n) (not_class : ∀ n, st ≠ .slotClass n) :
    SettingRanges (writtenSettings g st value) := by
  have below {hi : Nat} := (held_range (Nat.zero_le hi) value).2
  cases st with
  | window w =>
    cases w with
    | quiet =>
      have quiet := held_range (lo := 10) (hi := 100) (by decide) value
      have lost := h.lostWindow
      exact { h with
        quietWindow := quiet
        lostWindow := by simp only [writtenSettings]; omega }
    | lost =>
      have quiet := h.quietWindow
      exact { h with lostWindow := held_range (lo := g.quietWindow + 10) (hi := 1000) (by omega) value }
  | releaseRank => exact { h with releaseRank := below }
  | slotEnabled n => exact absurd rfl (not_enabled n)
  | slotClass n => exact absurd rfl (not_class n)
  | slotRank n => exact h.withSlot n _ below fun en cls => .inl ⟨en, cls⟩
  | slotScope n => exact h.withSlot n _ (h.rank n) fun en cls => .inl ⟨en, cls⟩
  | plan p =>
    cases p with
    | defaultSetpoint => exact { h with defaultSetpoint := setpointOfValue_range _ }
    | autoShelter => exact { h with }
    | shelterOnPump => exact { h with }
    | shelterTarget => exact { h with shelterTarget := held_range (by decide) value }
    | shelterBase => exact { h with shelterBase := below }
    | shelterFloor => exact { h with shelterFloor := below }
    | freshTarget => exact { h with freshTarget := held_range (by decide) value }
    | freshBase => exact { h with freshBase := below }
    | freshFloor => exact { h with freshFloor := below }
  | gain k =>
    cases k with
    | kp => exact { h with kp := below }
    | ki => exact { h with ki := below }
  | doorLevel => exact { h with doorLevel := below }
  | purge p =>
    cases p with
    | frontVolume => exact { h with frontVolume := held_range (by decide) value }
    | rearVolume => exact { h with rearVolume := held_range (by decide) value }
    | purgeChanges => exact { h with purgeChanges := held_range (by decide) value }
    | autoPurge => exact { h with }
    | fallbackFlush => exact { h with fallbackFlush := held_range (by decide) value }
  | doorMap d => exact { h with }
  | returnTime => exact { h with returnTime := held_range (by decide) value }
  | scan f =>
    cases f with
    | length => exact { h with scanLength := below }
    | position p k =>
      exact { h with
        positions := by simpa [writtenSettings, writtenPositions] using h.positions
        entries := writtenPositions_range h.entries p k value }
  | calibration c k =>
    have word := word_toInt_range value
    cases k with
    | gain =>
      exact { h with gain := fun d => by by_cases hd : d = c <;> simp [writtenSettings, hd, word, h.gain d] }
    | offset =>
      exact { h with offset := fun d => by by_cases hd : d = c <;> simp [writtenSettings, hd, word, h.offset d] }
  | threshold t => exact { h with thresholds := h.thresholds.written t value }
  | alertMask => exact { h with }
  | level l =>
    cases l with
    | short => exact { h with shortLevel := held_range (by decide) value }
    | overload b =>
      have level := held_range (lo := 20) (hi := 250) (by decide) value
      exact { h with
        overloadLevel := fun c => by
          by_cases hc : c = b <;> simp only [writtenSettings, PerBlower.get_set, hc, if_true, if_false]
          · exact level
          · exact h.overloadLevel c }
  | time t =>
    cases t with
    | short => exact { h with shortTime := held_range (by decide) value }
    | overload => exact { h with overloadTime := held_range (by decide) value }
  | feedbackEnd a e =>
    cases e with
    | closed =>
      have level := held_range (lo := 20) (hi := 880) (by decide) value
      exact { h with
        closedEnd := fun c => by
          by_cases hc : c = a <;> simp only [writtenSettings, PerActuator.get_set, hc, if_true, if_false]
          · exact level
          · exact h.closedEnd c
        openEnd := fun c => by
          have opened := h.openEnd c
          by_cases hc : c = a
          · subst hc; simp only [writtenSettings, PerActuator.get_set, if_true]; omega
          · simpa only [writtenSettings, PerActuator.get_set, hc, if_false] using opened }
    | opened =>
      have closed := h.closedEnd a
      exact { h with
        openEnd := fun c => by
          by_cases hc : c = a
          · subst hc; simpa [writtenSettings] using held_range (by omega) value
          · simpa only [writtenSettings, PerActuator.get_set, hc, if_false] using h.openEnd c }

end Sys2Proof.Machine
end

section
/-! A property kept by the primitive changes is kept by the operations that are made of them: marks, lines and runs, a
resolution where there is a trigger, an event at a block, the vehicle, the stations and the taking of a cell. -/

namespace Sys2Proof.Machine

open Sys2Proof

/-- Emptying the queue leaves no record in it, whoever holds the stream. -/
theorem emptyQueue_queue (s : State) : (emptyQueue s).trend.queue = [] := by
  unfold emptyQueue
  split
  · rfl
  · simp

namespace KeptFrom

variable {p₀ : Purge} {reads : List Part} {P : State → Prop} {s : State}

/-! ## Parts that no invariant reads -/

protected theorem setLoop (h : KeptFrom p₀ reads P) (l : Loop) (hs : P s) : P (s.setLoop l) :=
  h.of_unread (ps := [.loop]) (fun p hp => by cases p <;> first | rfl | exact absurd (by decide) hp) (by decide) hs

protected theorem setResolver (h : KeptFrom p₀ reads P) (r : Resolver) (hs : P s) : P (s.setResolver r) :=
  h.of_unread (ps := [.resolver]) (fun p hp => by cases p <;> first | rfl | exact absurd (by decide) hp) (by decide) hs

protected theorem setClock (h : KeptFrom p₀ reads P) (c : Clock) (hs : P s) : P (s.setClock c) :=
  h.of_unread (ps := [.clock]) (fun p hp => by cases p <;> first | rfl | exact absurd (by decide) hp) (by decide) hs

protected theorem setScene (h : KeptFrom p₀ reads P) (t : SceneTimers) (hs : P s) : P (s.setScene t) :=
  h.of_unread (ps := [.scene]) (fun p hp => by cases p <;> first | rfl | exact absurd (by decide) hp) (by decide) hs

protected theorem setBuffers (h : KeptFrom p₀ reads P) (b : PerStation (Option ReadoutBuffer)) (hs : P s) :
    P (s.setBuffers b) :=
  h.of_unread (ps := [.buffers]) (fun p hp => by cases p <;> first | rfl | exact absurd (by decide) hp) (by decide) hs

protected theorem setMarks (h : KeptFrom p₀ reads P) (m : PerStation Marks) (hs : P s) : P (s.setMarks m) :=
  h.of_unread (ps := [.marks]) (fun p hp => by cases p <;> first | rfl | exact absurd (by decide) hp) (by decide) hs

protected theorem setDetached (h : KeptFrom p₀ reads P) (n : Station) (v : Bool) (hs : P s) : P (setDetached n v s) :=
  h.of_unread (ps := [.detached]) (fun p hp => by cases p <;> first | rfl | exact absurd (by decide) hp) (by decide) hs

protected theorem markAll (h : KeptFrom p₀ reads P) (g : Group) (hs : P s) : P (markAll g s) := h.setMarks _ hs

protected theorem markAllIf (h : KeptFrom p₀ reads P) (b : Bool) (g : Group) (hs : P s) : P (markAllIf b g s) := by
  cases b
  · exact hs
  · exact h.markAll g hs

protected theorem setLine (h : KeptFrom p₀ reads P) (n : Station) (l : Line) (hs : P s) : P (setLine n l s) := h.setLoop _ hs

protected theorem setWindow (h : KeptFrom p₀ reads P) (n : Station) (w : Window) (hs : P s) : P (setWindow n w s) :=
  h.setLoop _ hs

protected theorem cutRun (h : KeptFrom p₀ reads P) (n : Station) (k : RunKind) (hs : P s) : P (cutRun n k s) := by
  unfold Machine.cutRun
  split
  · exact hs
  · split
    · exact h.setLine _ _ hs
    · exact hs

protected theorem discardBuffer (h : KeptFrom p₀ reads P) (n : Station) (hs : P s) : P (discardBuffer n s) :=
  h.cutRun n _ (h.setBuffers _ hs)

protected theorem markStation (h : KeptFrom p₀ reads P) (n : Station) (hs : P s) : P (markStation n s) := h.setMarks _ hs

protected theorem unlessHeld (_ : KeptFrom p₀ reads P) {f : State → State} (hf : P s → P (f s)) (hs : P s) :
    P (unlessHeld f s) := by
  rcases unlessHeld_cases f s with ⟨-, eq⟩ | ⟨-, eq⟩ <;> rw [eq]
  · exact hf hs
  · exact hs

/-! ## The primitive changes, whatever is read -/

protected theorem resolve (h : KeptFrom p₀ reads P) (hs : P s) : P (resolve s) :=
  h.of_touches (resolve_resolved s).parts (h.onResolve · s hs) hs

protected theorem resolveIf (h : KeptFrom p₀ reads P) (b : Bool) (hs : P s) : P (resolveIf b s) := by
  cases b
  · exact hs
  · exact h.resolve hs

protected theorem setCondition (h : KeptFrom p₀ reads P) {c : Condition} (v : Bool) (hc : c ∉ ownedConditions) (hs : P s) :
    P (setCondition c v s) :=
  h.of_touches (setCondition_spec c v s).2.2.2.2 (h.onCondition · c v s hc hs) hs

protected theorem withRegulator (h : KeptFrom p₀ reads P) {r : Regulator} (integral : s.reg.IntegralSound → r.IntegralSound)
    (levels : s.reg.LevelsSound → r.LevelsSound) (hs : P s) : P (withRegulator r s) :=
  h.of_touches (ps := [.reg, .conditions, .alert, .blowers, .marks])
    (fun p hp => by cases p <;> first | exact absurd (by decide) hp | simp [Part.same])
    (h.onRegulator · r s integral levels hs) hs

protected theorem setRegTimers (h : KeptFrom p₀ reads P) {r : Regulator} (integral : r.integral = s.reg.integral)
    (output : r.output = s.reg.output) (cap : r.cap = s.reg.cap) (hs : P s) : P (s.setReg r) :=
  h.of_touches (ps := [.reg]) (fun p hp => by cases p <;> first | rfl | exact absurd (by decide) hp)
    (h.onRegTimers · r s integral output cap hs) hs

protected theorem setPurge (h : KeptFrom p₀ reads P) {q : Purge} (moves : PurgeMoves p₀ s.purge q) (hs : P s) :
    P (s.setPurge q) :=
  h.of_touches (setPurge_changesOnly q s) (h.onPurge · q s moves hs) hs

protected theorem setTimers (h : KeptFrom p₀ reads P) {v : Vehicle} (record : v.record = s.vehicle.record) (hs : P s) :
    P (s.setVehicle v) :=
  h.of_touches (ps := [.vehicle]) (fun p hp => by cases p <;> first | rfl | exact absurd (by decide) hp)
    (h.onTimers · v s record hs) hs

protected theorem putVehicle (h : KeptFrom p₀ reads P) (v : Vehicle) (hs : P s) : P (putVehicle v s) :=
  h.of_touches (ps := [.vehicle, .conditions, .alert, .marks])
    (fun p hp => by cases p <;> first | exact absurd (by decide) hp | simp [Part.same]) (h.onVehicle · v s hs) hs

protected theorem setDetectors (h : KeptFrom p₀ reads P) {bs : PerBlower BlowerState}
    (kept : ∀ b, (bs.get b).target = (s.blowers.get b).target ∧ (bs.get b).output = (s.blowers.get b).output ∧
      (bs.get b).protection = (s.blowers.get b).protection) (hs : P s) : P (s.setBlowers bs) :=
  h.of_touches (ps := [.blowers]) (fun p hp => by cases p <;> first | rfl | exact absurd (by decide) hp)
    (h.onDetectors · bs s kept hs) hs

protected theorem setTrend (h : KeptFrom p₀ reads P) {tr : Trend} (sound : s.trend.Sound → tr.Sound) (hs : P s) :
    P (s.setTrend tr) :=
  h.of_touches (ps := [.trend]) (fun p hp => by cases p <;> first | rfl | exact absurd (by decide) hp)
    (h.onTrend · tr s sound hs) hs

protected theorem setScan (h : KeptFrom p₀ reads P) {sc : Scan} (working : sc.working = s.scan.working) (hs : P s) :
    P (s.setScan sc) :=
  h.of_touches (ps := [.scan]) (fun p hp => by cases p <;> first | rfl | exact absurd (by decide) hp)
    (h.onScan · sc s working hs) hs

protected theorem setStore (h : KeptFrom p₀ reads P) {st : Store} (sound : SettingsSound s → SettingsSound (s.setStore st))
    (hs : P s) : P (s.setStore st) :=
  h.of_touches (ps := [.store]) (fun p hp => by cases p <;> first | rfl | exact absurd (by decide) hp)
    (h.onStore · st s sound hs) hs

protected theorem setSettings (h : KeptFrom p₀ reads P) {g : Settings}
    (ranges : SettingsInRange s.settings → SettingsInRange g) (mask : g.alertMask = s.settings.alertMask)
    (slots : ∀ n, (g.slots.get n).enabled = (s.slot n).enabled ∧ (g.slots.get n).scope = (s.slot n).scope)
    (hs : P s) : P (s.setSettings g) :=
  h.of_touches (ps := [.settings]) (fun p hp => by cases p <;> first | rfl | exact absurd (by decide) hp)
    (h.onSettings · g s ranges mask slots hs) hs

protected theorem filterTable (h : KeptFrom p₀ reads P) (keep : Entry → Bool) (hs : P s) :
    P (s.setTable (s.table.filter keep)) :=
  h.of_touches (ps := [.table]) (fun p hp => by cases p <;> first | rfl | exact absurd (by decide) hp)
    (h.onFilter · keep s hs) hs

protected theorem refresh (h : KeptFrom p₀ reads P) (n : Station) (hs : P s) : P (refresh n s) :=
  h.of_touches (ps := [.stations, .table, .marks])
    (fun p hp => by cases p <;> first | exact absurd (by decide) hp | simp [Part.same]) (h.onRefresh · n s hs) hs

protected theorem updateAlert_mask (h : KeptFrom p₀ reads P) (w : Word) (hs : P s) :
    P (updateAlert (s.setSettings { s.settings with alertMask := w })) :=
  h.of_touches (ps := [.settings, .alert, .marks])
    (fun p hp => by cases p <;> first | exact absurd (by decide) hp | simp [Part.same]) (h.onMask · w s hs) hs

/-! ## The clock -/

protected theorem elapse (h : KeptFrom p₀ reads P) (n : Nat) (hs : P s) : P (elapse n s) :=
  h.setDetectors (fun b => by simp [BlowerState.elapse]) (h.setClock _ hs)

protected theorem advanceTo (h : KeptFrom p₀ reads P) (due : BitVec 32) (hs : P s) : P (advanceTo due s) := h.elapse _ hs

/-! ## The trend stream -/

protected theorem emptyQueue (h : KeptFrom p₀ reads P) (hs : P s) : P (emptyQueue s) := by
  have emptied : P (s.setTrend { s.trend with queue := [], begun := false, sent := 0 }) :=
    h.setTrend (fun _ => ⟨Nat.zero_le _, fun _ => rfl⟩) hs
  unfold Machine.emptyQueue
  split
  · exact emptied
  · exact h.cutRun _ _ emptied

protected theorem releaseStream (h : KeptFrom p₀ reads P) (n : Station) (hs : P s) : P (releaseStream n s) := by
  unfold Machine.releaseStream
  split
  · refine h.setTrend (fun _ => ⟨?_, fun _ => ?_⟩) (h.emptyQueue hs) <;> simp [emptyQueue_queue]
  · exact hs

protected theorem grantStream (h : KeptFrom p₀ reads P) (n : Station) (mask : Word) (d : Nat) (hs : P s) :
    P (grantStream n mask d s) :=
  h.setTrend (fun _ => ⟨by simp [emptyQueue_queue], fun none => by cases none⟩) (h.emptyQueue hs)

protected theorem detachHolder (h : KeptFrom p₀ reads P) (n : Station) (hs : P s) : P (detachHolder n s) := by
  unfold Machine.detachHolder
  split
  · exact hs
  · split
    · exact hs
    · exact h.setDetached _ _ hs

end KeptFrom

end Sys2Proof.Machine
end

section
/-! The movers: what each operation of a blower and of an actuator keeps on its own record (R135, R148), and the events
at the blowers and the actuators. -/

namespace Sys2Proof.Machine

open Sys2Proof

/-! ## A blower -/

namespace BlowerState.Sound

variable {b : BlowerState}

protected theorem trip (h : b.Sound) (k : TripKind) : (b.trip k).Sound := by
  unfold BlowerState.trip
  split <;> exact ⟨h.1, Nat.zero_le _, fun _ => rfl⟩

protected theorem resume (h : b.Sound) (short overload : Nat) : (b.resume short overload).Sound :=
  ⟨h.1, h.2.1, fun stopped => absurd rfl stopped⟩

protected theorem shortStep (h : b.Sound) (time : Nat) : (b.shortStep time).Sound := by
  unfold BlowerState.shortStep
  split
  · exact h.trip _
  · exact h

protected theorem overloadStep (h : b.Sound) (time : Nat) : (b.overloadStep time).Sound := by
  unfold BlowerState.overloadStep
  split
  · exact h.trip _
  · exact h

protected theorem windowStep (h : b.Sound) : b.windowStep.Sound := by
  unfold BlowerState.windowStep
  split <;> exact h

protected theorem cooldownStep (h : b.Sound) (short overload : Nat) : (b.cooldownStep short overload).Sound := by
  unfold BlowerState.cooldownStep
  split
  · exact h.resume _ _
  · exact h

protected theorem clearLatch (h : b.Sound) (short overload : Nat) : (b.clearLatch short overload).Sound := by
  unfold BlowerState.clearLatch
  split
  · exact h.resume short overload
  · exact h

/-- A ramp step stays between the output and the target (R137). -/
protected theorem ramp (h : b.Sound) : b.ramp.Sound := by
  unfold BlowerState.ramp
  split
  · next running =>
    obtain ⟨target, output, -⟩ := h
    refine ⟨target, ?_, fun stopped => absurd running stopped⟩
    simp only [rampStep]
    split <;> omega
  · exact h

protected theorem markOverload (h : b.Sound) (time : Nat) : (b.markOverload time).Sound := by
  refine Sound.overloadStep ?_ time
  exact h

protected theorem markWindow (h : b.Sound) (was : Bool) : (b.markWindow was).Sound := by
  unfold BlowerState.markWindow
  split
  · refine Sound.windowStep ?_
    exact h
  · exact h

protected theorem markCooldown (h : b.Sound) (was : Bool) (short overload : Nat) :
    (b.markCooldown was short overload).Sound := by
  unfold BlowerState.markCooldown
  split
  · refine Sound.cooldownStep ?_ short overload
    exact h
  · exact h

protected theorem mark (h : b.Sound) (short overload time : Nat) : (b.mark short overload time).Sound :=
  (((h.markOverload time).markWindow _).markCooldown _ short overload).ramp

end BlowerState.Sound

/-! ## An actuator -/

theorem positionOf_le (reading closedEnd openEnd : Nat) : positionOf reading closedEnd openEnd ≤ 100 := by
  unfold positionOf clampInt
  split <;> [skip; split] <;> omega

theorem driveToward_ne_off (target position : Nat) : driveToward target position ≠ .off := by
  unfold driveToward; split <;> decide

namespace ActuatorState.Sound

variable {a : ActuatorState}

/-- An actuator with other timers, a target and a position in range, and the same motion and drive. -/
protected theorem rest (h : a.Sound) : a.rest.Sound := ⟨h.1, h.2.1, by simp [ActuatorState.rest]⟩

protected theorem start (h : a.Sound) : a.start.Sound :=
  ⟨h.1, h.2.1, by simp [ActuatorState.start, driveToward_ne_off]⟩

protected theorem reverse (h : a.Sound) : a.reverse.Sound := ⟨h.1, h.2.1, by simp [ActuatorState.reverse]⟩

protected theorem stick (h : a.Sound) (k : FaultKind) : (a.stick k).Sound :=
  ⟨h.1, h.2.1, by simp [ActuatorState.stick]⟩

protected theorem fromStill (h : a.Sound) : a.fromStill.Sound := by
  unfold ActuatorState.fromStill
  split
  · exact h
  · exact h.start

protected theorem takeTarget (h : a.Sound) {t : Nat} (ht : t ≤ 100) : (a.takeTarget t).Sound := by
  have aimed : Sound { a with target := t } := ⟨ht, h.2⟩
  unfold ActuatorState.takeTarget
  split
  · exact h
  · split
    · exact aimed
    · split
      · exact aimed.fromStill
      · split
        · exact aimed.rest
        · split
          · exact aimed
          · exact aimed.reverse
      all_goals exact aimed

protected theorem stallStep (h : a.Sound) : a.stallStep.Sound := by
  unfold ActuatorState.stallStep
  split
  · split
    · exact h.stick _
    · exact ⟨h.1, h.2.1, by simp⟩
  · exact h

protected theorem motionTests (h : a.Sound) : a.motionTests.Sound := by
  unfold ActuatorState.motionTests
  split
  · exact h.rest
  · split
    · exact h.reverse
    · split
      · exact h
      · exact Sound.stallStep (a := { a with stallTimer := _ }) h

protected theorem reversalStep (h : a.Sound) : a.reversalStep.Sound := by
  unfold ActuatorState.reversalStep
  split
  · split
    · exact h.rest
    · exact h.start
  · exact h

protected theorem waitStep (h : a.Sound) : a.waitStep.Sound := by
  unfold ActuatorState.waitStep
  split
  · split
    · exact h.rest
    · exact h.start
  · exact h

protected theorem markMotion (h : a.Sound) : a.markMotion.Sound := by
  unfold ActuatorState.markMotion
  split
  · exact h
  · exact h.motionTests
  · exact Sound.reversalStep (a := { a with reversal := _ }) h
  · exact Sound.waitStep (a := { a with stallWait := _ }) h
  · exact h

protected theorem readFeedback (h : a.Sound) (reading closedEnd openEnd : Nat) :
    (a.readFeedback reading closedEnd openEnd).Sound :=
  ⟨h.1, positionOf_le _ _ _, h.2.2⟩

protected theorem mark (h : a.Sound) (reading closedEnd openEnd : Nat) : (a.mark reading closedEnd openEnd).Sound := by
  have read := h.readFeedback reading closedEnd openEnd
  unfold ActuatorState.mark
  split
  · split
    · exact Sound.fromStill (a := { a.readFeedback reading closedEnd openEnd with waiting := _, stallRef := _ }) read
    · exact read.markMotion
  · split
    · exact h
    · refine Sound.stick ?_ _
      exact h

protected theorem clearStuck (h : a.Sound) : a.clearStuck.Sound := by
  unfold ActuatorState.clearStuck
  split
  · refine Sound.fromStill ⟨h.1, h.2.1, by simp⟩
  · exact h

end ActuatorState.Sound

/-! ## Events -/

namespace KeptFrom

variable {p₀ : Purge} {reads : List Part} {P : State → Prop} {s : State}

protected theorem blowerEvent (h : KeptFrom p₀ reads P) {bs : PerBlower BlowerState}
    (sound : ∀ b, (s.blowers.get b).Sound → (bs.get b).Sound) (hs : P s) : P (blowerEvent bs s) := by
  refine h.resolveIf _ (h.of_touches (ps := [.blowers, .conditions, .alert, .marks]) (s := s) (fun p hp => ?_)
    (h.onBlowers · bs _ s sound hs) hs)
  cases p <;> first | exact absurd (by decide) hp | simp [Part.same]

protected theorem actuatorEvent (h : KeptFrom p₀ reads P) {as : PerActuator ActuatorState}
    (sound : ∀ a, (s.actuators.get a).Sound → (as.get a).Sound) (hs : P s) : P (actuatorEvent as s) := by
  refine h.resolveIf _ (h.of_touches (ps := [.actuators, .conditions, .alert, .marks]) (s := s) (fun p hp => ?_)
    (h.onActuators · as _ s sound hs) hs)
  cases p <;> first | exact absurd (by decide) hp | simp [Part.same]

protected theorem oneBlower (h : KeptFrom p₀ reads P) {b : Blower} {r : BlowerState}
    (sound : (s.blowers.get b).Sound → r.Sound) (hs : P s) : P (oneBlower b r s) := by
  refine h.blowerEvent (fun c hc => ?_) hs
  by_cases eq : c = b
  · subst eq
    simpa using sound hc
  · simpa [eq] using hc

protected theorem oneActuator (h : KeptFrom p₀ reads P) {a : ActuatorId} {r : ActuatorState}
    (sound : (s.actuators.get a).Sound → r.Sound) (hs : P s) : P (oneActuator a r s) := by
  refine h.actuatorEvent (fun c hc => ?_) hs
  by_cases eq : c = a
  · subst eq
    simpa using sound hc
  · simpa [eq] using hc

protected theorem markBlowers (h : KeptFrom p₀ reads P) (hs : P s) : P (markBlowers s) :=
  h.blowerEvent (fun b hb => by simpa using hb.mark _ _ _) hs

protected theorem markActuators (h : KeptFrom p₀ reads P) (fb : PerActuator Nat) (hs : P s) :
    P (markActuators fb s) :=
  h.actuatorEvent (fun a ha => by simpa using ha.mark _ _ _) hs

protected theorem shortTrip (h : KeptFrom p₀ reads P) (b : Blower) (hs : P s) : P (shortTrip b s) :=
  h.oneBlower (fun hb => hb.shortStep _) (h.elapse _ hs)

protected theorem changeCurrent (h : KeptFrom p₀ reads P) (b : Blower) (current : Nat) (hs : P s) :
    P (changeCurrent b current s) := by
  refine h.setDetectors (fun c => ?_) hs
  by_cases eq : c = b
  · subst eq
    simp only [PerBlower.get_set, if_true, BlowerState.watch]
    split <;> [skip; split] <;> exact ⟨rfl, rfl, rfl⟩
  · simp [eq]

protected theorem watchBlowers (h : KeptFrom p₀ reads P) (hs : P s) : P (watchBlowers s) := by
  refine h.setDetectors (fun b => ?_) hs
  simp only [PerBlower.get_mapWith, BlowerState.watch]
  split <;> exact ⟨rfl, rfl, rfl⟩

protected theorem clearLatches (h : KeptFrom p₀ reads P) (hs : P s) : P (clearLatches s) := by
  refine h.resolveIf _ (h.of_touches (ps := [.blowers, .actuators, .conditions, .alert, .marks]) (s := s)
    (fun p hp => ?_) (h.onClear · _ s hs) hs)
  cases p <;> first | exact absurd (by decide) hp | simp [Part.same]

end KeptFrom

end Sys2Proof.Machine
end

section
/-! The purge and the vehicle: what each phase change does to the purge record (R70, R82), and the events that bring it
about. -/

namespace Sys2Proof.Machine

open Sys2Proof

/-! ## Moves of the purge record -/

namespace PurgeMoves

variable {p₀ p q : Purge}

/-- A purge that stays in a phase other than Idle, its count not lowered. -/
theorem of_under_way (phase : p.phase ≠ .idle) (stays : q.phase ≠ .idle) (below : p.litres ≤ q.litres)
    (word : p.litres ≤ 65535 → q.litres ≤ 65535) : PurgeMoves p₀ p q :=
  fun sound => ⟨⟨word sound.1, fun idle => absurd idle stays⟩, fun _ _ => ⟨phase, below⟩⟩

/-- A purge that ends. -/
theorem of_end (l : LastResult) : PurgeMoves p₀ p (Purge.idleWith l) :=
  fun _ => ⟨⟨Nat.zero_le _, fun _ => rfl⟩, fun _ stays => absurd rfl stays⟩

/-- A purge that starts in a command at whose start none was under way. -/
theorem of_start (idle : p₀.phase = .idle) (phase : q.phase ≠ .idle) (word : q.litres ≤ 65535) : PurgeMoves p₀ p q :=
  fun _ => ⟨⟨word, fun stopped => absurd stopped phase⟩, fun under_way => absurd idle under_way⟩

/-- Widening changes neither phase nor count. -/
theorem of_same (phase : p.phase ≠ .idle) (same : q.phase = p.phase) (litres : q.litres = p.litres) :
    PurgeMoves p₀ p q :=
  of_under_way phase (same ▸ phase) litres.ge fun h => litres ▸ h

/-- A counted sample raises the count, up to a word (R85). -/
theorem of_count (phase : p.phase ≠ .idle) (units : Nat) : PurgeMoves p₀ p (p.count units) :=
  fun sound => ⟨⟨Nat.min_le_left _ _, fun idle => absurd idle phase⟩,
    fun _ _ => ⟨phase, le_min sound.1 (Nat.le_add_right _ _)⟩⟩

end PurgeMoves

theorem Purge.tick_moves (p₀ p : Purge) : PurgeMoves p₀ p p.tick := by
  unfold Purge.tick
  cases hp : p.phase with
  | idle => exact fun sound => ⟨sound, fun _ under_way => ⟨under_way, le_rfl⟩⟩
  | armed => exact .of_same (by simp [hp]) (by simp [hp]) rfl
  | flushing => exact .of_same (by simp [hp]) (by simp [hp]) rfl
  | deferred => exact .of_same (by simp [hp]) (by simp [hp]) rfl

theorem State.phaseFor_ne_idle (s : State) : s.phaseFor ≠ .idle := by
  unfold State.phaseFor
  split
  · decide
  · split <;> decide

namespace KeptFrom

variable {p₀ : Purge} {reads : List Part} {P : State → Prop} {s : State}

/-! ## Phase changes -/

protected theorem endPurge (h : KeptFrom p₀ reads P) (r : PurgeResult) (hs : P s) : P (endPurge r s) := by
  unfold Machine.endPurge
  refine h.setPurge (.of_end _) ?_
  split
  · exact h.setCondition true (by decide) hs
  · exact hs

protected theorem fallbackTest (h : KeptFrom p₀ reads P) (hs : P s) : P (fallbackTest s) := by
  unfold Machine.fallbackTest
  split
  · exact h.endPurge _ hs
  · exact hs

protected theorem enterPhase (h : KeptFrom p₀ reads P) {p : PurgePhase} (under_way : s.purge.phase ≠ .idle)
    (hp : p ≠ .idle) (hs : P s) : P (enterPhase p s) :=
  h.fallbackTest (h.setPurge (.of_under_way under_way hp le_rfl id) hs)

protected theorem startPurge (h : KeptFrom p₀ reads P) (idle : p₀.phase = .idle) (sc : PurgeScope) (o : Originator)
    (hs : P s) : P (startPurge sc o s) := by
  unfold Machine.startPurge Machine.enterPhase startRecord
  simp only [State.setPurge_setPurge]
  exact h.fallbackTest (h.setPurge (.of_start idle (State.phaseFor_ne_idle _) (Nat.zero_le _))
    (h.setCondition false (by decide) hs))

protected theorem widenPurge (h : KeptFrom p₀ reads P) (under_way : s.purge.phase ≠ .idle) (hs : P s) :
    P (widenPurge s) :=
  h.setPurge (.of_same under_way rfl rfl) hs

protected theorem purgeDoors (h : KeptFrom p₀ reads P) (before : PerDoor Bool) (hs : P s) :
    P (purgeDoors before s) := by
  unfold Machine.purgeDoors
  cases hp : s.purge.phase with
  | armed =>
    dsimp only
    split
    · exact h.enterPhase (by simp [hp]) (State.phaseFor_ne_idle s) hs
    · exact hs
  | flushing =>
    dsimp only
    split
    · exact h.enterPhase (by simp [hp]) (by decide) hs
    · exact hs
  | deferred => exact hs
  | idle => exact hs

protected theorem purgeHeavy (h : KeptFrom p₀ reads P) (hs : P s) : P (purgeHeavy s) := by
  unfold Machine.purgeHeavy
  cases hp : s.purge.phase with
  | flushing =>
    dsimp only
    split
    · exact h.enterPhase (by simp [hp]) (by decide) hs
    · exact hs
  | deferred =>
    dsimp only
    split
    · exact hs
    · exact h.enterPhase (by simp [hp]) (State.phaseFor_ne_idle s) hs
  | armed => exact hs
  | idle => exact hs

protected theorem crewReturn (h : KeptFrom p₀ reads P) (start : s.purge.phase = .idle → p₀.phase = .idle) (hs : P s) :
    P (crewReturn s) := by
  unfold Machine.crewReturn
  split
  · next idle => exact h.startPurge (start idle.1) _ _ hs
  · exact hs

protected theorem requestPurge (h : KeptFrom p₀ reads P) (start : s.purge.phase = .idle → p₀.phase = .idle)
    (n : Station) (sc : PurgeScope) (hs : P s) : P (requestPurge n sc s) := by
  unfold Machine.requestPurge
  split
  · next idle => exact h.startPurge (start idle) _ _ hs
  · next under_way =>
    split
    · exact h.widenPurge under_way hs
    · exact hs

/-! ## Limits and the count -/

protected theorem armedLimit (h : KeptFrom p₀ reads P) (hs : P s) : P (armedLimit s) := by
  unfold Machine.armedLimit
  split
  · exact h.endPurge _ hs
  · exact hs

protected theorem deferredLimit (h : KeptFrom p₀ reads P) (hs : P s) : P (deferredLimit s) := by
  unfold Machine.deferredLimit
  split
  · exact h.endPurge _ hs
  · exact hs

protected theorem flushingLimit (h : KeptFrom p₀ reads P) (hs : P s) : P (flushingLimit s) := by
  unfold Machine.flushingLimit
  split
  · exact h.endPurge _ hs
  · exact hs

protected theorem purgeLimits (h : KeptFrom p₀ reads P) (hs : P s) : P (purgeLimits s) :=
  h.flushingLimit (h.fallbackTest (h.deferredLimit (h.armedLimit hs)))

protected theorem countSample (h : KeptFrom p₀ reads P) (under_way : s.purge.phase ≠ .idle) (units : Nat) (hs : P s) :
    P (countSample units s) := by
  have counted : P (s.setPurge (s.purge.count units)) := h.setPurge (.of_count under_way units) hs
  unfold Machine.countSample
  split
  · exact h.endPurge _ counted
  · exact counted

protected theorem flowSample (h : KeptFrom p₀ reads P) (previous : Option (BitVec 32)) (time : BitVec 32) (hs : P s) :
    P (flowSample previous time s) := by
  unfold Machine.flowSample
  split
  · next flushing =>
    split
    · exact h.countSample (by simp [flushing]) _ hs
    · exact h.fallbackTest hs
  · exact hs

/-! ## Events -/

protected theorem purgeEvent (h : KeptFrom p₀ reads P) {f : State → State} (hf : P (f s)) : P (purgeEvent f s) := by
  unfold Machine.purgeEvent
  split
  · exact hf
  · exact h.resolve (h.markAll _ hf)

protected theorem markPurge (h : KeptFrom p₀ reads P) (hs : P s) : P (markPurge s) :=
  h.purgeEvent (h.purgeLimits (h.setPurge (Purge.tick_moves p₀ s.purge) hs))

end KeptFrom

end Sys2Proof.Machine
end

section
/-! The Hold Regulator's record, and the events of the vehicle, of the stations and of the cells they send, for a
property that the primitive changes keep. -/

namespace Sys2Proof.Machine

open Sys2Proof

/-! ## The regulator -/

theorem doorHoldOutput_le (doorLevel cap : Nat) : doorHoldOutput doorLevel cap ≤ cap := by
  unfold doorHoldOutput; split <;> omega

theorem limitOutput_le (u : Int) (floor cap : Nat) : limitOutput u floor cap ≤ cap := by
  unfold limitOutput; split <;> [skip; split <;> [skip; split]] <;> omega

theorem clampInt_range {lo hi : Int} (h : lo ≤ hi) (v : Int) : lo ≤ clampInt lo hi v ∧ clampInt lo hi v ≤ hi := by
  unfold clampInt; split <;> [skip; split] <;> omega

namespace Regulator

variable {r : Regulator}

theorem takeDoors_integral (doorOpen available : Bool) (level : Nat) :
    (r.takeDoors doorOpen available level).integral = r.integral := by
  unfold takeDoors; cases r.mode <;> dsimp only <;> split <;> rfl

theorem takeDoorLevel_integral (level : Nat) : (r.takeDoorLevel level).integral = r.integral := by
  unfold takeDoorLevel; split <;> rfl

theorem losePressure_integral : r.losePressure.integral = r.integral := by
  unfold losePressure; split <;> rfl

theorem takeFresh_integral (kp ki : Nat) (p : Int) (h : r.IntegralSound) : (r.takeFresh kp ki p).IntegralSound := by
  have clamped : (r.update kp ki p).IntegralSound := clampInt_range (by decide) _
  unfold takeFresh
  split
  · exact clamped
  · exact clamped
  · exact h
  · exact h

theorem takeDoors_levels (doorOpen available : Bool) (level : Nat) (h : r.LevelsSound) :
    (r.takeDoors doorOpen available level).LevelsSound := by
  have lowered : LevelsSound { r with mode := .doorHold, output := doorHoldOutput level r.cap } :=
    ⟨(doorHoldOutput_le _ _).trans h.2, h.2⟩
  unfold takeDoors
  cases r.mode <;> dsimp only
  · exact h
  · split
    · exact lowered
    · exact h
  · split <;> exact h
  · split
    · exact lowered
    · exact h

theorem takeDoorLevel_levels (level : Nat) (h : r.LevelsSound) : (r.takeDoorLevel level).LevelsSound := by
  unfold takeDoorLevel
  split
  · exact ⟨(doorHoldOutput_le _ _).trans h.2, h.2⟩
  · exact h

theorem losePressure_levels (h : r.LevelsSound) : r.losePressure.LevelsSound := by
  unfold losePressure; split <;> exact h

theorem takeFresh_levels (kp ki : Nat) (p : Int) (h : r.LevelsSound) : (r.takeFresh kp ki p).LevelsSound := by
  have updated : (r.update kp ki p).LevelsSound := ⟨(limitOutput_le _ _ _).trans h.2, h.2⟩
  unfold takeFresh
  split
  · exact updated
  · exact updated
  · exact h
  · exact h

/-- Judging the Shortfall timers leaves what the control law reads (R64). -/
theorem judgeShortfall_kept (raised : Bool) (p : Int) :
    (r.judgeShortfall raised p).1.integral = r.integral ∧ (r.judgeShortfall raised p).1.output = r.output ∧
      (r.judgeShortfall raised p).1.cap = r.cap := by
  unfold judgeShortfall; split <;> exact ⟨rfl, rfl, rfl⟩

end Regulator

namespace KeptFrom

variable {p₀ : Purge} {reads : List Part} {P : State → Prop} {s : State}

/-! ## The vehicle -/

protected theorem handDoors (h : KeptFrom p₀ reads P) (hs : P s) : P (handDoors s) :=
  h.withRegulator (fun sound => by rwa [Regulator.IntegralSound, Regulator.takeDoors_integral])
    (fun sound => Regulator.takeDoors_levels _ _ _ sound) hs

protected theorem handPurge (h : KeptFrom p₀ reads P) (before : PerDoor Bool) {crew : Bool}
    (start : crew = true → s.purge.phase = .idle → p₀.phase = .idle) (hs : P s) : P (handPurge before crew s) := by
  refine h.purgeEvent (h.purgeDoors before ?_)
  split
  · next yes => exact h.crewReturn (start yes) hs
  · exact hs

protected theorem handOnVehicle (h : KeptFrom p₀ reads P) (turn : Turn) (trigger : Bool) {crew : Bool} (v : Vehicle)
    (start : crew = true → s.purge.phase = .idle → p₀.phase = .idle) (hs : P s) :
    P (handOnVehicle turn trigger crew v s) := by
  unfold Machine.handOnVehicle
  split
  · next same => exact h.resolveIf _ (h.setTimers same hs)
  · have put := h.putVehicle v hs
    cases turn
    · exact h.handPurge _ (by simpa using start) (h.handDoors (h.resolve put))
    · exact h.resolve (h.handPurge _ (by simpa using start) (h.handDoors put))

protected theorem settleVehicle (h : KeptFrom p₀ reads P) (turn : Turn) (trigger : Bool) (before : State) (hs : P s) :
    P (settleVehicle turn trigger before s) := by
  unfold Machine.settleVehicle
  split
  · exact h.resolveIf _ hs
  · exact h.handOnVehicle turn trigger _ (fun no => by cases no) hs

protected theorem tickDoors (h : KeptFrom p₀ reads P) (hs : P s) : P (tickDoors s) := h.setTimers rfl hs

/-! ## The stations -/

protected theorem arrive (h : KeptFrom p₀ reads P) (n : Station) (hs : P s) : P (arrive n s) :=
  h.settleVehicle _ _ s (h.refresh n hs)

protected theorem removeEntries (h : KeptFrom p₀ reads P) (n : Station) (hs : P s) : P (removeEntries n s) :=
  h.filterTable _ hs

protected theorem dropStation (h : KeptFrom p₀ reads P) (n : Station) (hs : P s) : P (dropStation n s) :=
  h.releaseStream n (h.discardBuffer n (h.removeEntries n hs))

protected theorem quietStep (h : KeptFrom p₀ reads P) (n : Station) (hs : P s) : P (quietStep n s) := by
  unfold Machine.quietStep
  split
  · next due =>
    refine h.of_touches (ps := [.stations, .table]) (fun p hp => ?_) (h.onQuiet · n s due hs) hs
    cases p <;> first | exact absurd (by decide) hp | simp [Part.same]
  · exact hs

protected theorem lostStep (h : KeptFrom p₀ reads P) (n : Station) (hs : P s) : P (lostStep n s) := by
  unfold Machine.lostStep
  split
  · next due =>
    refine h.releaseStream n (h.discardBuffer n
      (h.of_touches (ps := [.stations, .table]) (fun p hp => ?_) (h.onLost · n s due hs) hs))
    cases p <;> first | exact absurd (by decide) hp | simp [Part.same]
  · exact hs

protected theorem quietOne (h : KeptFrom p₀ reads P) (turn : Turn) (n : Station) (hs : P s) : P (quietOne turn s n) := by
  unfold Machine.quietOne
  split
  · exact h.quietStep n hs
  · exact h.settleVehicle _ _ _ (h.quietStep n hs)

protected theorem lostOne (h : KeptFrom p₀ reads P) (turn : Turn) (n : Station) (hs : P s) : P (lostOne turn s n) :=
  h.settleVehicle _ _ _ (h.lostStep n hs)


protected theorem superviseMark (h : KeptFrom p₀ reads P) (turn : Turn) (hs : P s) : P (superviseMark turn s) := by
  have counted : P (advanceCounts s) :=
    h.of_touches (ps := [.stations]) (fun p hp => by cases p <;> first | rfl | exact absurd (by decide) hp)
      (h.onCounts · s hs) hs
  exact List.foldlRecOn _ _ (List.foldlRecOn _ _ counted fun _ hu n _ => h.quietOne turn n hu)
    fun _ hu n _ => h.lostOne turn n hu

/-! ## Cells -/


protected theorem takeCell (h : KeptFrom p₀ reads P) {n : Station} {k : Byte} {perm : Permission}
    {serve : State → Served}
    (hserve : s.receives n = true → perm.allows (s.slot n).cls = true → P (arrive n s) →
      P (serve (arrive n s)).state) (hs : P s) : P (takeCell n k perm serve s) := by
  cases hr : s.receives n with
  | false => rwa [takeCell_of_not_receives hr]
  | true =>
    rw [takeCell_of_receives hr]
    split
    · next allowed => exact h.setWindow n _ (hserve hr (by simpa using allowed) (h.arrive n hs))
    · exact h.setWindow n _ (h.arrive n hs)

protected theorem takeIdle (h : KeptFrom p₀ reads P) (n : Station) (hs : P s) : P (takeIdle n s) := by
  unfold Machine.takeIdle
  split
  · exact h.setWindow n _ (h.arrive n hs)
  · exact hs

protected theorem takeUnknown (h : KeptFrom p₀ reads P) (n : Station) (k : Byte) (hs : P s) : P (takeUnknown n k s) := by
  unfold Machine.takeUnknown
  split
  · exact h.setWindow n _ (h.arrive n hs)
  · exact hs

end KeptFrom

/-! ## The refreshed station -/

theorem modeOf_ne_disabled_of_receives {n : Station} {s : State} (h : s.receives n = true) :
    s.modeOf n ≠ .disabled := by
  simp only [State.receives, Bool.and_eq_true, decide_eq_true_eq] at h
  exact h.1.2

@[simp] theorem arrive_stations (n : Station) (s : State) : (arrive n s).stations = (refresh n s).stations := by
  simp [arrive]

/-- A refresh makes every station but a Disabled one Live, with a count of 0 (R4). -/
theorem refresh_stations {n : Station} {s : State} (h : s.modeOf n ≠ .disabled) :
    (refresh n s).stations = s.stations.set n ⟨.live, 0⟩ := by
  unfold refresh
  cases hm : s.modeOf n <;> first | exact absurd hm h | simp [holdEntries, setStation, markStation]

theorem arrive_modeOf {n : Station} {s : State} (h : s.receives n = true) : (arrive n s).modeOf n = .live := by
  simp [State.modeOf, refresh_stations (modeOf_ne_disabled_of_receives h)]

namespace KeptFrom

variable {p₀ : Purge} {reads : List Part} {P : State → Prop} {s : State}

/-! ## The requests that change the table -/

protected theorem applyDemand (h : KeptFrom p₀ reads P) {n : Station} {d : Demand} (live : s.modeOf n = .live)
    (scope : d.within (s.slot n).scope = true) (level : ∀ z l, d = .fan z (.level l) → l ≤ 8) (code : AnswerCode)
    (hs : P s) : P (applyDemand n d code s).state := by
  unfold Machine.applyDemand
  split
  · exact hs
  · next room =>
    refine h.resolve (h.of_touches (ps := [.table]) (fun p hp => ?_)
      (h.onDemand · n d s live (by simpa using room) scope level hs) hs)
    cases p <;> first | rfl | exact absurd (by decide) hp

protected theorem serveSetpoint (h : KeptFrom p₀ reads P) {n : Station} (live : s.modeOf n = .live) (zone value : Word)
    (hs : P s) : P (serveSetpoint n zone value s).state := by
  unfold Machine.serveSetpoint
  split
  · exact hs
  · split
    · next z _ covers => exact h.applyDemand (d := .setpoint z _) live covers (fun _ _ no => by cases no) _ hs
    · exact hs

protected theorem serveFan (h : KeptFrom p₀ reads P) {n : Station} (live : s.modeOf n = .live) (zone value : Word)
    (hs : P s) : P (serveFan n zone value s).state := by
  unfold Machine.serveFan
  split
  · exact hs
  · split
    · next z _ covers =>
      refine h.applyDemand (d := .fan z _) live covers (fun z l eq => ?_) _ hs
      have level : (FanChoice.ofWord value).1 = .level l := (Demand.fan.inj eq).2
      unfold FanChoice.ofWord at level
      split at level
      · cases level
      · cases level
        exact (clampNat_spec 1 8 value.toNat (by decide)).2.1
    · exact hs

protected theorem serveMode (h : KeptFrom p₀ reads P) {n : Station} (live : s.modeOf n = .live) (mode : Word)
    (hs : P s) : P (serveMode n mode s).state := by
  unfold Machine.serveMode
  split
  · exact hs
  · exact h.applyDemand live rfl (fun _ _ no => by cases no) _ hs

protected theorem serveWithdrawKey (h : KeptFrom p₀ reads P) (n : Station) (k : Key) (hs : P s) :
    P (serveWithdrawKey n k s).state := by
  unfold Machine.serveWithdrawKey
  rw [withdrawKey_eq]
  exact h.resolveIf _ (h.filterTable _ hs)

protected theorem serveWithdraw (h : KeptFrom p₀ reads P) (n : Station) (kind zone : Word) (hs : P s) :
    P (serveWithdraw n kind zone s).state := by
  unfold Machine.serveWithdraw
  split
  · exact hs
  · exact h.serveWithdrawKey n _ hs

protected theorem serveShelter (h : KeptFrom p₀ reads P) {n : Station} (live : s.modeOf n = .live) (code : Word)
    (hs : P s) : P (serveShelter n code s).state := by
  unfold Machine.serveShelter
  split
  · exact hs
  · exact h.applyDemand live rfl (fun _ _ no => by cases no) _ hs
  · exact h.serveWithdrawKey n _ hs

protected theorem serveWithdrawAll (h : KeptFrom p₀ reads P) (n : Station) (hs : P s) :
    P (serveWithdrawAll n s).state := h.resolveIf _ (h.removeEntries n hs)

protected theorem serveRelease (h : KeptFrom p₀ reads P) (n : Station) (hs : P s) : P (serveRelease n s).state := by
  unfold Machine.serveRelease
  split
  · exact hs
  · exact h.resolveIf _ (h.setResolver _ (h.filterTable _ hs))

/-! ## The other requests -/

protected theorem servePurge (h : KeptFrom p₀ reads P) (start : s.purge.phase = .idle → p₀.phase = .idle)
    (n : Station) (scope : Word) (hs : P s) : P (servePurge n scope s).state := by
  unfold Machine.servePurge
  split
  · exact hs
  · split
    · exact h.purgeEvent (h.requestPurge start n _ hs)
    · exact hs

protected theorem serveCancel (h : KeptFrom p₀ reads P) (n : Station) (hs : P s) : P (serveCancel n s).state := by
  unfold Machine.serveCancel
  split
  · exact hs
  · split
    · exact h.purgeEvent (h.endPurge _ hs)
    · exact hs

protected theorem serveClearLatches (h : KeptFrom p₀ reads P) (n : Station) (hs : P s) :
    P (serveClearLatches n s).state := by
  unfold Machine.serveClearLatches
  split
  · exact hs
  · exact h.clearLatches hs

protected theorem serveReadout (h : KeptFrom p₀ reads P) (n : Station) (start count : Word) (hs : P s) :
    P (serveReadout n start count s).state := by
  unfold Machine.serveReadout
  split
  · exact hs
  · split
    · exact hs
    · exact h.setMarks _ (h.setBuffers _ hs)

protected theorem serveJoin (h : KeptFrom p₀ reads P) (n : Station) (mask decimation : Word) (hs : P s) :
    P (serveJoin n mask decimation s).state := by
  have cleared := h.setDetached n false hs
  unfold Machine.serveJoin joinStream
  split
  · exact cleared
  · split
    · exact cleared
    · exact h.grantStream n _ _ (h.detachHolder n cleared)

protected theorem serveLeave (h : KeptFrom p₀ reads P) (n : Station) (hs : P s) : P (serveLeave n s).state :=
  h.releaseStream n (h.setDetached n false hs)

protected theorem serveRestart (h : KeptFrom p₀ reads P) (n : Station) (hs : P s) : P (serveRestart n s).state :=
  h.resolveIf _ (h.markStation n (h.setDetached n false (h.dropStation n hs)))

protected theorem serveStore (h : KeptFrom p₀ reads P) (hs : P s) : P (serveStore s).state := by
  unfold Machine.serveStore
  split
  · split
    · exact hs
    · refine h.setStore (fun ⟨working, stored, _⟩ => ⟨working, stored, fun w hw => ?_⟩) hs
      cases hw
      exact working
  · exact hs

protected theorem takeVehicleReport (h : KeptFrom s.purge reads P) (n : Station) (fields doors : Word) (turn : Turn)
    (hs : P s) : P (takeVehicleReport n fields doors turn s) := by
  unfold Machine.takeVehicleReport
  split
  · split
    · exact h.setWindow n _ (h.handOnVehicle turn _ _ (fun _ => by simp) (h.refresh n hs))
    · exact h.setWindow n _ (h.arrive n hs)
  · exact hs

end KeptFrom

end Sys2Proof.Machine
end

section
/-! The scan and the settings, for a property that the primitive changes keep. -/

namespace Sys2Proof.Machine

open Sys2Proof

/-- A capture leaves at most 48 records in the queue (R177). -/
theorem enqueueTrend_length (begun : Bool) {queue : List TrendRecord} (r : TrendRecord) (h : queue.length ≤ 48) :
    (enqueueTrend begun queue r).length ≤ 48 := by
  have marked (l : List TrendRecord) : (markOverrun l).length = l.length := by cases l <;> rfl
  unfold enqueueTrend
  split
  · rw [List.length_append, List.length_singleton]; omega
  · split
    · simp only [List.length_append, List.length_take, marked, List.length_drop, List.length_singleton]; omega
    · simp only [List.length_append, marked, List.length_drop, List.length_singleton]; omega

namespace KeptFrom

variable {p₀ : Purge} {reads : List Part} {P : State → Prop} {s : State}

/-! ## Samples -/

/-- A condition judged by a sample, with its pair of timers (R126). -/
protected theorem judged (h : KeptFrom p₀ reads P) {c : Condition} (hc : c ∉ ownedConditions) (v : Bool)
    (t : SceneTimers) (hs : P s) : P (setCondition c v (s.setScene t)) :=
  h.setCondition v hc (h.setScene t hs)

protected theorem putCabCo (h : KeptFrom p₀ reads P) (f r : TimerPair) (v : Bool) (hs : P s) :
    P (putCabCo f r v s) := by
  refine h.of_touches (ps := [.scene, .conditions, .alert, .marks]) (fun p hp => ?_) (h.onCabCo · f r v s hs) hs
  cases p <;> first | exact absurd (by decide) hp | simp [Part.same]

protected theorem evaluateScene (h : KeptFrom p₀ reads P) (c : CalChannel) (hs : P s) : P (evaluateScene c s) := by
  cases c with
  | outsideSmoke => exact h.judged (by decide) _ _ (h.judged (by decide) _ _ hs)
  | outsideCo => exact h.judged (by decide) _ _ hs
  | frontCo => exact h.putCabCo _ _ _ hs
  | rearCo => exact h.putCabCo _ _ _ hs
  | filterDrop => exact h.judged (by decide) _ _ hs
  | supply => exact h.judged (by decide) _ _ hs
  | cabPressure | intakeFlow | frontTemp | rearTemp | coolantTemp => exact hs

protected theorem regulateFresh (h : KeptFrom p₀ reads P) (p : Int) (hs : P s) : P (regulateFresh p s) := by
  have updated := h.withRegulator (Regulator.takeFresh_integral s.settings.kp s.settings.ki p)
    (Regulator.takeFresh_levels s.settings.kp s.settings.ki p) hs
  unfold Machine.regulateFresh
  dsimp only
  split
  · obtain ⟨integral, output, cap⟩ := Regulator.judgeShortfall_kept
      (r := (Machine.withRegulator (s.reg.takeFresh s.settings.kp s.settings.ki p) s).reg) _ p
    exact h.setCondition _ (by decide) (h.setRegTimers integral output cap updated)
  · exact updated

protected theorem losePressure (h : KeptFrom p₀ reads P) (hs : P s) : P (withRegulator s.reg.losePressure s) :=
  h.withRegulator (fun sound => by rwa [Regulator.IntegralSound, Regulator.losePressure_integral])
    Regulator.losePressure_levels hs

protected theorem regulate (h : KeptFrom p₀ reads P) (hs : P s) : P (regulate s) := by
  unfold Machine.regulate
  split
  · exact h.regulateFresh _ hs
  · exact hs
  · exact h.losePressure hs
  · exact h.losePressure hs

protected theorem handSample (h : KeptFrom p₀ reads P) (c : CalChannel) (hs : P s) : P (handSample c s) := by
  unfold Machine.handSample
  split
  · exact h.regulate (h.evaluateScene c hs)
  · exact h.evaluateScene c hs

protected theorem updateLatch (h : KeptFrom p₀ reads P) (before : Bool) (hs : P s) : P (updateLatch before s) := by
  unfold Machine.updateLatch
  split
  · exact hs
  · split
    · split
      · exact h.setResolver _ hs
      · exact hs
    · exact h.setResolver _ hs

protected theorem resolveEvent (h : KeptFrom p₀ reads P) (before : Conditions) (trigger : Bool) (hs : P s) :
    P (resolveEvent before trigger s) := by
  unfold Machine.resolveEvent
  split
  · exact h.resolve hs
  · exact hs

protected theorem purgeSample (h : KeptFrom p₀ reads P) (c : CalChannel) (heavy : Bool)
    (previous : Option (BitVec 32)) (time : BitVec 32) (hs : P s) : P (purgeSample c heavy previous time s) := by
  refine h.purgeEvent ?_
  split
  · exact h.flowSample previous time hs
  · split
    · exact hs
    · exact h.purgeHeavy hs

protected theorem sampleEnd (h : KeptFrom p₀ reads P) (c : Channel) {raw : Nat} (code : raw ≤ 16383) (now : BitVec 32)
    (turn : Turn) (hs : P s) : P (sampleEnd c raw now turn s) := by
  have checked : P (judgeCheck c (sampleGood c raw false) s) := by
    unfold judgeCheck
    split
    · exact hs
    all_goals
      dsimp only
      split
      · exact h.setScan (sc := { s.scan with checkSeen := _, checkBad := _ }) rfl hs
      · exact h.setCondition _ (by decide) (h.setScan (sc := { s.scan with checkSeen := _, checkBad := _ }) rfl hs)
  have recorded := h.of_touches (ps := [.record, .conditions, .alert, .marks]) (fun p hp => by
    cases p <;> first | exact absurd (by decide) hp | simp [Part.same]) (h.onSample · c raw now _ code checked) checked
  unfold Machine.sampleEnd
  cases c with
  | cal k =>
    refine shareEvent_keeps (P := P) ?_ ?_ turn (h.updateLatch _ (h.handSample k recorded))
    · exact fun _ => h.resolveEvent _ _
    · exact fun _ => h.purgeSample _ _ _ _
  | reference => exact h.resolveEvent _ _ recorded
  | ground => exact h.resolveEvent _ _ recorded

/-! ## Passes -/

protected theorem captureTrend (h : KeptFrom p₀ reads P) (hs : P s) : P (captureTrend s) := by
  unfold Machine.captureTrend
  split
  · exact hs
  · next holder held =>
    split
    · exact h.setTrend (fun sound => ⟨enqueueTrend_length _ _ sound.1, fun none => by simp [held] at none⟩) hs
    · exact hs

protected theorem endPass (h : KeptFrom p₀ reads P) (hs : P s) : P (endPass s) := by
  have judged : P (judgeDrift s) := by
    unfold judgeDrift
    split
    · exact h.resolveEvent _ _ (h.setCondition _ (by decide) hs)
    · exact hs
  unfold Machine.endPass trendPassEnd
  split
  · exact judged
  · exact h.captureTrend (h.setTrend (fun sound => sound) judged)

protected theorem takeStaged (h : KeptFrom p₀ reads P) (turn : Turn) (hs : P s) : P (takeStaged turn s) := by
  unfold Machine.takeStaged
  split
  · exact hs
  · have listed := h.of_touches (ps := [.scan, .record, .conditions, .alert, .marks]) (fun p hp => by
      cases p <;> first | exact absurd (by decide) hp | simp [Part.same])
      (h.onList · (stagedList s.settings) s hs) hs
    unfold adoptList
    refine shareEvent_keeps (P := P) ?_ (fun _ hu => ?_) turn
      (List.foldlRecOn _ _ listed fun _ hu k _ => h.handSample k hu)
    · exact fun _ => h.resolveEvent _ _
    · split
      · exact h.purgeEvent (h.fallbackTest hu)
      · exact hu

protected theorem beginPass (h : KeptFrom p₀ reads P) (now : BitVec 32) (turn : Turn) (hs : P s) :
    P (beginPass now turn s) := h.setScan rfl (h.takeStaged turn hs)

protected theorem nextPass (h : KeptFrom p₀ reads P) (now : BitVec 32) (turn : Turn) (hs : P s) :
    P (nextPass now turn s) := h.beginPass now turn (h.setScan (sc := { s.scan with pass := _ }) rfl hs)

protected theorem conversionEnd (h : KeptFrom p₀ reads P) (raw : BitVec 14) (turn : Turn) (hs : P s) :
    P (conversionEnd raw turn s) := by
  unfold Machine.conversionEnd
  split
  · have sampled (c : Channel) (now : BitVec 32) :=
      h.sampleEnd c (raw := raw.toNat) (by omega) now turn (h.advanceTo now hs)
    unfold continueWalk
    dsimp only
    split
    · exact h.setScan rfl (sampled _ _)
    · exact h.nextPass _ _ (h.endPass (sampled _ _))
  · exact hs
  · exact hs

protected theorem emptyPassEnd (h : KeptFrom p₀ reads P) (turn : Turn) (hs : P s) : P (emptyPassEnd turn s) := by
  unfold Machine.emptyPassEnd
  split
  · exact h.nextPass _ _ (h.endPass (h.advanceTo _ hs))
  · exact hs
  · exact hs

protected theorem restartScan (h : KeptFrom p₀ reads P) (hs : P s) : P (restartScan s) := by
  unfold Machine.restartScan
  split
  · exact h.beginPass _ _ hs
  · exact hs

/-! ## Settings -/

/-- A write of a setting whose working copy is all that it changes at once. -/
protected theorem written (h : KeptFrom p₀ reads P) (st : Setting) (value : Word)
    (not_enabled : ∀ n, st ≠ .slotEnabled n) (not_class : ∀ n, st ≠ .slotClass n) (not_scope : ∀ n, st ≠ .slotScope n)
    (not_mask : st ≠ .alertMask) (hs : P s) : P (s.setSettings (writtenSettings s.settings st value)) := by
  refine h.setSettings (fun sound => ?_) ?_ (fun n => ?_) hs
  · rw [settingsInRange_iff] at sound ⊢
    exact sound.written st value not_enabled not_class
  · cases st with
    | alertMask => exact absurd rfl not_mask
    | window w => cases w <;> rfl
    | plan p => cases p <;> rfl
    | gain k => cases k <;> rfl
    | purge p => cases p <;> rfl
    | scan f => cases f <;> rfl
    | calibration c k => cases k <;> rfl
    | level l => cases l <;> rfl
    | time t => cases t <;> rfl
    | feedbackEnd a e => cases e <;> rfl
    | _ => rfl
  · cases st with
    | slotEnabled m => exact absurd rfl (not_enabled m)
    | slotClass m => exact absurd rfl (not_class m)
    | slotScope m => exact absurd rfl (not_scope m)
    | slotRank m => by_cases hm : n = m <;> simp [writtenSettings, State.slot, hm]
    | window w => cases w <;> exact ⟨rfl, rfl⟩
    | plan p => cases p <;> exact ⟨rfl, rfl⟩
    | gain k => cases k <;> exact ⟨rfl, rfl⟩
    | purge p => cases p <;> exact ⟨rfl, rfl⟩
    | scan f => cases f <;> exact ⟨rfl, rfl⟩
    | calibration c k => cases k <;> exact ⟨rfl, rfl⟩
    | level l => cases l <;> exact ⟨rfl, rfl⟩
    | time t => cases t <;> exact ⟨rfl, rfl⟩
    | feedbackEnd a e => cases e <;> exact ⟨rfl, rfl⟩
    | _ => exact ⟨rfl, rfl⟩

protected theorem disableSlot (h : KeptFrom p₀ reads P) {n : Station} (enabled : (s.slot n).enabled = true)
    (hs : P s) : P (disableSlot n s) := by
  refine h.settleVehicle _ _ _ (h.setLine _ _ (h.releaseStream n (h.discardBuffer n
    (h.of_touches (ps := [.settings, .stations, .table]) (fun p hp => ?_) (h.onDisable · n s enabled hs) hs))))
  cases p <;> first | rfl | exact absurd (by decide) hp

protected theorem enableSlot (h : KeptFrom p₀ reads P) {n : Station} (disabled : (s.slot n).enabled = false)
    (alone : (s.slot n).cls = .vehicle → s.otherVehicle n = false) (hs : P s) : P (enableSlot n s) := by
  have ranges (sound : SettingsInRange s.settings) :
      SettingsInRange (setSlot n { s.slot n with enabled := true } s).settings := by
    rw [settingsInRange_iff] at sound ⊢
    exact sound.withSlot n _ (sound.rank n) fun _ vehicle => .inr (otherVehicle_eq_false (alone vehicle))
  refine h.settleVehicle _ _ _
    (h.of_touches (ps := [.settings, .stations]) (fun p hp => ?_) (h.onEnable · n s disabled ranges hs) hs)
  cases p <;> first | rfl | exact absurd (by decide) hp

protected theorem writeSlotEnabled (h : KeptFrom p₀ reads P) {n : Station} {value : Word} {w : Written}
    (hw : writeSlotEnabled n value s = some w) (hs : P s) : P w.state := by
  unfold Machine.writeSlotEnabled at hw
  split at hw
  · cases hw
  · next b _ =>
    split at hw
    · cases hw
    · next alone =>
      cases hw
      dsimp only [codedWrite]
      split
      · exact hs
      · next differs =>
        cases b with
        | true =>
          refine h.enableSlot (by simpa using Ne.symm differs) (fun vehicle => ?_) hs
          simpa [vehicle] using alone
        | false => exact h.disableSlot (by simpa using Ne.symm differs) hs

protected theorem changeClass (h : KeptFrom p₀ reads P) {n : Station} {c : StationClass}
    (alone : c = .vehicle → (s.slot n).enabled = true → s.otherVehicle n = false) (hs : P s) :
    P (changeClass n c s) := by
  have changed : P (setSlot n { s.slot n with cls := c } s) := by
    refine h.setSettings (fun sound => ?_) rfl (fun m => ?_) hs
    · rw [settingsInRange_iff] at sound ⊢
      exact sound.withSlot n _ (sound.rank n) fun enabled vehicle =>
        .inr (otherVehicle_eq_false (alone vehicle enabled))
    · by_cases hm : m = n <;> simp [State.slot, hm]
  unfold Machine.changeClass
  dsimp only
  split
  · refine h.settleVehicle _ _ _ ?_
    unfold detachStation
    split
    · exact h.setDetached _ _ (h.releaseStream _ (h.removeEntries n changed))
    · exact h.removeEntries n changed
  · exact h.settleVehicle _ _ _ changed

protected theorem writeSlotClass (h : KeptFrom p₀ reads P) {n : Station} {value : Word} {w : Written}
    (hw : writeSlotClass n value s = some w) (hs : P s) : P w.state := by
  unfold Machine.writeSlotClass at hw
  split at hw
  · cases hw
  · split at hw
    · cases hw
    · next alone =>
      cases hw
      dsimp only [codedWrite]
      split
      · exact hs
      · exact h.changeClass (fun vehicle enabled => by simpa [vehicle, enabled] using alone) hs

protected theorem writeSlotRank (h : KeptFrom p₀ reads P) (n : Station) (value : Word) (hs : P s) :
    P (writeSlotRank n value s).state := by
  unfold Machine.writeSlotRank clampWrite
  dsimp only
  split
  · exact hs
  · exact h.resolveIf _ (h.written (.slotRank n) value nofun nofun nofun nofun hs)

protected theorem writeSlotScope (h : KeptFrom p₀ reads P) {n : Station} {value : Word} {w : Written}
    (hw : writeSlotScope n value s = some w) (hs : P s) : P w.state := by
  unfold Machine.writeSlotScope at hw
  split at hw
  · cases hw
  · next sc _ =>
    cases hw
    have changed := h.of_touches (ps := [.settings, .table]) (fun p hp => by
      cases p <;> first | rfl | exact absurd (by decide) hp) (h.onScope · n sc s hs) hs
    dsimp only [codedWrite]
    split
    · exact hs
    · unfold changeScope
      dsimp only
      split
      · next enabled =>
        rw [if_pos enabled] at changed
        exact h.resolveIf _ changed
      · next disabled =>
        rw [if_neg disabled] at changed
        exact changed

protected theorem writePlan (h : KeptFrom p₀ reads P) {p : PlanSetting} {value : Word} {w : Written}
    (hw : writePlan p value s = some w) (hs : P s) : P w.state := by
  have plain := h.written (.plan p) value nofun nofun nofun nofun hs
  cases p with
  | autoShelter =>
    simp only [Machine.writePlan, switchWrite, Option.map_eq_some_iff] at hw
    obtain ⟨b, code, rfl⟩ := hw
    simp only [writtenSettings, code, Option.getD_some] at plain
    cases b
    · exact h.resolve (h.setResolver _ plain)
    · exact h.resolve plain
  | shelterOnPump =>
    simp only [Machine.writePlan, switchWrite, Option.map_eq_some_iff] at hw
    obtain ⟨b, code, rfl⟩ := hw
    simp only [writtenSettings, code, Option.getD_some] at plain
    exact h.resolve plain
  | defaultSetpoint | shelterTarget | shelterBase | shelterFloor | freshTarget | freshBase | freshFloor =>
    cases hw
    exact h.resolve plain

protected theorem writePurge (h : KeptFrom p₀ reads P) {p : PurgeSetting} {value : Word} {w : Written}
    (hw : writePurge p value s = some w) (hs : P s) : P w.state := by
  have plain := h.written (.purge p) value nofun nofun nofun nofun hs
  cases p with
  | autoPurge =>
    simp only [Machine.writePurge, Option.map_eq_some_iff] at hw
    obtain ⟨b, code, rfl⟩ := hw
    simp only [writtenSettings, code, Option.getD_some] at plain
    exact plain
  | frontVolume | rearVolume | purgeChanges | fallbackFlush =>
    cases hw
    exact plain

protected theorem writeDoorMap (h : KeptFrom p₀ reads P) {d : Door} {value : Word} {w : Written}
    (hw : writeDoorMap d value s = some w) (hs : P s) : P w.state := by
  have plain := h.written (.doorMap d) value nofun nofun nofun nofun hs
  unfold Machine.writeDoorMap at hw
  split at hw
  · cases hw
  · next z code =>
    cases hw
    simp only [writtenSettings, code, Option.getD_some] at plain
    dsimp only [codedWrite]
    split
    · exact h.handOnVehicle _ _ _ (fun no => by cases no) plain
    · exact plain

protected theorem writeTime (h : KeptFrom p₀ reads P) (t : TimeSetting) (value : Word) (hs : P s) :
    P (writeTime t value s).state := by
  have plain := h.written (.time t) value nofun nofun nofun nofun hs
  cases t
  · exact h.blowerEvent (fun b hb => by simpa using hb.shortStep _) plain
  · exact plain

protected theorem writeSetting (h : KeptFrom p₀ reads P) {st : Setting} {value : Word} {w : Written}
    (hw : writeSetting st value s = some w) (hs : P s) : P w.state := by
  have plain (ne : ∀ n, st ≠ .slotEnabled n) (nc : ∀ n, st ≠ .slotClass n) (ns : ∀ n, st ≠ .slotScope n)
      (nm : st ≠ .alertMask) := h.written st value ne nc ns nm hs
  cases st with
  | slotEnabled n => exact h.writeSlotEnabled hw hs
  | slotClass n => exact h.writeSlotClass hw hs
  | slotRank n => cases hw; exact h.writeSlotRank n value hs
  | slotScope n => exact h.writeSlotScope hw hs
  | plan p => exact h.writePlan hw hs
  | purge p => exact h.writePurge hw hs
  | doorMap d => exact h.writeDoorMap hw hs
  | doorLevel =>
    cases hw
    refine h.withRegulator (fun sound => ?_) (Regulator.takeDoorLevel_levels _) (plain nofun nofun nofun nofun)
    rwa [Regulator.IntegralSound, Regulator.takeDoorLevel_integral]
  | scan f => cases hw; cases f <;> exact h.restartScan (plain nofun nofun nofun nofun)
  | alertMask => cases hw; exact h.updateAlert_mask value hs
  | level l => cases hw; cases l <;> exact h.watchBlowers (plain nofun nofun nofun nofun)
  | time t => cases hw; exact h.writeTime t value hs
  | window w => cases hw; cases w <;> exact plain nofun nofun nofun nofun
  | gain k => cases hw; cases k <;> exact plain nofun nofun nofun nofun
  | calibration c k => cases hw; cases k <;> exact plain nofun nofun nofun nofun
  | threshold t => cases hw; cases t <;> exact plain nofun nofun nofun nofun
  | feedbackEnd a e => cases hw; cases e <;> exact plain nofun nofun nofun nofun
  | releaseRank | returnTime => cases hw; exact plain nofun nofun nofun nofun

protected theorem serveWrite (h : KeptFrom p₀ reads P) (st : Setting) (value : Word) (hs : P s) :
    P (serveWrite st value s).state := by
  unfold Machine.serveWrite
  split
  · split
    · exact hs
    · next hw => exact h.markAll _ (h.writeSetting hw hs)
  · exact hs

protected theorem serveIndex (h : KeptFrom p₀ reads P) (index value : Word) (hs : P s) :
    P (serveIndex index value s).state := by
  unfold Machine.serveIndex
  split
  · split
    · exact hs
    · exact h.serveWrite _ value hs
  · exact hs

protected theorem completeStore (h : KeptFrom p₀ reads P) {w : Writing} (writing : s.store.writing = some w)
    (hs : P s) : P (completeStore w s) := by
  refine h.markAll _ (h.resolveIf _ (h.setCondition _ (by decide) (h.setStore (fun sound => ?_) (h.advanceTo _ hs))))
  obtain ⟨working, -, snapshot⟩ := sound
  refine ⟨working, fun g c eq => ?_, fun _ none => by cases none⟩
  cases eq
  exact snapshot w (by simpa using writing)

protected theorem tearStore (h : KeptFrom p₀ reads P) (hs : P s) : P (s.setStore s.store.tear) := by
  refine h.setStore (fun sound => ?_) hs
  cases hw : s.store.writing with
  | none => rwa [show s.store.tear = s.store by simp [Store.tear, hw]]
  | some w =>
    rw [show s.store.tear = ⟨.torn, s.store.shownCheck, none⟩ by simp [Store.tear, hw]]
    exact ⟨sound.1, by simp, by simp⟩

end KeptFrom

end Sys2Proof.Machine
end

section
/-! The Loop Port and every command: a property that the primitive changes keep, every command keeps. -/

namespace Sys2Proof.Machine

open Sys2Proof

namespace KeptFrom

variable {p₀ : Purge} {reads : List Part} {P : State → Prop} {s : State}

/-! ## The Loop Port -/

protected theorem frameMark (h : KeptFrom p₀ reads P) (fb : PerActuator Nat) (order : List MarkBlock) (turn : Turn)
    (hs : P s) : P (frameMark fb order turn s) := by
  have ticked : P (tickFrames (openFrame s)) :=
    h.setRegTimers rfl rfl rfl (h.setScene _ (h.tickDoors (h.setLoop _ hs)))
  refine List.foldlRecOn _ _ ticked fun u hu b _ => ?_
  cases b with
  | supervision => exact h.superviseMark turn hu
  | purge => exact h.markPurge hu
  | blowers => exact h.markBlowers hu
  | actuators => exact h.markActuators fb hu

protected theorem changeLoopFault (h : KeptFrom p₀ reads P) (v : Bool) (hs : P s) : P (changeLoopFault v s) :=
  h.resolve (h.setCondition v (by decide) (h.setLoop _ hs))

protected theorem frameMarkEnd (h : KeptFrom p₀ reads P) (heard : Readback) (hs : P s) : P (frameMarkEnd heard s) := by
  unfold Machine.frameMarkEnd goodMark badMark
  split
  · split
    · split
      · exact h.changeLoopFault _ hs
      · exact h.setLoop _ hs
    · exact h.setLoop _ hs
  · split
    · exact h.setLoop _ hs
    · split
      · exact h.changeLoopFault _ hs
      · exact h.setLoop _ hs

protected theorem transmit (h : KeptFrom p₀ reads P) (n : Station) (c : Cell) (run : Option RunKind) (hs : P s) :
    P (transmit n c run s) := h.setLine _ _ hs

protected theorem downlinkStart (h : KeptFrom p₀ reads P) (n : Station) (hs : P s) : P (downlinkStart n s) := by
  unfold Machine.downlinkStart
  split
  · exact hs
  · exact h.transmit _ _ _ hs
  · unfold startData
    split
    · exact h.transmit _ _ _ hs
    · unfold startStream
      split
      · split
        · exact h.transmit _ _ _ (h.setTrend (fun sound => sound) hs)
        · exact h.transmit _ _ _ hs
      · exact h.transmit _ _ _ hs
  · exact h.transmit _ _ _ hs

protected theorem advanceStream (h : KeptFrom p₀ reads P) (hs : P s) : P (advanceStream s) := by
  unfold Machine.advanceStream
  split
  · exact hs
  · next r rest queue =>
    split
    · refine h.setTrend (fun sound => ⟨?_, fun none => ?_⟩) hs
      · have := sound.1
        rw [queue, List.length_cons] at this
        exact Nat.le_of_succ_le this
      · have := sound.2 none
        rw [queue] at this
        cases this
    · exact h.setTrend (fun sound => sound) hs

protected theorem downlinkEnd (h : KeptFrom p₀ reads P) (n : Station) (hs : P s) : P (downlinkEnd n s) := by
  unfold Machine.downlinkEnd
  split
  · exact hs
  · next a _ =>
    have cleared := h.setLine n { s.loop.lines.get n with onAir := none } hs
    unfold advanceRun
    split
    · exact cleared
    · unfold advanceReadout
      split
      · exact cleared
      · exact h.setBuffers _ cleared
    · exact h.advanceStream cleared

/-! ## Requests by kind -/

protected theorem takePurge (h : KeptFrom s.purge reads P) (n : Station) (scope : Word) (hs : P s) :
    P (takePurge n scope s) :=
  h.takeCell (fun _ allowed ha => h.servePurge (fun idle => by
    rwa [arrive_purge (of_decide_eq_true ((panelOrService_allows _).symm.trans allowed))] at idle) n scope ha) hs

protected theorem takeSetpoint (h : KeptFrom p₀ reads P) (n : Station) (zone value : Word) (hs : P s) :
    P (takeSetpoint n zone value s) :=
  h.takeCell (fun hr _ ha => h.serveSetpoint (arrive_modeOf hr) zone value ha) hs

protected theorem takeFan (h : KeptFrom p₀ reads P) (n : Station) (zone level : Word) (hs : P s) :
    P (takeFan n zone level s) :=
  h.takeCell (fun hr _ ha => h.serveFan (arrive_modeOf hr) zone level ha) hs

protected theorem takeMode (h : KeptFrom p₀ reads P) (n : Station) (mode : Word) (hs : P s) : P (takeMode n mode s) :=
  h.takeCell (fun hr _ ha => h.serveMode (arrive_modeOf hr) mode ha) hs

protected theorem takeShelter (h : KeptFrom p₀ reads P) (n : Station) (code : Word) (hs : P s) :
    P (takeShelter n code s) :=
  h.takeCell (fun hr _ ha => h.serveShelter (arrive_modeOf hr) code ha) hs

protected theorem takeWrite (h : KeptFrom p₀ reads P) (n : Station) (st : Setting) (value : Word) (hs : P s) :
    P (takeWrite n st value s) :=
  h.takeCell (fun _ _ ha => h.serveWrite st value ha) hs

protected theorem takeByKind (h : KeptFrom s.purge reads P) (c : Cell) (turn : Turn) (hs : P s) :
    P (takeByKind c turn s) := by
  obtain ⟨f, hf⟩ : ∃ f, takeByKind c turn = f := ⟨_, rfl⟩
  rw [hf]
  unfold Machine.takeByKind at hf
  split at hf <;> subst hf
  · exact h.takeIdle _ hs
  · exact h.takeSetpoint _ _ _ hs
  · exact h.takeFan _ _ _ hs
  · exact h.takeMode _ _ hs
  · exact h.takeShelter _ _ hs
  · exact h.takeCell (fun _ _ ha => h.serveWithdraw _ _ _ ha) hs
  · exact h.takeCell (fun _ _ ha => h.serveWithdrawAll _ ha) hs
  · exact h.takePurge _ _ hs
  · exact h.takeCell (fun _ _ ha => h.serveCancel _ ha) hs
  · exact h.takeCell (fun _ _ ha => h.serveRelease _ ha) hs
  · exact h.takeCell (fun _ _ ha => h.serveClearLatches _ ha) hs
  · exact h.takeCell (fun _ _ ha => h.serveReadout _ _ _ ha) hs
  · exact h.takeCell (fun _ _ ha => h.serveJoin _ _ _ ha) hs
  · exact h.takeCell (fun _ _ ha => h.serveLeave _ ha) hs
  · exact h.takeVehicleReport _ _ _ _ hs
  · exact h.takeCell (fun _ _ ha => h.serveIndex _ _ ha) hs
  · exact h.takeCell (fun _ _ ha => h.serveStore ha) hs
  · exact h.takeCell (fun _ _ ha => h.serveRestart _ ha) hs
  · exact h.takeUnknown _ _ hs

protected theorem uplinkWindowEnd (h : KeptFrom s.purge reads P) (n : Station) (rx : Reception) (turn : Turn)
    (hs : P s) : P (uplinkWindowEnd n rx turn s) := by
  unfold Machine.uplinkWindowEnd
  split
  · refine h.setLine _ _ ?_
    split
    · exact hs
    · unfold hearWindow
      split
      · exact h.setWindow _ _ hs
      · exact h.setWindow _ _ hs
      · exact h.takeByKind _ turn hs
  · exact hs

/-! ## Every command -/

/-- A property that the primitive changes keep, every command keeps. -/
theorem exec (h : KeptFrom s.purge reads P) {i : Instr} {t : State} (e : exec i s = .next t) (hs : P s) : P t := by
  cases i with
  | reset input => exact Host.Outcome.next.inj e ▸ h.onReset _ _ _ hs
  | frameMark fb order turn => exact Host.Outcome.next.inj e ▸ h.unlessHeld (h.frameMark fb order turn) hs
  | stationQuiet n => exact Host.Outcome.next.inj e ▸ h.settleVehicle _ _ _ (h.quietStep n hs)
  | stationLost n turn => exact Host.Outcome.next.inj e ▸ h.lostOne turn n hs
  | frameMarkEnd heard => exact Host.Outcome.next.inj e ▸ h.unlessHeld (h.frameMarkEnd heard) hs
  | loopFaultRaise =>
    simp only [Machine.exec, execLoopFaultRaise] at e
    split at e <;> cases e
    · exact h.changeLoopFault _ hs
    · exact hs
  | loopFaultClear =>
    simp only [Machine.exec, execLoopFaultClear] at e
    split at e <;> cases e
    · exact h.changeLoopFault _ hs
    · exact hs
  | uplinkWindowEnd n rx turn => exact Host.Outcome.next.inj e ▸ h.uplinkWindowEnd n rx turn hs
  | downlinkStart n => exact Host.Outcome.next.inj e ▸ h.downlinkStart n hs
  | downlinkEnd n => exact Host.Outcome.next.inj e ▸ h.downlinkEnd n hs
  | idle n => exact Host.Outcome.next.inj e ▸ h.takeIdle n hs
  | unknownKind n k => exact Host.Outcome.next.inj e ▸ h.takeByKind _ _ hs
  | setSetpoint n zone value => exact Host.Outcome.next.inj e ▸ h.takeSetpoint n zone value hs
  | setFan n zone level => exact Host.Outcome.next.inj e ▸ h.takeFan n zone level hs
  | setMode n mode => exact Host.Outcome.next.inj e ▸ h.takeMode n mode hs
  | setShelter n code => exact Host.Outcome.next.inj e ▸ h.takeShelter n code hs
  | withdraw n kind zone =>
    exact Host.Outcome.next.inj e ▸ h.takeCell (fun _ _ ha => h.serveWithdraw n kind zone ha) hs
  | withdrawAll n => exact Host.Outcome.next.inj e ▸ h.takeCell (fun _ _ ha => h.serveWithdrawAll n ha) hs
  | shelterRelease n => exact Host.Outcome.next.inj e ▸ h.takeCell (fun _ _ ha => h.serveRelease n ha) hs
  | purge n scope => exact Host.Outcome.next.inj e ▸ h.takePurge n scope hs
  | purgeCancel n => exact Host.Outcome.next.inj e ▸ h.takeCell (fun _ _ ha => h.serveCancel n ha) hs
  | clearLatches n => exact Host.Outcome.next.inj e ▸ h.takeCell (fun _ _ ha => h.serveClearLatches n ha) hs
  | readout n start count =>
    exact Host.Outcome.next.inj e ▸ h.takeCell (fun _ _ ha => h.serveReadout n start count ha) hs
  | joinStream n mask decimation =>
    exact Host.Outcome.next.inj e ▸ h.takeCell (fun _ _ ha => h.serveJoin n mask decimation ha) hs
  | leaveStream n => exact Host.Outcome.next.inj e ▸ h.takeCell (fun _ _ ha => h.serveLeave n ha) hs
  | vehicleReport n fields doors turn =>
    exact Host.Outcome.next.inj e ▸ h.takeVehicleReport n fields doors turn hs
  | stationRestart n => exact Host.Outcome.next.inj e ▸ h.takeCell (fun _ _ ha => h.serveRestart n ha) hs
  | settingsStore n => exact Host.Outcome.next.inj e ▸ h.takeCell (fun _ _ ha => h.serveStore ha) hs
  | storeComplete =>
    simp only [Machine.exec, execStoreComplete] at e
    split at e <;> cases e
    · next writing => exact h.completeStore writing hs
    · exact hs
  | settingsWrite n index value =>
    exact Host.Outcome.next.inj e ▸ h.takeCell (fun _ _ ha => h.serveIndex index value ha) hs
  | supervisionWindowWrite n w value => exact Host.Outcome.next.inj e ▸ h.takeWrite n _ value hs
  | slotEnableWrite n m value => exact Host.Outcome.next.inj e ▸ h.takeWrite n _ value hs
  | slotClassWrite n m value => exact Host.Outcome.next.inj e ▸ h.takeWrite n _ value hs
  | slotRankWrite n m value => exact Host.Outcome.next.inj e ▸ h.takeWrite n _ value hs
  | slotScopeWrite n m value => exact Host.Outcome.next.inj e ▸ h.takeWrite n _ value hs
  | planSettingWrite n p value => exact Host.Outcome.next.inj e ▸ h.takeWrite n _ value hs
  | regulatorGainWrite n g value => exact Host.Outcome.next.inj e ▸ h.takeWrite n _ value hs
  | doorLevelWrite n value => exact Host.Outcome.next.inj e ▸ h.takeWrite n _ value hs
  | purgeSettingWrite n p value => exact Host.Outcome.next.inj e ▸ h.takeWrite n _ value hs
  | doorMapWrite n d value => exact Host.Outcome.next.inj e ▸ h.takeWrite n _ value hs
  | returnTimeWrite n value => exact Host.Outcome.next.inj e ▸ h.takeWrite n _ value hs
  | scanListWrite n f value => exact Host.Outcome.next.inj e ▸ h.takeWrite n _ value hs
  | calibrationWrite n c k value => exact Host.Outcome.next.inj e ▸ h.takeWrite n _ value hs
  | thresholdWrite n t value => exact Host.Outcome.next.inj e ▸ h.takeWrite n _ value hs
  | alertMaskWrite n value => exact Host.Outcome.next.inj e ▸ h.takeWrite n _ value hs
  | protectionLevelWrite n l value => exact Host.Outcome.next.inj e ▸ h.takeWrite n _ value hs
  | protectionTimeWrite n t value => exact Host.Outcome.next.inj e ▸ h.takeWrite n _ value hs
  | feedbackEndWrite n a k value => exact Host.Outcome.next.inj e ▸ h.takeWrite n _ value hs
  | conversionEnd raw turn => exact Host.Outcome.next.inj e ▸ h.unlessHeld (h.conversionEnd raw turn) hs
  | emptyPassEnd turn => exact Host.Outcome.next.inj e ▸ h.unlessHeld (h.emptyPassEnd turn) hs
  | trendCapture => exact Host.Outcome.next.inj e ▸ h.captureTrend hs
  | purgeArmedLimit => exact Host.Outcome.next.inj e ▸ h.purgeEvent (h.armedLimit hs)
  | purgeDeferredLimit => exact Host.Outcome.next.inj e ▸ h.purgeEvent (h.deferredLimit hs)
  | purgeFlushingLimit => exact Host.Outcome.next.inj e ▸ h.purgeEvent (h.flushingLimit (h.fallbackTest hs))
  | fallbackFlushExpiry => exact Host.Outcome.next.inj e ▸ h.purgeEvent (h.fallbackTest hs)
  | blowerCurrentChange b current => exact Host.Outcome.next.inj e ▸ h.changeCurrent b current hs
  | shortTrip b =>
    simp only [Machine.exec, execShortTrip] at e
    split at e <;> cases e
    · exact h.shortTrip b hs
    · exact hs
  | overloadTrip b => exact Host.Outcome.next.inj e ▸ h.oneBlower (fun hb => hb.overloadStep _) hs
  | cooldownEnd b => exact Host.Outcome.next.inj e ▸ h.oneBlower (fun hb => hb.cooldownStep _ _) hs
  | tripWindowExpiry b => exact Host.Outcome.next.inj e ▸ h.oneBlower (fun hb => hb.windowStep) hs
  | actuatorStall a => exact Host.Outcome.next.inj e ▸ h.oneActuator (fun ha => ha.stallStep) hs
  | reversalEnd a => exact Host.Outcome.next.inj e ▸ h.oneActuator (fun ha => ha.reversalStep) hs
  | stallWaitEnd a => exact Host.Outcome.next.inj e ▸ h.oneActuator (fun ha => ha.waitStep) hs
  | powerLoss => exact Host.Outcome.next.inj e ▸ h.tearStore hs

/-- A property that the primitive changes keep and that does not read the queue, every step keeps. -/
theorem step (h : KeptFrom s.purge reads P) (queue : Part.pending ∉ reads) {t : State} (e : step s = .next t)
    (hs : P s) : P t := by
  unfold Machine.step at e
  split at e
  · cases e
    exact h.unlessHeld (h.elapse 1) hs
  · next c rest _ =>
    have dequeued : P (s.setPending rest) := h.of_touches (ps := [.pending]) (fun p hp => by
      cases p <;> first | rfl | exact absurd (by decide) hp) (fun ⟨p, hp, hr⟩ => by
      rw [List.mem_singleton.mp hp] at hr
      exact absurd hr queue) hs
    exact exec (s := s.setPending rest) h e dequeued

end KeptFrom

end Sys2Proof.Machine
end

section
/-! What the handing on of an installed plan gives each block, field by field (R26), and the resolution in full. -/

namespace Sys2Proof.Machine

open Sys2Proof

/-! ## One condition -/

theorem setCondition_get (c d : Condition) (v : Bool) (s : State) :
    (setCondition c v s).conditions.get d = if d = c then v else s.conditions.get d :=
  (setCondition_spec c v s).1 d

/-- A mark of another group than the Conditions marks stands while conditions change. -/
theorem MarkedAll.setCondition {g : Group} {s : State} (h : MarkedAll g s) (hg : g ≠ .conditions) (c : Condition)
    (v : Bool) : MarkedAll g (setCondition c v s) :=
  h.of_marksChangeOnly (setCondition_spec c v s).2.2.2.1 (by simpa using hg) (by simp)

/-! ## The regulator in the whole part -/

theorem checkShortfall_reg (s : State) :
    (checkShortfall s).reg =
      if s.plan.body.shelter = .pressurize ∧ s.reg.mode = .regulating then s.reg else s.reg.idleTimers := by
  unfold checkShortfall State.shortfallApplies
  by_cases h : s.plan.body.shelter = .pressurize ∧ s.reg.mode = .regulating
  · simp [h]
  · rw [if_neg (by simpa using h), if_neg h]
    simp

/-- Hold Shortfall stands where its evaluation applies, and is Clear elsewhere (R66). -/
theorem checkShortfall_holdShortfall (s : State) :
    (checkShortfall s).conditions.holdShortfall =
      (s.conditions.holdShortfall && s.shortfallApplies) := by
  unfold checkShortfall
  cases h : s.shortfallApplies with
  | true => simp
  | false => simpa [Conditions.get] using setCondition_get .holdShortfall .holdShortfall false (s.setReg s.reg.idleTimers)

theorem withRegulator_reg (r : Regulator) (s : State) :
    (withRegulator r s).reg =
      if s.plan.body.shelter = .pressurize ∧ r.mode = .regulating then r else r.idleTimers := by
  unfold withRegulator
  rw [checkShortfall_reg]
  simp

theorem withRegulator_blowers (r : Regulator) (s : State) :
    (withRegulator r s).blowers = { s.blowers with intake := s.blowers.intake.takeTarget r.output } := by
  unfold withRegulator
  simp [syncIntake]

theorem withRegulator_marked {g : Group} {s : State} (h : MarkedAll g s) (hg : g ≠ .conditions) (r : Regulator) :
    MarkedAll g (withRegulator r s) := by
  have synced : MarkedAll g (syncIntake (s.setReg r)) := h
  unfold withRegulator checkShortfall
  split
  · exact synced
  · refine MarkedAll.setCondition ?_ hg _ _
    exact synced

/-! ## The handing on -/

/-- The regulator that takes the installed plan (R26). -/
abbrev State.plannedReg (s : State) : Regulator :=
  s.reg.takePlan s.plan.body s.doorOpen s.pressureAvailable s.settings.doorLevel

theorem handOver_reg (s : State) :
    (handOver s).reg =
      if s.plan.body.shelter = .pressurize ∧ s.plannedReg.mode = .regulating then s.plannedReg
      else s.plannedReg.idleTimers := by
  unfold handOver
  simp [withRegulator_reg]

theorem handOver_blowers (s : State) :
    (handOver s).blowers =
      ⟨s.blowers.intake.takeTarget s.plannedReg.output, s.blowers.front.takeTarget s.plan.body.frontBlower,
        s.blowers.rear.takeTarget s.plan.body.rearBlower⟩ := by
  unfold handOver
  simp [takeZoneBlowers, withRegulator_blowers]

theorem handOver_actuators (s : State) :
    (handOver s).actuators = s.actuators.mapWith fun a r => r.takeTarget (s.plan.body.actuatorTargets.get a) := by
  unfold handOver
  simp [takeActuatorTargets]

theorem handOver_coUnderSeal (s : State) :
    (handOver s).conditions.coUnderSeal = (s.conditions.cabCoHigh && decide (s.plan.body.shelter = .sealed)) := by
  have cabCo : (withRegulator s.plannedReg (markAll .plan s)).conditions.cabCoHigh = s.conditions.cabCoHigh := by
    simpa [Conditions.get] using
      (withRegulator_handedOn s.plannedReg (markAll .plan s)).conditions .cabCoHigh (by decide)
  have set := setCondition_get .coUnderSeal .coUnderSeal
    ((withRegulator s.plannedReg (markAll .plan s)).conditions.cabCoHigh && decide (s.plan.body.shelter = .sealed))
    (takeActuatorTargets (takeZoneBlowers (withRegulator s.plannedReg (markAll .plan s))))
  rw [if_pos rfl, cabCo] at set
  unfold handOver updateCoUnderSeal
  simpa [cabCo, Conditions.get] using set

/-- Hold Shortfall stands over a handing on only where its evaluation applies to the new plan (R66). -/
theorem handOver_holdShortfall (s : State) :
    (handOver s).conditions.holdShortfall =
      (s.conditions.holdShortfall && (decide (s.plan.body.shelter = .pressurize) &&
        decide (s.plannedReg.mode = .regulating))) := by
  have checked := checkShortfall_holdShortfall (syncIntake ((markAll .plan s).setReg s.plannedReg))
  have kept := setCondition_get .coUnderSeal .holdShortfall
    ((withRegulator s.plannedReg (markAll .plan s)).conditions.cabCoHigh && decide (s.plan.body.shelter = .sealed))
    (takeActuatorTargets (takeZoneBlowers (withRegulator s.plannedReg (markAll .plan s))))
  rw [if_neg (by decide)] at kept
  unfold handOver updateCoUnderSeal
  simp only [takeActuatorTargets_kept, takeZoneBlowers_kept, withRegulator_kept, markAll_kept] at kept ⊢
  exact kept.trans (checked.trans (by simp [State.shortfallApplies]))

theorem handOver_markedPlan (s : State) : MarkedAll .plan (handOver s) :=
  MarkedAll.setCondition (s := takeActuatorTargets (takeZoneBlowers (withRegulator s.plannedReg (markAll .plan s))))
    (withRegulator_marked (markAll_spec .plan s).1 (by decide) _) (by decide) _ _

/-! ## The resolution in full -/

/-- A resolution leaves the state as it is but for the heater availability, or installs the plan and hands it on. -/
theorem resolve_cases (s : State) :
    ((resolve s).plan.body = s.plan.body ∧ resolve s = updateHeater s) ∨
    ((resolve s).plan.body ≠ s.plan.body ∧
      resolve s = handOver (install (formPlan (updateHeater s)) (updateHeater s))) := by
  by_cases h : formPlan (updateHeater s) = s.plan.body
  · rw [resolve_of_same h]
    exact .inl ⟨rfl, rfl⟩
  · rw [resolve_of_changed h]
    exact .inr ⟨by simpa [install] using h, rfl⟩

/-- Settles O22: the installed plan handed on, block by block. -/
theorem resolutionInstallsAndHandsOn : Obligations.ResolutionInstallsAndHandsOn := by
  unfold Obligations.ResolutionInstallsAndHandsOn
  intro s
  refine ⟨resolve_resolved s, fun changed => ?_⟩
  rcases resolve_cases s with ⟨same, -⟩ | ⟨-, eq⟩
  · exact absurd same changed
  · rw [eq]
    set u := install (formPlan (updateHeater s)) (updateHeater s) with hu
    have plan : (handOver u).plan = u.plan := by simp
    have reg : u.plannedReg = s.reg.takePlan u.plan.body s.doorOpen s.pressureAvailable s.settings.doorLevel := rfl
    dsimp only
    rw [plan, ← reg]
    refine ⟨handOver_reg u, fun none => ?_, ?_, ?_, ?_, fun a => ?_, ?_, handOver_markedPlan u⟩
    · rw [handOver_holdShortfall]
      rcases none with h | h <;> simp [h]
    · rw [handOver_blowers]; rfl
    · rw [handOver_blowers]; rfl
    · rw [handOver_blowers]; rfl
    · rw [handOver_actuators, PerActuator.get_mapWith]; rfl
    · rw [handOver_coUnderSeal]
      simp [hu, updateHeater]

end Sys2Proof.Machine
end

section
/-! The invariants that read a block of their own: the trend stream, the Cab Air Record, the regulator's integral, the
settings and the ALERT pin. -/

namespace Sys2Proof.Machine

open Sys2Proof

/-! ## The state at reset before its plan is handed on -/

/-- The state at reset with its first plan installed and its actuators read, before the handing on (R49, R160). -/
def resetStart (feedback : PerActuator Nat) (held : Bool) (s : State) : State :=
  let b := resetBase held s.store.tear.stored.load s
  (b.setPlan ⟨0#16, formPlan b⟩).setActuators (resetActuators b.resetHeld feedback b.settings (formPlan b))

theorem resetPart_eq (fb : PerActuator Nat) (held : Bool) (s : State) :
    resetPart fb held s = handOver (resetStart fb held s) := rfl

/-! ## The trend stream -/

theorem trendBounded_kept (p₀ : Purge) : KeptFrom p₀ [.trend] TrendBounded where
  congr same h := by
    unfold TrendBounded
    rwa [show _ = _ from same .trend (by decide)]
  onReset fb held s _ := by
    rw [TrendBounded, resetPart_eq, (handOver_kept _).2.2.2.2.2.2.2.2.2.2.2.2.2.2.2.2.1]
    exact ⟨Nat.zero_le _, fun _ => rfl⟩
  onTrend _ _ _ sound h := sound h

/-- Settles O40. -/
theorem stepKeepsTheTrendQueueBounded : Obligations.StepKeepsTheTrendQueueBounded :=
  fun s _ h e => (trendBounded_kept s.purge).step (by decide) e h

/-! ## The regulator's integral -/

theorem Regulator.integralSound_zero {r : Regulator} (h : r.integral = 0) : r.IntegralSound := by
  unfold IntegralSound
  omega

theorem Regulator.takePlan_integral {r : Regulator} (b : PlanBody) (doorOpen available : Bool) (level : Nat)
    (h : r.IntegralSound) : (r.takePlan b doorOpen available level).IntegralSound := by
  unfold takePlan
  split
  · exact h
  · exact h
  · split
    · exact integralSound_zero rfl
    · exact h

theorem handOver_integral {s : State} (h : IntegralBounded s) : IntegralBounded (handOver s) := by
  have taken : s.plannedReg.IntegralSound := Regulator.takePlan_integral _ _ _ _ h
  rw [IntegralBounded, handOver_reg]
  split <;> exact taken

theorem integralBounded_kept (p₀ : Purge) : KeptFrom p₀ [.reg] IntegralBounded where
  congr same h := by
    unfold IntegralBounded
    rwa [show _ = _ from same .reg (by decide)]
  onReset fb held s _ := handOver_integral (s := resetStart fb held s) (Regulator.integralSound_zero rfl)
  onResolve _ s h := by
    rcases resolve_cases s with ⟨-, eq⟩ | ⟨-, eq⟩
    · rw [eq]
      exact h
    · rw [eq]
      exact handOver_integral (s := install _ (updateHeater s)) h
  onRegulator _ r s sound _ h := by
    have taken := sound h
    rw [IntegralBounded, withRegulator_reg]
    split <;> exact taken
  onRegTimers _ r s integral _ _ h := by
    rw [IntegralBounded, State.setReg_reg, integral]
    exact h

/-- Settles O27. -/
theorem stepKeepsTheIntegralBounded : Obligations.StepKeepsTheIntegralBounded :=
  fun s _ h e => (integralBounded_kept s.purge).step (by decide) e h

/-! ## The Cab Air Record -/

/-- The value of a good sample lies in its channel's range (R104, R113). -/
theorem sampleValue_range (g : Settings) (c : Channel) {raw : Nat} (code : raw ≤ 16383) :
    (channelRange c).1 ≤ sampleValue g c raw ∧ sampleValue g c raw ≤ (channelRange c).2 := by
  cases c with
  | cal k => cases k <;> exact clampInt_range (by decide) _
  | reference => simp only [sampleValue, channelRange]; omega
  | ground => simp only [sampleValue, channelRange]; omega

/-- An entry stays consistent over a conversion (R117). -/
theorem EntryConsistent.take {c : Channel} {r : ChannelRecord} (h : EntryConsistent c r) (good : Bool) {v : Int}
    (range : (channelRange c).1 ≤ v ∧ v ≤ (channelRange c).2) (time : BitVec 32) :
    EntryConsistent c (r.take good v time) := by
  obtain ⟨word, value, status⟩ := h
  unfold ChannelRecord.take
  cases good with
  | true =>
    refine ⟨Nat.zero_le _, fun w hw => ?_, rfl, rfl, rfl⟩
    cases hw
    exact range
  | false =>
    have few : ∀ n, ¬4 ≤ min 255 (n + 1) → min 255 (n + 1) = n + 1 ∧ n + 1 ≤ 3 := by omega
    refine ⟨Nat.min_le_left _ _, fun w hw => value w ?_, ?_⟩
    · by_cases kept : badStatus r.status (min 255 (r.bad + 1)) = .held
      · simpa [kept] using hw
      · simp [kept] at hw
    · by_cases many : 4 ≤ min 255 (r.bad + 1)
      · simp only [Bool.false_eq_true, if_false, badStatus, if_pos many]
        exact ⟨rfl, rfl, many⟩
      · obtain ⟨count, three⟩ := few _ many
        rw [count] at many
        simp only [Bool.false_eq_true, if_false, badStatus, count, if_neg many]
        revert status
        cases r.status with
        | unsampled => exact fun _ => ⟨rfl, three⟩
        | fresh => exact fun ⟨shown, _, _⟩ => ⟨shown, rfl, Nat.le_add_left _ _, three⟩
        | held => exact fun ⟨shown, _, _⟩ => ⟨shown, rfl, Nat.le_add_left _ _, three⟩
        | failed =>
          rintro ⟨-, -, four⟩
          omega

theorem EntryConsistent.blank (c : Channel) : EntryConsistent c ChannelRecord.blank :=
  by simp [EntryConsistent, ChannelRecord.blank]

theorem recordConsistent_kept (p₀ : Purge) : KeptFrom p₀ [.record] RecordConsistent where
  congr same h := by
    unfold RecordConsistent
    rwa [show _ = _ from same .record (by decide)]
  onReset fb held s _ := by
    intro c
    rw [resetPart_eq, show (handOver (resetStart fb held s)).record = (resetStart fb held s).record by simp,
      show (resetStart fb held s).record.get c = ChannelRecord.blank from PerChannel.get_ofFn _ c]
    exact .blank c
  onSample _ c raw now s code h := by
    intro d
    rw [show (recordSample c raw now s).record.get d = _ from by simp [recordSample]; rfl]
    split
    · next hd =>
      subst hd
      exact (h d).take _ (sampleValue_range _ _ code) _
    · exact h d
  onList _ l s h := by
    intro c
    rw [show (listConditions l (dropChannels l (s.setScan { s.scan with working := l }))).record.get c =
      if listHas l c then s.record.get c else ChannelRecord.blank by simp [dropChannels]]
    split
    · exact h c
    · exact .blank c

/-- Settles O41. -/
theorem stepKeepsTheRecordConsistent : Obligations.StepKeepsTheRecordConsistent :=
  fun s _ h e => (recordConsistent_kept s.purge).step (by decide) e h

/-! ## The settings -/

theorem settingRanges_factory : SettingRanges Config.factory where
  quietWindow := by decide
  lostWindow := by decide
  releaseRank := by decide
  rank n := by cases n <;> decide
  shelterTarget := by decide
  shelterBase := by decide
  shelterFloor := by decide
  freshTarget := by decide
  freshBase := by decide
  freshFloor := by decide
  kp := by decide
  ki := by decide
  doorLevel := by decide
  frontVolume := by decide
  rearVolume := by decide
  purgeChanges := by decide
  fallbackFlush := by decide
  returnTime := by decide
  scanLength := by decide
  thresholds := ⟨by decide, by decide, by decide, by decide, by decide, by decide, by decide, by decide, by decide,
    by decide, by decide⟩
  shortLevel := by decide
  overloadLevel b := by cases b <;> decide
  shortTime := by decide
  overloadTime := by decide
  closedEnd a := by cases a <;> decide
  openEnd a := by cases a <;> decide
  defaultSetpoint := by decide
  gain c := by cases c <;> decide
  offset c := by cases c <;> decide
  positions := by decide
  entries := by decide
  oneVehicle n m := by cases n <;> cases m <;> decide

/-- Torn or whole, a sound stored copy loads sound settings (R180). -/
theorem load_inRange {c : StoredCopy} (h : ∀ g w, c = .whole g w → SettingsInRange g) : SettingsInRange c.load.settings := by
  have defaults : SettingsInRange Loaded.defaults.settings := (settingsInRange_iff _).mpr settingRanges_factory
  unfold StoredCopy.load
  split
  · next image check =>
    split
    · exact h image check rfl
    · exact defaults
  · exact defaults

/-- A torn store holds no copy that was not stored before (R183). -/
theorem tear_stored {st : Store} {g : Settings} {w : Word} (h : st.tear.stored = .whole g w) :
    st.stored = .whole g w := by
  unfold Store.tear at h
  split at h
  · cases h
  · exact h

theorem settingsSound_kept (p₀ : Purge) : KeptFrom p₀ [.settings, .store] SettingsSound where
  congr same h := by
    unfold SettingsSound
    rwa [show _ = _ from same .settings (by decide), show _ = _ from same .store (by decide)]
  onReset fb held s h := by
    have stored : ∀ g w, s.store.tear.stored = .whole g w → SettingsInRange g := fun g w eq =>
      h.2.1 g w (tear_stored eq)
    rw [SettingsSound, resetPart_eq]
    simp only [handOver_kept]
    exact ⟨load_inRange stored, stored, fun _ no => by cases no⟩
  onDisable _ n s _ h := by
    refine ⟨?_, h.2⟩
    have sound := (settingsInRange_iff _).mp h.1
    exact (settingsInRange_iff _).mpr (sound.withSlot n _ (sound.rank n) fun no => by cases no)
  onEnable _ n s _ ranges h := ⟨ranges h.1, h.2⟩
  onScope _ n sc s h := by
    refine ⟨?_, h.2⟩
    have sound := (settingsInRange_iff _).mp h.1
    exact (settingsInRange_iff _).mpr (sound.withSlot n _ (sound.rank n) fun en cls => .inl ⟨en, cls⟩)
  onSettings _ g s ranges _ _ h := ⟨ranges h.1, h.2⟩
  onMask _ w s h := by
    rw [SettingsSound]
    simp only [updateAlert_kept, State.setSettings_settings, State.setSettings_store]
    have sound := (settingsInRange_iff _).mp h.1
    exact ⟨(settingsInRange_iff _).mpr (sound.written .alertMask w nofun nofun), h.2⟩
  onStore _ st s sound h := sound h

/-- Settles O59. -/
theorem stepKeepsTheSettingsInRange : Obligations.StepKeepsTheSettingsInRange :=
  fun s _ h e => (settingsSound_kept s.purge).step (by decide) e h

/-! ## The ALERT pin -/

namespace AlertWithMask

variable {s : State}

protected theorem checkShortfall (h : AlertWithMask s) : AlertWithMask (checkShortfall s) := by
  unfold Machine.checkShortfall
  split
  · exact h
  · exact setCondition_alert (s := s.setReg s.reg.idleTimers) _ _ h

protected theorem withRegulator (h : AlertWithMask s) (r : Regulator) : AlertWithMask (withRegulator r s) :=
  AlertWithMask.checkShortfall (s := syncIntake (s.setReg r)) h

protected theorem handOver (h : AlertWithMask s) : AlertWithMask (handOver s) := by
  refine setCondition_alert _ _ ?_
  exact AlertWithMask.withRegulator (s := markAll .plan s) h s.plannedReg

/-- A mark set changes no pin. -/
protected theorem markAllIf (h : AlertWithMask s) (b : Bool) (g : Group) : AlertWithMask (markAllIf b g s) := by
  cases b <;> exact h

end AlertWithMask

theorem alertWithMask_kept (p₀ : Purge) :
    KeptFrom p₀ [.alert, .conditions, .settings, .resetHeld] AlertWithMask where
  congr same h := by
    unfold AlertWithMask
    rwa [show _ = _ from same .alert (by decide), show _ = _ from same .conditions (by decide),
      show _ = _ from same .settings (by decide), show _ = _ from same .resetHeld (by decide)]
  onReset fb held s _ := AlertWithMask.handOver (alertDue_iff (resetStart fb held s))
  onResolve _ s h := by
    rcases resolve_cases s with ⟨-, eq⟩ | ⟨-, eq⟩
    · rw [eq]
      exact h
    · rw [eq]
      exact AlertWithMask.handOver (s := install _ (updateHeater s)) h
  onCondition _ c v s _ h := setCondition_alert c v h
  onCabCo _ f r v s h := setCondition_alert _ _ (setCondition_alert (s := s.setScene _) _ _ h)
  onRegulator _ r s _ _ h := h.withRegulator r
  onVehicle _ v s h := setCondition_alert (s := markAll .vehicle (s.setVehicle v)) _ _ h
  onBlowers _ bs m s _ h := setCondition_alert _ _ (AlertWithMask.markAllIf (s := s.setBlowers bs) h m _)
  onActuators _ as m s _ h := setCondition_alert _ _ (AlertWithMask.markAllIf (s := s.setActuators as) h m _)
  onClear _ m s h :=
    setCondition_alert _ _ (setCondition_alert _ _ (AlertWithMask.markAllIf (s := clearMovers s) h m _))
  onSample _ c raw now s _ h := setCondition_alert (s := s.setRecord _) _ _ h
  onList _ l s h := by
    refine setCondition_alert _ _ ?_
    split
    · exact h
    · exact setCondition_alert (s := dropChannels l (s.setScan _)) _ _ h
  onDisable _ n s _ h := h
  onEnable _ n s _ _ h := h
  onScope _ n sc s h := h
  onSettings _ g s _ mask _ h := by
    unfold AlertWithMask
    rw [State.setSettings_settings, mask]
    exact h
  onMask _ w s _ := by
    refine AlertWithMask.markAllIf ?_ _ _
    exact alertDue_iff (s.setSettings { s.settings with alertMask := w })

/-- Settles O35. -/
theorem stepKeepsAlertWithTheMask : Obligations.StepKeepsAlertWithTheMask :=
  fun s _ h e => (alertWithMask_kept s.purge).step (by decide) e h

end Sys2Proof.Machine
end

section
/-! What a plan that a state forms can hold: the winner of a key group (R27, R28), and drive fields within their
ranges (R22, R34, R42 to R47). -/

namespace Sys2Proof.Machine

open Sys2Proof

/-! ## The winner of a key group -/

namespace State

variable (s : State) (k : Key)

/-- The winner among the entries of a list. -/
def winnerIn (t : List Entry) : Option Entry := (t.filter (s.eligible k)).foldl s.keepBest none

theorem winner_eq_winnerIn : s.winner k = s.winnerIn k s.table := rfl

theorem winnerIn_concat (t : List Entry) (e : Entry) :
    s.winnerIn k (t ++ [e]) =
      if s.eligible k e then s.keepBest (s.winnerIn k t) e else s.winnerIn k t := by
  by_cases h : s.eligible k e = true <;> simp [winnerIn, h]

/-- The entry `e` at place `j` gives way to the entry `w` at place `i` (R28). -/
def GivesWay (e : Entry) (j : Nat) (w : Entry) (i : Nat) : Prop :=
  (s.slot e.station).rank < (s.slot w.station).rank ∨
    ((s.slot e.station).rank = (s.slot w.station).rank ∧
      ((e.held = true ∧ w.held = false) ∨ (e.held = w.held ∧ j < i)))

variable {s}

theorem GivesWay.of_beats {later earlier : Entry} {i j : Nat} (h : s.beats later earlier = true) (place : i < j) :
    s.GivesWay earlier i later j := by
  simp only [beats, Bool.or_eq_true, Bool.and_eq_true, decide_eq_true_eq, Bool.not_eq_true'] at h
  rcases h with lower | ⟨equal, active | held⟩
  · exact .inl lower
  · cases he : earlier.held with
    | true => exact .inr ⟨equal, .inl ⟨he, active⟩⟩
    | false => exact .inr ⟨equal, .inr ⟨he.trans active.symm, place⟩⟩
  · cases hl : later.held with
    | true => exact .inr ⟨equal, .inr ⟨held.trans hl.symm, place⟩⟩
    | false => exact .inr ⟨equal, .inl ⟨held, hl⟩⟩

theorem GivesWay.of_not_beats {later earlier : Entry} {i j : Nat} (h : s.beats later earlier = false) :
    s.GivesWay later j earlier i := by
  simp only [beats, Bool.or_eq_false_iff, Bool.and_eq_false_iff, decide_eq_false_iff_not, Bool.not_eq_false'] at h
  obtain ⟨not_lower, other⟩ := h
  rcases Nat.lt_or_eq_of_le (Nat.le_of_not_lt not_lower) with lower | equal
  · exact .inl lower
  · rcases other with differ | ⟨held, active⟩
    · exact absurd equal.symm differ
    · exact .inr ⟨equal, .inl ⟨held, active⟩⟩

theorem GivesWay.trans {a b c : Entry} {i j k : Nat} (h : s.GivesWay a i b j) (h' : s.GivesWay b j c k) :
    s.GivesWay a i c k := by
  unfold GivesWay at *
  rcases h with lower | ⟨equal, other⟩ <;> rcases h' with lower' | ⟨equal', other'⟩
  · exact .inl (lower.trans lower')
  · exact .inl (equal' ▸ lower)
  · exact .inl (equal ▸ lower')
  · refine .inr ⟨equal.trans equal', ?_⟩
    rcases other with ⟨ha, hb⟩ | ⟨hab, place⟩ <;> rcases other' with ⟨hb', hc⟩ | ⟨hbc, place'⟩
    · exact .inl ⟨ha, hc⟩
    · exact .inl ⟨ha, hbc ▸ hb⟩
    · exact .inl ⟨hab ▸ hb', hc⟩
    · exact .inr ⟨hab.trans hbc, place.trans place'⟩

variable (s)

/-- `w` is the entry of the list that every other of its key group gives way to; none where the group is empty. -/
def IsWinner (t : List Entry) (w : Option Entry) : Prop :=
  (w = none ↔ ∀ e ∈ t, s.eligible k e = false) ∧
    ∀ x, w = some x → ∃ i, t[i]? = some x ∧ s.eligible k x = true ∧
      ∀ (j : Nat) (e : Entry), t[j]? = some e → s.eligible k e = true → j ≠ i → s.GivesWay e j x i

theorem getElem?_concat_cases {t : List Entry} {a x : Entry} {j : Nat} (h : (t ++ [a])[j]? = some x) :
    t[j]? = some x ∨ (j = t.length ∧ x = a) := by
  rcases Nat.lt_trichotomy j t.length with inside | last | beyond
  · exact .inl (by rwa [List.getElem?_append_left inside] at h)
  · subst last
    exact .inr ⟨rfl, by simpa using h.symm⟩
  · simp [List.getElem?_eq_none, Nat.succ_le_of_lt beyond] at h

theorem getElem?_concat_of_some {t : List Entry} {a x : Entry} {j : Nat} (h : t[j]? = some x) :
    (t ++ [a])[j]? = some x := by
  rwa [List.getElem?_append_left (List.getElem?_eq_some_iff.mp h).1]

variable {s k}

theorem IsWinner.nil : s.IsWinner k [] none := ⟨by simp, nofun⟩

/-- An entry that is not of the group changes nothing. -/
theorem IsWinner.skip {t : List Entry} {w : Option Entry} (h : s.IsWinner k t w) {e : Entry}
    (not : s.eligible k e = false) : s.IsWinner k (t ++ [e]) w := by
  obtain ⟨none_iff, best⟩ := h
  refine ⟨by simp [none_iff, not, or_imp, forall_and], fun x hx => ?_⟩
  obtain ⟨i, place, elig, others⟩ := best x hx
  refine ⟨i, getElem?_concat_of_some place, elig, fun j y hy hyk ne => ?_⟩
  rcases getElem?_concat_cases hy with old | ⟨-, rfl⟩
  · exact others j y old hyk ne
  · exact absurd hyk (by simp [not])

/-- An entry of the group wins over the winner before it that it beats, and over none. -/
theorem IsWinner.take {t : List Entry} {w : Option Entry} (h : s.IsWinner k t w) {e : Entry}
    (elig : s.eligible k e = true) : s.IsWinner k (t ++ [e]) (s.keepBest w e) := by
  obtain ⟨none_iff, best⟩ := h
  have nonempty : ¬∀ x ∈ t ++ [e], s.eligible k x = false := fun all => by simpa [elig] using all e (by simp)
  have last : (t ++ [e])[t.length]? = some e := by simp
  cases w with
  | none =>
    refine ⟨⟨nofun, fun all => absurd all nonempty⟩, fun x hx => ?_⟩
    cases hx
    refine ⟨t.length, last, elig, fun j y hy hyk ne => ?_⟩
    rcases getElem?_concat_cases hy with old | ⟨eq, -⟩
    · exact absurd (none_iff.mp rfl y (List.mem_of_getElem? old)) (by simp [hyk])
    · exact absurd eq ne
  | some o =>
    obtain ⟨i, place, o_elig, others⟩ := best o rfl
    have inside : i < t.length := (List.getElem?_eq_some_iff.mp place).1
    cases hb : s.beats e o with
    | true =>
      rw [show s.keepBest (some o) e = some e by simp [keepBest, hb]]
      refine ⟨⟨nofun, fun all => absurd all nonempty⟩, fun x hx => ?_⟩
      cases hx
      have o_gives : s.GivesWay o i e t.length := .of_beats hb inside
      refine ⟨t.length, last, elig, fun j y hy hyk ne => ?_⟩
      rcases getElem?_concat_cases hy with old | ⟨eq, -⟩
      · by_cases hj : j = i
        · subst hj
          rw [place] at old
          cases old
          exact o_gives
        · exact (others j y old hyk hj).trans o_gives
      · exact absurd eq ne
    | false =>
      rw [show s.keepBest (some o) e = some o by simp [keepBest, hb]]
      refine ⟨⟨nofun, fun all => absurd all nonempty⟩, fun x hx => ?_⟩
      cases hx
      refine ⟨i, getElem?_concat_of_some place, o_elig, fun j y hy hyk ne => ?_⟩
      rcases getElem?_concat_cases hy with old | ⟨-, rfl⟩
      · exact others j y old hyk ne
      · exact .of_not_beats hb

variable (s k)

theorem winnerIn_isWinner (t : List Entry) : s.IsWinner k t (s.winnerIn k t) := by
  induction t using List.reverseRecOn with
  | nil => exact .nil
  | append_singleton t e ih =>
    rw [winnerIn_concat]
    split
    · next elig => exact ih.take elig
    · next not => exact ih.skip (Bool.eq_false_iff.mpr not)

variable {s k}

/-- The winner of a key group stands in the table with a key of the group. -/
theorem winner_spec {e : Entry} (h : s.winner k = some e) : e ∈ s.table ∧ s.eligible k e = true := by
  obtain ⟨i, place, elig, -⟩ := (winnerIn_isWinner s k s.table).2 e h
  exact ⟨List.mem_of_getElem? place, elig⟩

end State

/-- Settles O23, by induction on the table from its tail. -/
theorem winnerHasRankThenStateThenRecency : Obligations.WinnerHasRankThenStateThenRecency :=
  fun s k => s.winnerIn_isWinner k s.table

/-! ## Drive fields within their ranges -/

/-- A draft whose fields, where set, lie in their ranges, and whose floors are levels. -/
structure Draft.Bounded (d : Draft) : Prop where
  shutter : ∀ v, d.shutter = some v → v ≤ 100
  relief : ∀ v, d.relief = some v → v ≤ 100
  intake : ∀ l, d.intake = some (.fixed l) → l ≤ 1000
  front : ∀ v, d.front = some v → v ≤ 1000
  rear : ∀ v, d.rear = some v → v ≤ 1000
  heaterValve : ∀ v, d.heaterValve = some v → v ≤ 100
  frontMix : ∀ v, d.frontMix = some v → v ≤ 100
  rearMix : ∀ v, d.rearMix = some v → v ≤ 100
  frontFloor : d.frontFloor ≤ 1000
  rearFloor : d.rearFloor ≤ 1000

/-- A field set where still open keeps what holds of the field and of the value. -/
theorem fill_keeps {α : Type} {P : α → Prop} {f : Option α} {v : α} (hf : ∀ w, f = some w → P w) (hv : P v) :
    ∀ w, fill f v = some w → P w := by
  intro w hw
  cases f with
  | none => cases hw; exact hv
  | some x => cases hw; exact hf _ rfl

theorem getD_keeps {α : Type} {P : α → Prop} {f : Option α} {v : α} (hf : ∀ w, f = some w → P w) (hv : P v) :
    P (f.getD v) := by
  cases f with
  | none => exact hv
  | some x => exact hf _ rfl

/-- A fixed intake asks for a level. -/
def Intake.Bounded (i : Intake) : Prop := ∀ l, i = .fixed l → l ≤ 1000

namespace Draft.Bounded

variable {d : Draft}

protected theorem blank : Draft.blank.Bounded := by constructor <;> simp [Draft.blank]

protected theorem fillPath (h : d.Bounded) {shutter relief : Nat} {intake : Intake} (hs : shutter ≤ 100)
    (hr : relief ≤ 100) (hi : intake.Bounded) : (d.fillPath shutter relief intake).Bounded :=
  { h with
    shutter := fill_keeps h.shutter hs
    relief := fill_keeps h.relief hr
    intake := fun l hl => fill_keeps (P := Intake.Bounded) (fun _ hw l eq => h.intake l (eq ▸ hw)) hi _ hl l rfl }

protected theorem fillOff (h : d.Bounded) : d.fillOff.Bounded :=
  { h.fillPath (Nat.zero_le _) (Nat.zero_le _) (intake := .off) nofun with
    front := fill_keeps h.front (Nat.zero_le _)
    rear := fill_keeps h.rear (Nat.zero_le _)
    heaterValve := fill_keeps h.heaterValve (Nat.zero_le _)
    frontMix := fill_keeps h.frontMix (by decide)
    rearMix := fill_keeps h.rearMix (by decide) }

theorem fixed_bounded {n : Nat} (h : n ≤ 1000) : (Intake.fixed n).Bounded := by
  rintro l ⟨⟩
  exact h

variable (s : State)

protected theorem layer1 (h : d.Bounded) : (s.layer1 d).Bounded := by
  unfold State.layer1
  split
  · exact h.fillPath (Nat.zero_le _) (Nat.zero_le _) nofun
  · exact h

protected theorem layer2 (h : d.Bounded) : (s.layer2 d).Bounded := by
  unfold State.layer2
  split
  · have path := h.fillPath (shutter := 100) (relief := 100) (by decide) (by decide) (fixed_bounded le_rfl)
    refine { path with rear := fill_keeps h.rear le_rfl, front := ?_ }
    dsimp only
    split
    · exact fill_keeps h.front le_rfl
    · exact h.front
  · exact h

protected theorem layer3 (h : d.Bounded) : (s.layer3 d).Bounded := by
  unfold State.layer3
  split
  · have relief : (if s.conditions.cabCoHigh then 25 else 0) ≤ 100 := by split <;> decide
    exact { h.fillPath (shutter := 100) (by decide) relief (intake := .regulated _ _ _) nofun with
      frontFloor := Nat.max_le.mpr ⟨h.frontFloor, by decide⟩
      rearFloor := Nat.max_le.mpr ⟨h.rearFloor, by decide⟩ }
  · exact h

protected theorem layer4 (h : d.Bounded) : (s.layer4 d).Bounded := by
  unfold State.layer4
  split
  · exact h.fillPath (by decide) (by decide) (fixed_bounded (by decide))
  · exact h

protected theorem layer5 (h : d.Bounded) : (s.layer5 d).Bounded := by
  unfold State.layer5
  split
  · exact h.fillOff
  · exact h

protected theorem fillFresh (h : d.Bounded) : (s.fillFresh d).Bounded :=
  h.fillPath (by decide) (by decide)
    (intake := .regulated s.settings.freshTarget s.settings.freshBase s.settings.freshFloor) nofun

protected theorem fillDefog (h : d.Bounded) (heater : Bool) : (d.fillDefog heater).Bounded :=
  { h with
    frontMix := fill_keeps h.frontMix le_rfl
    heaterValve := by
      cases heater with
      | true => exact fill_keeps h.heaterValve le_rfl
      | false => exact h.heaterValve
    frontFloor := Nat.max_le.mpr ⟨h.frontFloor, by decide⟩ }

protected theorem layer6 (h : d.Bounded) : (s.layer6 d).Bounded := by
  unfold State.layer6
  split
  · exact h.fillOff
  · exact h.fillPath (Nat.zero_le _) (Nat.zero_le _) nofun
  · exact h.fillFresh s
  · exact (h.fillFresh s).fillDefog _

protected theorem layered : s.layered.Bounded :=
  (((((Draft.Bounded.blank.layer1 s).layer2 s).layer3 s).layer4 s).layer5 s).layer6 s

end Draft.Bounded

/-! ## The plan's drive fields -/

theorem comfortMix_le (setpoint : Int) (temp : Option Int) : comfortMix setpoint temp ≤ 100 := by
  unfold comfortMix
  split
  · next t =>
    have := (clampInt_range (lo := 0) (hi := 100) (by decide) (50 + (setpoint - t).tdiv 2)).2
    omega
  · decide

/-- Every level asked for in the table is one of the eight (R12, R14). -/
def State.LevelsAsked (s : State) : Prop := ∀ e ∈ s.table, ∀ z l, e.demand = .fan z (.level l) → l ≤ 8

theorem State.fanNow_le {s : State} (h : s.LevelsAsked) (z : Zone) {l : Nat} (hl : s.fanNow z = .level l) : l ≤ 8 := by
  unfold fanNow fanOf at hl
  split at hl
  · next st z' c held eq =>
    subst hl
    exact h _ (winner_spec eq).1 z' l rfl
  · cases hl

theorem fanLevel_le {choice : FanChoice} (h : ∀ l, choice = .level l → l ≤ 8) (setpoint : Int) (temp : Option Int) :
    fanLevel choice setpoint temp ≤ 8 := by
  unfold fanLevel
  split
  · exact h _ rfl
  · split
    · exact (clampNat_spec 2 8 _ (by decide)).2.1
    · decide

theorem comfortBlower_le {choice : FanChoice} (h : ∀ l, choice = .level l → l ≤ 8) (setpoint : Int)
    (temp : Option Int) {floor : Nat} (hf : floor ≤ 1000) : comfortBlower choice setpoint temp floor ≤ 1000 := by
  have := fanLevel_le h setpoint temp
  unfold comfortBlower
  omega

theorem shedBlower_le {t : Nat} (h : t ≤ 1000) (shed : Bool) : shedBlower shed t ≤ 1000 := by
  unfold shedBlower
  split
  · exact (Nat.min_le_left _ _).trans h
  · exact h

namespace State

variable (s : State)

theorem zoneBlowerNow_le {s : State} (h : s.LevelsAsked) (z : Zone) : s.zoneBlowerNow z ≤ 1000 := by
  have bounded := Draft.Bounded.layered s
  cases z with
  | front => exact getD_keeps bounded.front (comfortBlower_le (fun _ => fanNow_le h .front) _ _ bounded.frontFloor)
  | rear => exact getD_keeps bounded.rear (comfortBlower_le (fun _ => fanNow_le h .rear) _ _ bounded.rearFloor)

theorem mixNow_le (z : Zone) : s.mixNow z ≤ 100 := by
  have bounded := Draft.Bounded.layered s
  cases z with
  | front => exact getD_keeps bounded.frontMix (comfortMix_le _ _)
  | rear => exact getD_keeps bounded.rearMix (comfortMix_le _ _)

theorem heaterValveNow_le : s.heaterValveNow ≤ 100 := by
  unfold heaterValveNow
  split
  · refine getD_keeps (Draft.Bounded.layered s).heaterValve ?_
    unfold heaterValveFor
    split <;> decide
  · exact Nat.zero_le _

end State

theorem formPlan_blowers_le {s : State} (h : s.LevelsAsked) :
    (formPlan s).frontBlower ≤ 1000 ∧ (formPlan s).rearBlower ≤ 1000 :=
  ⟨shedBlower_le (State.zoneBlowerNow_le h _) _, shedBlower_le (State.zoneBlowerNow_le h _) _⟩

theorem formPlan_targets_le (s : State) (a : ActuatorId) : (formPlan s).actuatorTargets.get a ≤ 100 := by
  have bounded := Draft.Bounded.layered s
  cases a with
  | shutter => exact getD_keeps bounded.shutter (Nat.zero_le _)
  | relief => exact getD_keeps bounded.relief (Nat.zero_le _)
  | heater => exact s.heaterValveNow_le
  | frontMix => exact s.mixNow_le .front
  | rearMix => exact s.mixNow_le .rear

theorem formPlan_cap_le (s : State) : (formPlan s).cap ≤ 1000 := by
  unfold formPlan
  dsimp only
  split <;> decide

theorem formPlan_intake_bounded (s : State) : (formPlan s).intake.Bounded := by
  have level : Intake.Bounded (s.layered.intake.getD .off) :=
    getD_keeps (fun _ hw l eq => (Draft.Bounded.layered s).intake l (eq ▸ hw)) nofun
  intro l hl
  unfold formPlan shedIntake at hl
  dsimp only at hl
  split at hl
  · next n eq =>
    have := level n eq
    cases hl
    split <;> omega
  · cases hl
  · cases hl

end Sys2Proof.Machine
end

section
/-! The invariants of the drives: blower levels (R135) and actuator places (R148). -/

namespace Sys2Proof.Machine

open Sys2Proof

/-! ## What the entries of the table ask -/

/-- The stations and demands of the table, in order. -/
def asks (t : List Entry) : List (Station × Demand) := t.map fun e => (e.station, e.demand)

theorem mem_asks {t : List Entry} {n : Station} {d : Demand} :
    (n, d) ∈ asks t ↔ ∃ e ∈ t, e.station = n ∧ e.demand = d := by
  simp [asks]

/-- An entry of a table that asks no more than another has a like entry there. -/
theorem exists_of_asks_sublist {t u : List Entry} (h : (asks u).Sublist (asks t)) {e : Entry} (he : e ∈ u) :
    ∃ e' ∈ t, e'.station = e.station ∧ e'.demand = e.demand :=
  mem_asks.mp (h.subset (mem_asks.mpr ⟨e, he, rfl, rfl⟩))

theorem asks_filter (keep : Entry → Bool) (t : List Entry) : (asks (t.filter keep)).Sublist (asks t) :=
  List.filter_sublist.map _

theorem asks_holdEntries (n : Station) (held : Bool) (s : State) : asks (holdEntries n held s).table = asks s.table := by
  simp only [asks, holdEntries, State.setTable_table, List.map_map]
  refine List.map_congr_left fun e _ => ?_
  dsimp only [Function.comp_apply]
  split <;> rfl

theorem asks_removeEntries (n : Station) (s : State) : (asks (removeEntries n s).table).Sublist (asks s.table) := by
  simpa [removeEntries] using asks_filter _ _

theorem asks_enterQuiet (n : Station) (s : State) : asks (enterQuiet n s).table = asks s.table := by
  simp [enterQuiet, asks_holdEntries]

theorem asks_refresh (n : Station) (s : State) : asks (refresh n s).table = asks s.table := by
  unfold refresh
  split <;> simp [asks_holdEntries, setStation, markStation]

/-! ## The levels of the blowers -/

/-- The levels a plan asks of the blowers lie in range (R22). -/
structure PlanBody.LevelsBounded (b : PlanBody) : Prop where
  front : b.frontBlower ≤ 1000
  rear : b.rearBlower ≤ 1000
  cap : b.cap ≤ 1000
  intake : b.intake.Bounded

theorem formPlan_levelsBounded {s : State} (h : s.LevelsAsked) : (formPlan s).LevelsBounded :=
  ⟨(formPlan_blowers_le h).1, (formPlan_blowers_le h).2, formPlan_cap_le s, formPlan_intake_bounded s⟩

theorem Regulator.takePlan_levels (r : Regulator) {b : PlanBody} (hb : b.LevelsBounded) (doorOpen available : Bool)
    (level : Nat) (h : r.LevelsSound) : (r.takePlan b doorOpen available level).LevelsSound := by
  unfold takePlan
  split
  · exact ⟨Nat.zero_le _, hb.cap⟩
  · next l eq => exact ⟨hb.intake l eq, hb.cap⟩
  · next t base floor eq =>
    have held := (doorHoldOutput_le level b.cap).trans hb.cap
    have limited (u : Int) := (limitOutput_le u floor b.cap).trans hb.cap
    split
    · refine ⟨?_, hb.cap⟩
      dsimp only [enter]
      split
      · exact held
      · exact limited _
    · refine ⟨?_, hb.cap⟩
      dsimp only [retarget]
      split
      · split
        · exact h.1
        · exact held
      · split
        · exact h.1
        · exact limited _

theorem BlowerState.Sound.takeTarget {b : BlowerState} (h : b.Sound) {t : Nat} (ht : t ≤ 1000) :
    (b.takeTarget t).Sound := ⟨ht, h.2⟩

/-- The handing on of a plan with levels in range keeps the levels of the blowers in range. -/
theorem StoppedAtZero.handOver {s : State} (plan : s.plan.body.LevelsBounded) (h : StoppedAtZero s) :
    StoppedAtZero (handOver s) := by
  obtain ⟨⟨output, cap, -, -, asked⟩, blowers⟩ := h
  have taken : s.plannedReg.LevelsSound := Regulator.takePlan_levels _ plan _ _ _ ⟨output, cap⟩
  have reg : (Machine.handOver s).reg.LevelsSound := by
    rw [handOver_reg]
    split <;> exact taken
  refine ⟨⟨reg.1, reg.2, ?_, ?_, ?_⟩, fun b => ?_⟩
  · simpa using plan.front
  · simpa using plan.rear
  · simpa using asked
  · have sound (b : Blower) : (s.blowers.get b).Sound := blowers b
    rw [handOver_blowers]
    cases b with
    | intake => exact (sound .intake).takeTarget taken.1
    | front => exact (sound .front).takeTarget plan.front
    | rear => exact (sound .rear).takeTarget plan.rear

/-- A table that asks no more keeps the levels asked for in range. -/
theorem State.LevelsAsked.of_sublist {s t : State} (h : s.LevelsAsked) (sub : (asks t.table).Sublist (asks s.table)) :
    t.LevelsAsked := by
  intro e he z l hl
  obtain ⟨e', he', -, demand⟩ := exists_of_asks_sublist sub he
  exact h e' he' z l (demand.trans hl)

namespace StoppedAtZero

variable {s t : State}

theorem asked (h : StoppedAtZero s) : s.LevelsAsked := h.1.2.2.2.2

theorem sound (h : StoppedAtZero s) (b : Blower) : (s.blowers.get b).Sound := h.2 b

/-- Another table whose levels lie in range. -/
theorem of_table (h : StoppedAtZero s) (reg : t.reg = s.reg) (plan : t.plan = s.plan) (blowers : t.blowers = s.blowers)
    (asked : t.LevelsAsked) : StoppedAtZero t := by
  obtain ⟨⟨output, cap, front, rear, -⟩, levels⟩ := h
  unfold StoppedAtZero LevelsInRange
  rw [reg, plan, blowers]
  exact ⟨⟨output, cap, front, rear, asked⟩, levels⟩

/-- Other blowers, each in range. -/
theorem of_blowers (h : StoppedAtZero s) (reg : t.reg = s.reg) (plan : t.plan = s.plan) (table : t.table = s.table)
    (sound : ∀ b, (t.blowers.get b).Sound) : StoppedAtZero t := by
  refine ⟨?_, sound⟩
  unfold LevelsInRange
  rw [reg, plan, table]
  exact h.1

end StoppedAtZero

theorem stoppedAtZero_kept (p₀ : Purge) : KeptFrom p₀ [.reg, .plan, .table, .blowers] StoppedAtZero where
  congr same h := by
    unfold StoppedAtZero LevelsInRange
    rwa [show _ = _ from same .reg (by decide), show _ = _ from same .plan (by decide),
      show _ = _ from same .table (by decide), show _ = _ from same .blowers (by decide)]
  onReset fb held s _ := by
    have asked : (resetBase held s.store.tear.stored.load s).LevelsAsked := nofun
    have plan := formPlan_levelsBounded asked
    have output : Regulator.reset.output ≤ 1000 := by decide
    have cap : Regulator.reset.cap ≤ 1000 := by decide
    refine StoppedAtZero.handOver (s := resetStart fb held s) plan
      ⟨⟨output, cap, plan.front, plan.rear, asked⟩, fun b => ?_⟩
    simp [resetStart, resetBase, resetBlower_eq]
  onResolve _ s h := by
    rcases resolve_cases s with ⟨-, eq⟩ | ⟨-, eq⟩
    · rw [eq]
      exact h
    · rw [eq]
      have asked : (updateHeater s).LevelsAsked := h.asked
      have plan := formPlan_levelsBounded asked
      obtain ⟨⟨output, cap, -, -, -⟩, levels⟩ := h
      exact StoppedAtZero.handOver (s := install _ (updateHeater s)) plan
        ⟨⟨output, cap, plan.front, plan.rear, asked⟩, levels⟩
  onRegulator _ r s _ levels h := by
    obtain ⟨⟨output, cap, front, rear, asked⟩, sound⟩ := h
    have taken : r.LevelsSound := levels ⟨output, cap⟩
    have reg : (withRegulator r s).reg.LevelsSound := by
      rw [withRegulator_reg]
      split <;> exact taken
    refine ⟨⟨reg.1, reg.2, by simpa using front, by simpa using rear, by simpa using asked⟩, fun b => ?_⟩
    rw [withRegulator_blowers]
    cases b with
    | intake => exact BlowerState.Sound.takeTarget (sound .intake) taken.1
    | front => exact sound .front
    | rear => exact sound .rear
  onRegTimers _ r s _ output cap h := by
    unfold StoppedAtZero LevelsInRange
    simp only [State.setReg_reg, output, cap]
    exact h
  onDetectors _ bs s same h := by
    refine h.of_blowers rfl rfl rfl fun b => ?_
    obtain ⟨target, output, protection⟩ := same b
    unfold BlowerState.Sound
    rw [State.setBlowers_blowers, target, output, protection]
    exact h.sound b
  onBlowers _ bs m s sound h := by
    refine h.of_blowers ?_ ?_ ?_ fun b => ?_ <;> simp
    exact sound b (h.sound b)
  onClear _ m s h := by
    refine h.of_blowers ?_ ?_ ?_ fun b => ?_ <;> simp [clearMovers]
    exact (h.sound b).clearLatch _ _
  onRefresh _ n s h :=
    h.of_table (by simp) (by simp) (by simp) (h.asked.of_sublist (by rw [asks_refresh]))
  onQuiet _ n s _ h :=
    h.of_table (by simp) (by simp) (by simp) (h.asked.of_sublist (by rw [asks_enterQuiet]))
  onLost _ n s _ h :=
    h.of_table (by simp) (by simp) (by simp) (h.asked.of_sublist (asks_removeEntries n (setStation n _ s)))
  onFilter _ keep s h := h.of_table rfl rfl rfl (h.asked.of_sublist (asks_filter keep _))
  onDemand _ n d s _ _ _ level h := by
    refine h.of_table rfl rfl rfl fun e he z l hl => ?_
    rw [State.setTable_table, setEntry, List.mem_append, List.mem_singleton] at he
    rcases he with old | rfl
    · exact h.asked e (List.mem_of_mem_filter old) z l hl
    · exact level z l hl
  onDisable _ n s _ h :=
    h.of_table (by simp) (by simp) (by simp)
      (h.asked.of_sublist (asks_removeEntries n (setStation n _ (setSlot n _ s))))
  onScope _ n sc s h := by
    refine h.of_table rfl rfl rfl ?_
    split
    · exact h.asked.of_sublist (asks_filter _ _)
    · exact h.asked

/-- Settles O45. -/
theorem stepKeepsStoppedBlowersAtZero : Obligations.StepKeepsStoppedBlowersAtZero :=
  fun s _ h e => (stoppedAtZero_kept s.purge).step (by decide) e h

/-! ## The actuators -/

namespace ActuatorsInRange

variable {s t : State}

theorem sound (h : ActuatorsInRange s) (a : ActuatorId) : (s.actuators.get a).Sound := (h a).2

/-- Other actuators, each in range. -/
theorem of_actuators (h : ActuatorsInRange s) (plan : t.plan = s.plan) (sound : ∀ a, (t.actuators.get a).Sound) :
    ActuatorsInRange t := by
  intro a
  rw [plan]
  exact ⟨(h a).1, sound a⟩

/-- The handing on of a plan whose targets lie in range. -/
protected theorem handOver (targets : ∀ a, s.plan.body.actuatorTargets.get a ≤ 100)
    (sound : ∀ a, (s.actuators.get a).Sound) : ActuatorsInRange (handOver s) := by
  intro a
  rw [handOver_actuators, PerActuator.get_mapWith, show (Machine.handOver s).plan = s.plan by simp]
  exact ⟨targets a, (sound a).takeTarget (targets a)⟩

end ActuatorsInRange

theorem resetPosition_le (reading closedEnd openEnd : Nat) : resetPosition reading closedEnd openEnd ≤ 100 := by
  unfold resetPosition
  split
  · exact positionOf_le _ _ _
  · exact Nat.zero_le _

theorem resetActuator_sound (held : Bool) (reading closedEnd openEnd : Nat) {target : Nat} (h : target ≤ 100) :
    (resetActuator held reading closedEnd openEnd target).Sound := by
  have still : ActuatorState.Sound ⟨target, resetPosition reading closedEnd openEnd, .still, .off,
      resetPosition reading closedEnd openEnd, 0, none, none, false, .none, !readingInRange reading, reading⟩ :=
    ⟨h, resetPosition_le _ _ _, by simp⟩
  unfold resetActuator
  dsimp only
  split
  · exact still.fromStill
  · exact still

theorem actuatorsInRange_kept (p₀ : Purge) : KeptFrom p₀ [.plan, .actuators] ActuatorsInRange where
  congr same h := by
    unfold ActuatorsInRange
    rwa [show _ = _ from same .plan (by decide), show _ = _ from same .actuators (by decide)]
  onReset fb held s _ := by
    refine ActuatorsInRange.handOver (s := resetStart fb held s) (formPlan_targets_le _) fun a => ?_
    simp only [resetStart, State.setActuators_actuators, resetActuators, PerActuator.get_ofFn]
    exact resetActuator_sound _ _ _ _ (formPlan_targets_le _ a)
  onResolve _ s h := by
    rcases resolve_cases s with ⟨-, eq⟩ | ⟨-, eq⟩
    · rw [eq]
      exact h
    · rw [eq]
      exact ActuatorsInRange.handOver (s := install _ (updateHeater s)) (formPlan_targets_le _) h.sound
  onActuators _ as m s sound h := by
    refine h.of_actuators ?_ fun a => ?_ <;> simp
    exact sound a (h.sound a)
  onClear _ m s h := by
    refine h.of_actuators ?_ fun a => ?_ <;> simp [clearMovers]
    exact (h.sound a).clearStuck

/-- Settles O48. -/
theorem stepKeepsActuatorsInRange : Obligations.StepKeepsActuatorsInRange :=
  fun s _ h e => (actuatorsInRange_kept s.purge).step (by decide) e h

end Sys2Proof.Machine
end

section
/-! The invariants of the purge (R70, R82) and of the conditions that follow an owner (R98, R119, R130, R144, R156). -/

namespace Sys2Proof.Machine

open Sys2Proof

/-! ## The purge -/

/-- A sound purge whose count is not below the one it had under way at the start of the command. -/
def PurgeNotLowered (p₀ : Purge) (s : State) : Prop :=
  s.purge.Sound ∧ (p₀.phase ≠ .idle → s.purge.phase ≠ .idle → p₀.litres ≤ s.purge.litres)

theorem purgeNotLowered_kept (p₀ : Purge) : KeptFrom p₀ [.purge] (PurgeNotLowered p₀) where
  congr same h := by
    unfold PurgeNotLowered
    rwa [show _ = _ from same .purge (by decide)]
  onReset fb held s _ := by
    rw [PurgeNotLowered, resetPart_eq, show (handOver (resetStart fb held s)).purge = Purge.idleWith .none by simp; rfl]
    exact ⟨⟨Nat.zero_le _, fun _ => rfl⟩, fun _ under_way => absurd rfl under_way⟩
  onPurge _ q s moves h := by
    obtain ⟨sound, counted⟩ := h
    obtain ⟨q_sound, not_lowered⟩ := moves sound
    refine ⟨q_sound, fun start under_way => ?_⟩
    obtain ⟨before, le⟩ := not_lowered start under_way
    exact (counted start before).trans le

/-- Settles O32. -/
theorem stepKeepsIdlePurgeEmpty : Obligations.StepKeepsIdlePurgeEmpty := fun s _ h e =>
  (purgeNotLowered_kept s.purge).step (by decide) e ⟨h, fun _ _ => le_rfl⟩

/-! ## The owned conditions -/

/-- What a condition's owner holds; a condition without an owner of its own stands as it is (R98, R119, R130, R144,
R156). -/
def State.ownerHolds (s : State) : Condition → Bool
  | .coUnderSeal => s.conditions.cabCoHigh && decide (s.plan.body.shelter = .sealed)
  | .vehicleUnverified => !s.vehicle.record.verified
  | .sensorFailed => s.sensorFailedNow
  | .motorFault => s.anyLatched
  | .actuatorStuck => s.anyStuck
  | c => s.conditions.get c

/-- Each condition but those listed is as its owner holds it. -/
def OwnedBut (cs : List Condition) (s : State) : Prop := ∀ c, c ∉ cs → s.conditions.get c = s.ownerHolds c

theorem anyLatched_iff (s : State) : s.anyLatched = true ↔ ∃ b, (s.blowers.get b).protection = .latched := by
  constructor
  · intro h
    obtain ⟨b, -, hb⟩ := List.any_eq_true.mp h
    exact ⟨b, of_decide_eq_true hb⟩
  · rintro ⟨b, hb⟩
    exact List.any_eq_true.mpr ⟨b, by cases b <;> decide, decide_eq_true hb⟩

theorem anyStuck_iff (s : State) : s.anyStuck = true ↔ ∃ a, (s.actuators.get a).motion = .stuck := by
  constructor
  · intro h
    obtain ⟨a, -, ha⟩ := List.any_eq_true.mp h
    exact ⟨a, of_decide_eq_true ha⟩
  · rintro ⟨a, ha⟩
    exact List.any_eq_true.mpr ⟨a, by cases a <;> decide, decide_eq_true ha⟩

theorem sensorFailedNow_iff (s : State) :
    s.sensorFailedNow = true ↔ ∃ e ∈ s.scan.working, (s.record.get e.channel).status = .failed := by
  simp [State.sensorFailedNow]

theorem ownedConditions_iff (s : State) : OwnedConditions s ↔ OwnedBut [] s := by
  unfold OwnedConditions
  rw [← anyLatched_iff, ← anyStuck_iff, ← sensorFailedNow_iff]
  constructor
  · rintro ⟨sealed, vehicle, sensor, motor, stuck⟩ c -
    cases c <;> try rfl
    all_goals rw [Bool.eq_iff_iff]
    · simpa [State.ownerHolds, Conditions.get] using sealed
    · simpa [State.ownerHolds, Conditions.get] using vehicle
    · exact sensor
    · exact motor
    · exact stuck
  · intro h
    have owned (c : Condition) : s.conditions.get c = true ↔ s.ownerHolds c = true := Bool.eq_iff_iff.mp (h c (by simp))
    refine ⟨?_, ?_, owned .sensorFailed, owned .motorFault, owned .actuatorStuck⟩
    · simpa [State.ownerHolds, Conditions.get] using owned .coUnderSeal
    · simpa [State.ownerHolds, Conditions.get] using owned .vehicleUnverified

namespace OwnedBut

variable {cs : List Condition} {s t : State}

/-- A change of owners alone, of conditions that are listed after it. -/
theorem change (h : OwnedBut cs s) {ds : List Condition} (conditions : t.conditions = s.conditions)
    (sub : ∀ c, c ∉ ds → c ∉ cs) (owners : ∀ c, c ∉ ds → t.ownerHolds c = s.ownerHolds c) : OwnedBut ds t := by
  intro c hc
  rw [conditions, owners c hc]
  exact h c (sub c hc)

/-- The owners read nothing of a change of one condition but the condition itself and Cab CO High. -/
theorem ownerHolds_setCondition {c d : Condition} (hd : d ≠ c) (v : Bool) (s : State)
    (co : c = .cabCoHigh → d ≠ .coUnderSeal) : (setCondition c v s).ownerHolds d = s.ownerHolds d := by
  have same := fun x (hx : x ≠ c) => (setCondition_get c x v s).trans (if_neg hx)
  cases d with
  | coUnderSeal =>
    have cabCo := same .cabCoHigh fun eq => co eq.symm rfl
    simp only [Conditions.get] at cabCo
    simp [State.ownerHolds, cabCo]
  | vehicleUnverified => simp [State.ownerHolds]
  | sensorFailed => simp [State.ownerHolds, State.sensorFailedNow]
  | motorFault => simp [State.ownerHolds, State.anyLatched]
  | actuatorStuck => simp [State.ownerHolds, State.anyStuck]
  | _ => exact same _ hd

/-- A condition without an owner, other than Cab CO High, changed. -/
protected theorem setCondition (h : OwnedBut cs s) {c : Condition} (unowned : c ∉ ownedConditions) (v : Bool) :
    OwnedBut cs (setCondition c v s) := by
  intro d hd
  by_cases eq : d = c
  · subst eq
    cases d <;> first | rfl | exact absurd (by decide) unowned
  · rw [setCondition_get, if_neg eq, ownerHolds_setCondition eq v s (fun co => absurd (by rw [co]; decide) unowned)]
    exact h d hd

/-- What an owner holds does not turn on its own condition. -/
theorem ownerHolds_setCondition_self {c : Condition} (owned : c ∈ ownedConditions) (co : c ≠ .cabCoHigh) (v : Bool)
    (s : State) : (setCondition c v s).ownerHolds c = s.ownerHolds c := by
  have cabCo := (setCondition_get c .cabCoHigh v s).trans (if_neg co.symm)
  simp only [Conditions.get] at cabCo
  cases c with
  | coUnderSeal => simp [State.ownerHolds, cabCo]
  | vehicleUnverified => simp [State.ownerHolds]
  | sensorFailed => simp [State.ownerHolds, State.sensorFailedNow]
  | motorFault => simp [State.ownerHolds, State.anyLatched]
  | actuatorStuck => simp [State.ownerHolds, State.anyStuck]
  | cabCoHigh => exact absurd rfl co
  | _ => exact absurd owned (by decide)

/-- A condition brought to what its owner holds. -/
protected theorem follow {c : Condition} (h : OwnedBut (c :: cs) s) (owned : c ∈ ownedConditions)
    (co : c ≠ .cabCoHigh) : OwnedBut cs (setCondition c (s.ownerHolds c) s) := by
  intro d hd
  by_cases eq : d = c
  · rw [eq, setCondition_get, if_pos rfl, ownerHolds_setCondition_self owned co]
  · rw [setCondition_get, if_neg eq, ownerHolds_setCondition eq _ s fun high => absurd high co]
    exact h d (by simp [eq, hd])

/-- Cab CO High changed: CO Under Seal then has to follow. -/
protected theorem cabCo (h : OwnedBut cs s) (v : Bool) : OwnedBut (.coUnderSeal :: cs) (setCondition .cabCoHigh v s) := by
  intro d hd
  obtain ⟨other, listed⟩ := not_or.mp (List.mem_cons.not.mp hd)
  by_cases eq : d = .cabCoHigh
  · subst eq
    rfl
  · rw [setCondition_get, if_neg eq, ownerHolds_setCondition eq v s fun _ => other]
    exact h d listed

/-- A mark changes neither a condition nor an owner. -/
protected theorem markAllIf (h : OwnedBut cs s) (b : Bool) (g : Group) : OwnedBut cs (markAllIf b g s) := by
  cases b <;> exact h

/-- Other blowers: Motor Fault then has to follow. -/
protected theorem setBlowers (h : OwnedBut cs s) (bs : PerBlower BlowerState) :
    OwnedBut (.motorFault :: cs) (s.setBlowers bs) :=
  h.change rfl (fun _ hc => fun mem => hc (List.mem_cons_of_mem _ mem)) fun c hc => by
    cases c <;> first | rfl | exact absurd (List.mem_cons_self) hc

/-- Other actuators: Actuator Stuck then has to follow. -/
protected theorem setActuators (h : OwnedBut cs s) (as : PerActuator ActuatorState) :
    OwnedBut (.actuatorStuck :: cs) (s.setActuators as) :=
  h.change rfl (fun _ hc => fun mem => hc (List.mem_cons_of_mem _ mem)) fun c hc => by
    cases c <;> first | rfl | exact absurd (List.mem_cons_self) hc

/-- Blowers with the same protection. -/
protected theorem sameProtection (h : OwnedBut cs s) (bs : PerBlower BlowerState)
    (same : ∀ b, (bs.get b).protection = (s.blowers.get b).protection) : OwnedBut cs (s.setBlowers bs) :=
  h.change rfl (fun _ hc => hc) fun c _ => by
    have latched : (s.setBlowers bs).anyLatched = s.anyLatched := by simp [State.anyLatched, same]
    cases c <;> first | rfl | exact latched

protected theorem checkShortfall (h : OwnedBut cs s) : OwnedBut cs (checkShortfall s) := by
  unfold Machine.checkShortfall
  split
  · exact h
  · exact OwnedBut.setCondition (s := s.setReg s.reg.idleTimers) h (by decide) false

protected theorem withRegulator (h : OwnedBut cs s) (r : Regulator) : OwnedBut cs (withRegulator r s) := by
  refine OwnedBut.checkShortfall (OwnedBut.sameProtection (s := s.setReg r) h _ fun b => ?_)
  cases b <;> rfl

end OwnedBut

/-- A target taken makes no actuator Stuck and none otherwise (R151). -/
theorem ActuatorState.takeTarget_stuck (a : ActuatorState) (t : Nat) :
    (a.takeTarget t).motion = .stuck ↔ a.motion = .stuck := by
  unfold takeTarget
  split
  · rfl
  · split
    · rfl
    · split
      · next still =>
        simp only [fromStill]
        split <;> simp [start, still]
      · next moving =>
        split
        · simp [rest, moving]
        · split <;> simp [reverse, moving]
      all_goals rfl

theorem OwnedBut.handOver {s : State} (h : OwnedBut [.coUnderSeal] s) : OwnedBut [] (handOver s) := by
  refine OwnedBut.follow (c := .coUnderSeal) ?_ (by decide) (by decide)
  have regulated := OwnedBut.withRegulator (s := markAll .plan s) h s.plannedReg
  have blown : OwnedBut [.coUnderSeal] (takeZoneBlowers (withRegulator s.plannedReg (markAll .plan s))) :=
    regulated.sameProtection _ fun b => by cases b <;> rfl
  refine blown.change rfl (fun _ hc => hc) fun c _ => ?_
  have stuck (u : State) : (takeActuatorTargets u).anyStuck = u.anyStuck := by
    simp [State.anyStuck, takeActuatorTargets, ActuatorState.takeTarget_stuck]
  cases c <;> first | rfl | exact stuck _

theorem resetActuator_motion (held : Bool) (reading closedEnd openEnd target : Nat) :
    (resetActuator held reading closedEnd openEnd target).motion ≠ .stuck := by
  unfold resetActuator ActuatorState.fromStill
  dsimp only
  split
  · split <;> simp [ActuatorState.start]
  · simp

/-- Right after reset only Vehicle Unverified is Raised of the owned conditions, as its owner has it (R93, R123). -/
theorem resetStart_owned (fb : PerActuator Nat) (held : Bool) (s : State) :
    OwnedBut [.coUnderSeal] (resetStart fb held s) := by
  have sensors : (resetStart fb held s).sensorFailedNow = false := by
    refine Bool.eq_false_iff.mpr fun failed => ?_
    obtain ⟨e, -, he⟩ := (sensorFailedNow_iff _).mp failed
    simp [resetStart, resetBase, ChannelRecord.blank] at he
  have latched : (resetStart fb held s).anyLatched = false := by
    refine Bool.eq_false_iff.mpr fun failed => ?_
    obtain ⟨b, hb⟩ := (anyLatched_iff _).mp failed
    simp [resetStart, resetBase, resetBlower_eq] at hb
  have stuck : (resetStart fb held s).anyStuck = false := by
    refine Bool.eq_false_iff.mpr fun failed => ?_
    obtain ⟨a, ha⟩ := (anyStuck_iff _).mp failed
    simp only [resetStart, State.setActuators_actuators, resetActuators, PerActuator.get_ofFn] at ha
    exact resetActuator_motion _ _ _ _ _ ha
  intro c hc
  cases c <;> first | rfl | exact absurd (by decide) hc | exact sensors.symm | exact latched.symm | exact stuck.symm

theorem ownedConditions_kept (p₀ : Purge) :
    KeptFrom p₀ [.conditions, .plan, .vehicle, .scan, .record, .blowers, .actuators] (OwnedBut []) where
  congr {s t} same h := by
    refine h.change (same .conditions (by decide)) (fun _ hc => hc) fun c _ => ?_
    cases c <;> simp [State.ownerHolds, State.sensorFailedNow, State.anyLatched, State.anyStuck,
      show t.conditions = _ from same .conditions (by decide), show t.plan = _ from same .plan (by decide),
      show t.vehicle = _ from same .vehicle (by decide), show t.scan = _ from same .scan (by decide),
      show t.record = _ from same .record (by decide), show t.blowers = _ from same .blowers (by decide),
      show t.actuators = _ from same .actuators (by decide)]
  onReset fb held s _ := OwnedBut.handOver (resetStart_owned fb held s)
  onResolve _ s h := by
    rcases resolve_cases s with ⟨-, eq⟩ | ⟨-, eq⟩
    · rw [eq]
      exact h
    · rw [eq]
      refine OwnedBut.handOver (s := install _ (updateHeater s)) ?_
      exact h.change rfl (fun _ _ => by simp) fun c hc => by cases c <;> first | rfl | exact absurd (by decide) hc
  onCondition _ c v s unowned h := h.setCondition unowned v
  onCabCo _ f r v s h :=
    (OwnedBut.cabCo (s := s.setScene { s.scene with frontCo := f, rearCo := r }) h v).follow (by decide) (by decide)
  onRegulator _ r s _ _ h := h.withRegulator r
  onTimers _ v s same h := h.change rfl (fun _ hc => hc) fun c _ => by
    cases c <;> first | rfl | simp [State.ownerHolds, same]
  onVehicle _ v s h := by
    have changed : OwnedBut [.vehicleUnverified] (markAll .vehicle (s.setVehicle v)) :=
      h.change rfl (fun _ _ => by simp) fun c hc => by cases c <;> first | rfl | exact absurd (by decide) hc
    exact changed.follow (by decide) (by decide)
  onDetectors _ bs s same h := h.sameProtection bs fun b => (same b).2.2
  onBlowers _ bs m s _ h := ((h.setBlowers bs).markAllIf m .movers).follow (by decide) (by decide)
  onActuators _ as m s _ h := ((h.setActuators as).markAllIf m .movers).follow (by decide) (by decide)
  onClear _ m s h := by
    have cleared : OwnedBut [.motorFault, .actuatorStuck] (markAllIf m .movers (clearMovers s)) := by
      refine OwnedBut.markAllIf (s := clearMovers s) ?_ m .movers
      exact ((h.setBlowers _).setActuators _).change rfl (fun c hc => by simpa [or_comm] using hc) fun _ _ => rfl
    exact (cleared.follow (by decide) (by decide)).follow (c := .actuatorStuck) (by decide) (by decide)
  onSample _ c raw now s _ h := by
    have sampled (r : PerChannel ChannelRecord) : OwnedBut [.sensorFailed] (s.setRecord r) :=
      h.change rfl (fun _ _ => by simp) fun c hc => by cases c <;> first | rfl | exact absurd (by decide) hc
    exact (sampled _).follow (by decide) (by decide)
  onScan _ sc s same h := h.change rfl (fun _ hc => hc) fun c _ => by
    have sensors : (s.setScan sc).sensorFailedNow = s.sensorFailedNow := by
      unfold State.sensorFailedNow
      rw [State.setScan_scan, same]
      rfl
    cases c <;> first | rfl | exact sensors
  onList _ l s h := by
    have listed : OwnedBut [.sensorFailed] (dropChannels l (s.setScan { s.scan with working := l })) :=
      h.change rfl (fun _ _ => by simp) fun c hc => by cases c <;> first | rfl | exact absurd (by decide) hc
    refine OwnedBut.follow (c := .sensorFailed) ?_ (by decide) (by decide)
    split
    · exact listed
    · exact listed.setCondition (by decide) _

/-- Settles O34. -/
theorem stepKeepsOwnedConditions : Obligations.StepKeepsOwnedConditions := fun s t h e =>
  (ownedConditions_iff t).mpr
    ((ownedConditions_kept s.purge).step (by decide) e ((ownedConditions_iff s).mp h))

end Sys2Proof.Machine
end

section
/-! The invariants of the Request Table: keys distinct (R12), and Held with Quiet (R1, R13). -/

namespace Sys2Proof.Machine

open Sys2Proof

/-! ## Keys distinct -/

theorem keysOf_eq_asks (t : List Entry) : keysOf t = (asks t).map fun a => (a.1, a.2.key) := by
  simp [keysOf, asks]

/-- At most 24 entries, no two with one key (R12). -/
def TableDistinct (t : List Entry) : Prop := t.length ≤ 24 ∧ (keysOf t).Nodup

theorem TableDistinct.of_asks {t u : List Entry} (h : TableDistinct t) (sub : (asks u).Sublist (asks t)) :
    TableDistinct u := by
  obtain ⟨few, nodup⟩ := h
  have shorter : u.length ≤ t.length := by simpa [asks] using sub.length_le
  refine ⟨shorter.trans few, ?_⟩
  rw [keysOf_eq_asks] at nodup ⊢
  exact nodup.sublist (sub.map _)

/-- The entry of a key removed leaves no other entry of the key (R18). -/
theorem notMem_keysOf_withoutKey (n : Station) (k : Key) (t : List Entry) : (n, k) ∉ keysOf (withoutKey n k t) := by
  intro mem
  obtain ⟨e, he, key⟩ := List.mem_map.mp mem
  obtain ⟨station, kind⟩ := Prod.mk.inj key
  simpa [Entry.hasKey, station, kind] using List.of_mem_filter he

theorem withoutKey_length_lt {n : Station} {k : Key} {t : List Entry} (h : hasKeyIn n k t = true) :
    (withoutKey n k t).length < t.length := by
  obtain ⟨e, he, hk⟩ := List.any_eq_true.mp h
  exact List.length_filter_lt_length_iff_exists.mpr ⟨e, he, by simp [hk]⟩

theorem TableDistinct.setEntry {t : List Entry} (h : TableDistinct t) {n : Station} {d : Demand}
    (room : hasKeyIn n d.key t = true ∨ t.length < 24) : TableDistinct (setEntry n d t) := by
  have rest : TableDistinct (withoutKey n d.key t) := h.of_asks (asks_filter _ _)
  have fewer : (withoutKey n d.key t).length < 24 := by
    rcases room with has | short
    · exact (withoutKey_length_lt has).trans_le h.1
    · exact (List.length_filter_le _ _).trans_lt short
  refine ⟨by simpa [Machine.setEntry] using fewer, ?_⟩
  rw [Machine.setEntry, keysOf, List.map_append]
  refine List.nodup_append'.mpr ⟨rest.2, by simp, ?_⟩
  exact List.disjoint_singleton.mpr (notMem_keysOf_withoutKey n d.key t)

theorem keysDistinct_kept (p₀ : Purge) : KeptFrom p₀ [.table] KeysDistinct where
  congr same h := by
    unfold KeysDistinct
    rwa [show _ = _ from same .table (by decide)]
  onReset fb held s _ := by
    rw [KeysDistinct, resetPart_eq, show (handOver (resetStart fb held s)).table = [] by simp; rfl]
    exact ⟨Nat.zero_le _, List.nodup_nil⟩
  onRefresh _ n s h := TableDistinct.of_asks h (by rw [asks_refresh])
  onQuiet _ n s _ h := TableDistinct.of_asks h (by rw [asks_enterQuiet])
  onLost _ n s _ h := TableDistinct.of_asks h (asks_removeEntries n (setStation n _ s))
  onFilter _ keep s h := TableDistinct.of_asks h (asks_filter keep _)
  onDemand _ n d s _ room _ _ h := by
    refine TableDistinct.setEntry h ?_
    rcases Bool.eq_false_or_eq_true (hasKeyIn n d.key s.table) with has | hasNot
    · exact .inl has
    · simp only [State.tableFull, hasNot, Bool.not_false, Bool.true_and, decide_eq_false_iff_not, Nat.not_le] at room
      exact .inr room
  onDisable _ n s _ h := TableDistinct.of_asks h (asks_removeEntries n (setStation n _ (setSlot n _ s)))
  onScope _ n sc s h := by
    refine TableDistinct.of_asks h ?_
    rw [State.setTable_table]
    split
    · exact asks_filter _ _
    · exact List.Sublist.refl _

/-! ## Held with Quiet -/

/-- An entry belongs to a Live or Quiet station and is Held exactly where that station is Quiet (R13). -/
def EntryLawful (m : StationMode) (e : Entry) : Prop := (m = .live ∨ m = .quiet) ∧ (e.held = true ↔ m = .quiet)

namespace HeldWithQuiet

variable {s t : State}

theorem entry (h : HeldWithQuiet s) {e : Entry} (he : e ∈ s.table) : EntryLawful (s.modeOf e.station) e := h.2 e he

/-- A station that is neither Live nor Quiet has no entry. -/
theorem station_ne (h : HeldWithQuiet s) {n : Station} (live : s.modeOf n ≠ .live) (quiet : s.modeOf n ≠ .quiet)
    {e : Entry} (he : e ∈ s.table) : e.station ≠ n := by
  rintro rfl
  exact (h.entry he).1.elim live quiet

/-- The entries of a station that is not Quiet are Active. -/
theorem active (h : HeldWithQuiet s) {e : Entry} (he : e ∈ s.table) (live : s.modeOf e.station ≠ .quiet) :
    e.held = false := Bool.eq_false_iff.mpr fun held => live ((h.entry he).2.mp held)

/-- Stations and slots as they were, and no entry but old ones. -/
theorem of_same (h : HeldWithQuiet s) (stations : ∀ n, t.modeOf n = s.modeOf n)
    (slots : ∀ n, (t.slot n).enabled = (s.slot n).enabled) (table : ∀ e ∈ t.table, e ∈ s.table) : HeldWithQuiet t := by
  refine ⟨fun n => by rw [stations, slots]; exact h.1 n, fun e he => ?_⟩
  rw [stations]
  exact h.2 e (table e he)

/-- One station brought to another state, its slot and its entries with it. -/
theorem of_move (h : HeldWithQuiet s) (n : Station) {r : StationState} {en : Bool}
    (stations : t.stations = s.stations.set n r)
    (slots : ∀ m, (t.slot m).enabled = if m = n then en else (s.slot m).enabled) (disabled : r.mode = .disabled ↔ en = false)
    (table : ∀ e ∈ t.table, if e.station = n then EntryLawful r.mode e else e ∈ s.table) : HeldWithQuiet t := by
  have modes (m : Station) : t.modeOf m = if m = n then r.mode else s.modeOf m := by
    rw [State.modeOf, stations, PerStation.get_set]
    split <;> rfl
  refine ⟨fun m => ?_, fun e he => ?_⟩
  · rw [modes, slots]
    split
    · exact disabled
    · exact h.1 m
  · have lawful := table e he
    rw [modes]
    split
    · next eq => rwa [if_pos eq] at lawful
    · next ne =>
      rw [if_neg ne] at lawful
      exact h.2 e lawful

/-- One station brought to another state with its slot as it was. -/
theorem of_station (h : HeldWithQuiet s) (n : Station) {r : StationState} (stations : t.stations = s.stations.set n r)
    (slots : ∀ m, (t.slot m).enabled = (s.slot m).enabled) (on : s.modeOf n ≠ .disabled) (stays : r.mode ≠ .disabled)
    (table : ∀ e ∈ t.table, if e.station = n then EntryLawful r.mode e else e ∈ s.table) : HeldWithQuiet t := by
  refine h.of_move n (en := (s.slot n).enabled) stations (fun m => ?_) ?_ table
  · rw [slots]
    split
    · next eq => rw [eq]
    · rfl
  · rw [← h.1 n]
    exact ⟨fun no => absurd no stays, fun no => absurd no on⟩

/-- The entries of one station brought to Held or Active, as its state asks. -/
theorem holdEntries_lawful {n : Station} {held : Bool} {m : StationMode} (lawful : (m = .live ∨ m = .quiet) ∧ (held = true ↔ m = .quiet))
    {u : State} {e : Entry} (he : e ∈ (holdEntries n held u).table) :
    if e.station = n then EntryLawful m e else e ∈ u.table := by
  obtain ⟨e', he', rfl⟩ := List.mem_map.mp he
  by_cases eq : e'.station = n
  · simp [eq, EntryLawful, lawful]
  · simpa [eq] using he'

theorem removeEntries_lawful {n : Station} {m : StationMode} {u : State} {e : Entry}
    (he : e ∈ (removeEntries n u).table) : if e.station = n then EntryLawful m e else e ∈ u.table := by
  obtain ⟨old, other⟩ := List.mem_filter.mp he
  rw [if_neg (of_decide_eq_true other)]
  exact old

protected theorem refresh (h : HeldWithQuiet s) (n : Station) : HeldWithQuiet (refresh n s) := by
  by_cases off : s.modeOf n = .disabled
  · unfold Machine.refresh
    rwa [off]
  refine h.of_station n (refresh_stations off) (fun m => by simp [State.slot]) off nofun ?_
  have unmoved (old : s.modeOf n ≠ .quiet) (e : Entry) (he : e ∈ s.table) :
      if e.station = n then EntryLawful .live e else e ∈ s.table := by
    split
    · next eq =>
      subst eq
      simp [EntryLawful, h.active he old]
    · exact he
  unfold Machine.refresh
  cases hm : s.modeOf n with
  | disabled => exact absurd hm off
  | live => exact unmoved (by simp [hm])
  | absent => exact unmoved (by simp [hm])
  | lost => exact unmoved (by simp [hm])
  | quiet => exact fun e he => holdEntries_lawful (u := setStation n ⟨.live, 0⟩ s) (by simp) he

end HeldWithQuiet

theorem heldWithQuiet_kept (p₀ : Purge) : KeptFrom p₀ [.stations, .settings, .table] HeldWithQuiet where
  congr {s t} same h :=
    h.of_same (fun n => by rw [State.modeOf, show t.stations = _ from same .stations (by decide)]; rfl)
      (fun n => by rw [State.slot, show t.settings = _ from same .settings (by decide)]; rfl)
      (fun e he => by rwa [show t.table = _ from same .table (by decide)] at he)
  onReset fb held s _ := by
    rw [resetPart_eq]
    refine ⟨fun n => ?_, fun e he => ?_⟩
    · simp [State.modeOf, State.slot, resetStart, resetBase, resetStations]
      split <;> simp_all
    · simp [resetStart, resetBase] at he
  onRefresh _ n s h := h.refresh n
  onQuiet _ n s due h := by
    have live : s.modeOf n = .live := of_decide_eq_true (Bool.and_eq_true_iff.mp due).1
    refine h.of_station n (r := { s.stations.get n with mode := .quiet }) (by simp [enterQuiet, setStation])
      (fun m => by simp [State.slot]) (by simp [live]) nofun fun e he => ?_
    exact HeldWithQuiet.holdEntries_lawful (u := setStation n _ s) (by simp) he
  onLost _ n s due h := by
    have quiet : s.modeOf n = .quiet := of_decide_eq_true (Bool.and_eq_true_iff.mp due).1
    refine h.of_station n (r := ⟨.lost, 0⟩) (by simp [setStation]) (fun m => by simp [State.slot]) (by simp [quiet])
      nofun fun e he => ?_
    exact HeldWithQuiet.removeEntries_lawful (u := setStation n _ s) he
  onCounts _ s h := by
    refine h.of_same (fun n => ?_) (fun _ => rfl) fun _ he => he
    simp only [State.modeOf, advanceCounts, State.setStations_stations, PerStation.get_map]
    unfold StationState.advance
    split <;> rfl
  onFilter _ keep s h := h.of_same (fun _ => rfl) (fun _ => rfl) fun _ he => List.mem_of_mem_filter he
  onDemand _ n d s live _ _ _ h := by
    refine ⟨h.1, fun e he => ?_⟩
    rcases List.mem_append.mp he with old | new
    · exact h.2 e (List.mem_of_mem_filter old)
    · rw [List.mem_singleton.mp new]
      exact ⟨.inl live, ⟨nofun, fun quiet => absurd (live.symm.trans quiet) nofun⟩⟩
  onDisable _ n s on h := by
    refine h.of_move n (r := ⟨.disabled, 0⟩) (en := false) (by simp [setStation]) (fun m => ?_) (by simp) fun e he => ?_
    · simp only [State.slot, removeEntries_kept, setStation_kept, setSlot, State.setSettings_settings, PerStation.get_set]
      split <;> rfl
    · exact HeldWithQuiet.removeEntries_lawful (u := setStation n _ (setSlot n _ s)) he
  onEnable _ n s off _ h := by
    refine h.of_move n (r := ⟨.absent, 0⟩) (en := true) (by simp [setStation]) (fun m => ?_) (by simp) fun e he => ?_
    · simp only [State.slot, setStation_kept, setSlot, State.setSettings_settings, PerStation.get_set]
      split <;> rfl
    · have disabled := (h.1 n).mpr off
      have old : e ∈ s.table := by simpa using he
      rwa [if_neg (h.station_ne (by simp [disabled]) (by simp [disabled]) old)]
  onScope _ n sc s h := by
    refine h.of_same (fun _ => rfl) (fun m => ?_) fun e he => ?_
    · simp only [State.slot, State.setTable_settings, setSlot, State.setSettings_settings, PerStation.get_set]
      split
      · next eq => rw [eq]
      · rfl
    · rw [State.setTable_table] at he
      split at he
      · exact List.mem_of_mem_filter he
      · exact he
  onSettings _ g s _ _ slots h := h.of_same (fun _ => rfl) (fun n => (slots n).1) fun _ he => he
  onMask _ w s h := h.of_same (fun _ => by simp [State.modeOf]) (fun _ => by simp [State.slot]) fun _ he => by simpa using he

/-- Settles O21. -/
theorem stepKeepsTheTableLawful : Obligations.StepKeepsTheTableLawful := fun s _ e =>
  ⟨(keysDistinct_kept s.purge).step (by decide) e, (heldWithQuiet_kept s.purge).step (by decide) e⟩

end Sys2Proof.Machine
end

section
/-! What the Plan Resolver sees of a state (R24, R25): states that look the same to it form the same plan. -/

namespace Sys2Proof.Machine

open Sys2Proof

/-- What the Plan Resolver sees of a state (R25). -/
structure PlanView where
  winner : Key → Option Entry
  request : Bool
  defaultSetpoint : Int
  onPump : Bool
  shelter : Nat × Nat × Nat
  fresh : Nat × Nat × Nat
  latch : Bool
  heater : Bool
  phase : PurgePhase
  scope : Option PurgeScope
  pump : Bool
  ignition : Bool
  engine : Bool
  frontTemp : Option Int
  rearTemp : Option Int
  coolantTemp : Option Int
  heavySmoke : Bool
  outsideCoHigh : Bool
  cabCoHigh : Bool
  supplyLow : Bool

def State.planView (s : State) : PlanView where
  winner := s.winner
  request := s.requestSource
  defaultSetpoint := s.settings.defaultSetpoint
  onPump := s.settings.shelterOnPump
  shelter := (s.settings.shelterTarget, s.settings.shelterBase, s.settings.shelterFloor)
  fresh := (s.settings.freshTarget, s.settings.freshBase, s.settings.freshFloor)
  latch := s.resolver.autoLatch
  heater := s.heaterNext
  phase := s.purge.phase
  scope := s.purge.scope
  pump := s.vehicle.record.pump
  ignition := s.vehicle.record.ignition
  engine := s.vehicle.record.engine
  frontTemp := (s.channel .frontTemp).shown
  rearTemp := (s.channel .rearTemp).shown
  coolantTemp := (s.channel .coolantTemp).shown
  heavySmoke := s.conditions.get .heavySmoke
  outsideCoHigh := s.conditions.get .outsideCoHigh
  cabCoHigh := s.conditions.get .cabCoHigh
  supplyLow := s.conditions.get .supplyLow

/-- The Plan Resolver sees the same in both states. -/
def SeesSame (s t : State) : Prop := t.planView = s.planView

/-- The conditions that the Plan Resolver reads (R24). -/
def planConditions : List Condition := [.heavySmoke, .outsideCoHigh, .cabCoHigh, .supplyLow]

/-- The settings that the Plan Resolver reads beside the slots (R48). -/
def planSettings (g : Settings) : Int × Bool × (Nat × Nat × Nat) × (Nat × Nat × Nat) :=
  (g.defaultSetpoint, g.shelterOnPump, (g.shelterTarget, g.shelterBase, g.shelterFloor),
    (g.freshTarget, g.freshBase, g.freshFloor))

/-- The best of some entries turns on their ranks alone. -/
theorem foldl_keepBest_congr {s t : State} {l : List Entry} :
    (∀ e ∈ l, (t.slot e.station).rank = (s.slot e.station).rank) →
      ∀ best : Option Entry, (∀ o, best = some o → (t.slot o.station).rank = (s.slot o.station).rank) →
        l.foldl t.keepBest best = l.foldl s.keepBest best := by
  induction l with
  | nil => exact fun _ _ _ => rfl
  | cons e l ih =>
    intro ranks best of_best
    have own := ranks e (by simp)
    have kept : t.keepBest best e = s.keepBest best e := by
      cases best with
      | none => rfl
      | some o =>
        have beats : t.beats e o = s.beats e o := by
          unfold State.beats
          rw [of_best o rfl, own]
        rw [State.keepBest, State.keepBest, beats]
    rw [List.foldl_cons, List.foldl_cons, kept]
    refine ih (fun x hx => ranks x (by simp [hx])) _ fun o ho => ?_
    cases best with
    | none => cases ho; exact own
    | some x =>
      simp only [State.keepBest] at ho
      split at ho <;> cases ho
      · exact own
      · exact of_best _ rfl

/-- The winners turn on the table and on the ranks and scopes of the stations with entries in it. -/
theorem winner_congr {s t : State} (ranks : ∀ e ∈ s.table, (t.slot e.station).rank = (s.slot e.station).rank)
    (eligible : ∀ k, ∀ e ∈ s.table, t.eligible k e = s.eligible k e) (table : t.table = s.table) :
    t.winner = s.winner := by
  funext k
  rw [State.winner, State.winner, table, List.filter_congr (eligible k)]
  exact foldl_keepBest_congr (fun e he => ranks e (List.mem_of_mem_filter he)) none nofun

namespace SeesSame

variable {s t u : State}

protected theorem refl (s : State) : SeesSame s s := rfl

protected theorem trans (h : SeesSame s t) (h' : SeesSame t u) : SeesSame s u := Eq.trans h' h

/-- The Resolver's view block by block, with the winners of the key groups. -/
theorem of_winner (winner : t.winner = s.winner) (settings : planSettings t.settings = planSettings s.settings)
    (table : t.table = s.table) (resolver : t.resolver = s.resolver)
    (phase : t.purge.phase = s.purge.phase) (scope : t.purge.scope = s.purge.scope)
    (vehicle : t.vehicle.record = s.vehicle.record)
    (temps : ∀ c, planTemperature c = true → (t.channel c).shown = (s.channel c).shown)
    (conditions : ∀ c ∈ planConditions, t.conditions.get c = s.conditions.get c) : SeesSame s t := by
  simp only [planSettings, Prod.mk.injEq] at settings
  obtain ⟨setpoint, pump, ⟨st, sb, sf⟩, ft, fb, ff⟩ := settings
  have heater : t.heaterNext = s.heaterNext := by
    unfold State.heaterNext
    rw [temps .coolantTemp (by decide), resolver, vehicle]
  unfold SeesSame State.planView State.requestSource
  rw [heater, winner, table, setpoint, pump, st, sb, sf, ft, fb, ff, resolver, phase, scope, vehicle,
    temps .frontTemp (by decide), temps .rearTemp (by decide), temps .coolantTemp (by decide),
    conditions .heavySmoke (by decide), conditions .outsideCoHigh (by decide), conditions .cabCoHigh (by decide),
    conditions .supplyLow (by decide)]

/-- The Resolver's view block by block. -/
theorem of_parts (slots : ∀ n, (t.slot n).rank = (s.slot n).rank ∧ (t.slot n).scope = (s.slot n).scope)
    (settings : planSettings t.settings = planSettings s.settings) (table : t.table = s.table)
    (resolver : t.resolver = s.resolver) (phase : t.purge.phase = s.purge.phase)
    (scope : t.purge.scope = s.purge.scope) (vehicle : t.vehicle.record = s.vehicle.record)
    (temps : ∀ c, planTemperature c = true → (t.channel c).shown = (s.channel c).shown)
    (conditions : ∀ c ∈ planConditions, t.conditions.get c = s.conditions.get c) : SeesSame s t :=
  of_winner (winner_congr (fun e _ => (slots e.station).1)
    (fun k e _ => by unfold State.eligible; rw [(slots e.station).2]) table) settings table resolver phase scope vehicle
    temps conditions

/-- Blocks that stand as they were look as they did. -/
theorem of_kept (settings : t.settings = s.settings := by simp) (table : t.table = s.table := by simp)
    (resolver : t.resolver = s.resolver := by simp) (purge : t.purge = s.purge := by simp)
    (vehicle : t.vehicle = s.vehicle := by simp) (record : t.record = s.record := by simp)
    (conditions : ∀ c ∈ planConditions, t.conditions.get c = s.conditions.get c := by simp) : SeesSame s t :=
  of_parts (fun n => by rw [State.slot, State.slot, settings]; exact ⟨rfl, rfl⟩) (by rw [settings]) table resolver
    (by rw [purge]) (by rw [purge]) (by rw [vehicle]) (fun c _ => by rw [State.channel, State.channel, record]) conditions

theorem setCondition {c : Condition} (hc : c ∉ planConditions) (v : Bool) (s : State) :
    SeesSame s (setCondition c v s) :=
  of_kept (conditions := fun d hd => by
    rw [setCondition_get, if_neg]
    rintro rfl
    exact hc hd)

theorem of_handedOn (h : HandedOn s t) : SeesSame s t :=
  of_kept (h.parts .settings (by decide)) (h.parts .table (by decide)) (h.parts .resolver (by decide))
    (h.parts .purge (by decide)) (h.parts .vehicle (by decide)) (h.parts .record (by decide))
    fun c hc => h.conditions c fun listed => by
      revert c
      decide

theorem shelterNow (h : SeesSame s t) : t.shelterNow = s.shelterNow := by
  simp only [SeesSame, State.planView, PlanView.mk.injEq, Conditions.get] at h
  unfold State.shelterNow State.pumpSource
  simp only [h]

theorem coFlushNow (h : SeesSame s t) : t.coFlushNow = s.coFlushNow := by
  have shelter := h.shelterNow
  simp only [SeesSame, State.planView, PlanView.mk.injEq, Conditions.get] at h
  unfold State.coFlushNow
  simp only [shelter, h]

theorem ignitionOffNow (h : SeesSame s t) : t.ignitionOffNow = s.ignitionOffNow := by
  have shelter := h.shelterNow
  simp only [SeesSame, State.planView, PlanView.mk.injEq, Conditions.get] at h
  unfold State.ignitionOffNow
  simp only [shelter, h]

theorem shedNow (h : SeesSame s t) : t.shedNow = s.shedNow := by
  simp only [SeesSame, State.planView, PlanView.mk.injEq, Conditions.get] at h
  unfold State.shedNow
  simp only [h]

theorem heaterNext (h : SeesSame s t) : t.heaterNext = s.heaterNext := congrArg PlanView.heater h

theorem winner (h : SeesSame s t) : t.winner = s.winner := congrArg PlanView.winner h

theorem cabModeNow (h : SeesSame s t) : t.cabModeNow = s.cabModeNow := by
  have shelter := h.shelterNow
  have ignition := h.ignitionOffNow
  have flush := h.coFlushNow
  simp only [SeesSame, State.planView, PlanView.mk.injEq, Conditions.get] at h
  unfold State.cabModeNow State.outsideAirNow State.takenMode
  simp only [shelter, ignition, flush, h]

theorem layered (h : SeesSame s t) : t.layered = s.layered := by
  have shelter := h.shelterNow
  have ignition := h.ignitionOffNow
  have flush := h.coFlushNow
  have mode := h.cabModeNow
  have heater := h.heaterNext
  simp only [SeesSame, State.planView, PlanView.mk.injEq, Prod.mk.injEq, Conditions.get] at h
  unfold State.layered State.layer1 State.layer2 State.layer3 State.layer4 State.layer5 State.layer6 State.fillFresh
  simp only [shelter, ignition, flush, mode, heater, h]

theorem setpointNow (h : SeesSame s t) (z : Zone) : t.setpointNow z = s.setpointNow z := by
  simp only [SeesSame, State.planView, PlanView.mk.injEq] at h
  unfold State.setpointNow setpointOf
  simp only [h]

theorem fanNow (h : SeesSame s t) (z : Zone) : t.fanNow z = s.fanNow z := by
  unfold State.fanNow
  rw [h.winner]

theorem zoneTemp (h : SeesSame s t) (z : Zone) : t.zoneTemp z = s.zoneTemp z := by
  simp only [SeesSame, State.planView, PlanView.mk.injEq] at h
  cases z <;> simp only [State.zoneTemp, h]

theorem mixNow (h : SeesSame s t) (z : Zone) : t.mixNow z = s.mixNow z := by
  cases z <;> simp only [State.mixNow, h.layered, h.setpointNow, h.zoneTemp]

theorem zoneBlowerNow (h : SeesSame s t) (z : Zone) : t.zoneBlowerNow z = s.zoneBlowerNow z := by
  cases z <;> simp only [State.zoneBlowerNow, h.layered, h.setpointNow, h.fanNow, h.zoneTemp]

theorem heaterValveNow (h : SeesSame s t) : t.heaterValveNow = s.heaterValveNow := by
  simp only [State.heaterValveNow, h.heaterNext, h.layered, h.mixNow]

/-- States that look the same to the Plan Resolver form the same plan (R25). -/
theorem formPlan (h : SeesSame s t) : formPlan t = formPlan s := by
  have view := h
  simp only [SeesSame, State.planView, PlanView.mk.injEq] at view
  unfold Machine.formPlan State.pumpSource
  simp only [h.shelterNow, h.cabModeNow, h.setpointNow, h.fanNow, h.zoneBlowerNow, h.layered, h.shedNow,
    h.heaterValveNow, h.mixNow, h.heaterNext, h.coFlushNow, h.ignitionOffNow, view]

/-- The heater availability kept for the next resolution is the one already seen (R45). -/
theorem updateHeater (s : State) : SeesSame s (updateHeater s) := by
  have heater : (Machine.updateHeater s).heaterNext = s.heaterNext := by
    have resolver : (Machine.updateHeater s).resolver.heater = s.heaterNext := rfl
    have channel : (Machine.updateHeater s).channel .coolantTemp = s.channel .coolantTemp := rfl
    have vehicle : (Machine.updateHeater s).vehicle = s.vehicle := rfl
    rw [State.heaterNext, resolver, channel, vehicle, State.heaterNext]
    cases (s.channel .coolantTemp).shown with
    | none => rfl
    | some v => dsimp only; split_ifs <;> rfl
  unfold SeesSame State.planView
  rw [heater]
  rfl

end SeesSame

end Sys2Proof.Machine
end

section
/-! Steps of the Purge Controller, and events that leave the Air Plan the plan that its inputs form (R24, R25). -/

namespace Sys2Proof.Machine

open Sys2Proof

/-! ## Steps of the Purge Controller -/

/-- From `s` to `t` only the purge changes, and Purge Incomplete with its pin and marks (R82, R84). -/
structure PurgeStep (s t : State) : Prop where
  parts : ChangesOnly [.purge, .conditions, .alert, .marks] s t
  conditions : ConditionsChangeOnly [.purgeIncomplete] s t
  marks : MarksChangeOnly [.conditions] s t

namespace PurgeStep

variable {s t u : State}

protected theorem refl (s : State) : PurgeStep s s := ⟨ChangesOnly.refl _ s, fun _ _ => rfl, fun _ _ _ => rfl⟩

protected theorem trans (h : PurgeStep s t) (h' : PurgeStep t u) : PurgeStep s u :=
  ⟨h.parts.trans h'.parts, h.conditions.trans h'.conditions, h.marks.trans h'.marks⟩

protected theorem setPurge (p : Purge) (s : State) : PurgeStep s (s.setPurge p) :=
  ⟨(setPurge_changesOnly p s).mono (by decide), fun _ _ => rfl, fun _ _ _ => rfl⟩

protected theorem incomplete (v : Bool) (s : State) : PurgeStep s (setCondition .purgeIncomplete v s) := by
  obtain ⟨get, -, -, marks, parts⟩ := setCondition_spec .purgeIncomplete v s
  exact ⟨parts.mono (by decide), fun c hc => by rw [get, if_neg (by simpa using hc)], marks⟩

protected theorem endPurge (r : PurgeResult) (s : State) : PurgeStep s (endPurge r s) := by
  have ended := endPurge_clearedPurge r s
  exact ⟨ended.parts, ended.conditions, ended.marks⟩

/-- A step taken or not. -/
protected theorem ite {c : Prop} [Decidable c] (h : PurgeStep s t) : PurgeStep s (if c then t else s) := by
  split
  · exact h
  · exact .refl s

protected theorem fallbackTest (s : State) : PurgeStep s (fallbackTest s) := (PurgeStep.endPurge .doneTimed s).ite

protected theorem enterPhase (p : PurgePhase) (s : State) : PurgeStep s (enterPhase p s) :=
  (PurgeStep.setPurge _ s).trans (.fallbackTest _)

protected theorem startPurge (sc : PurgeScope) (o : Originator) (s : State) : PurgeStep s (startPurge sc o s) :=
  ((PurgeStep.incomplete false s).trans (.setPurge _ _)).trans (.enterPhase _ _)

protected theorem purgeDoors (before : PerDoor Bool) (s : State) : PurgeStep s (purgeDoors before s) := by
  unfold Machine.purgeDoors
  split
  · exact (PurgeStep.enterPhase _ s).ite
  · exact (PurgeStep.enterPhase _ s).ite
  · exact .refl s
  · exact .refl s

protected theorem purgeHeavy (s : State) : PurgeStep s (purgeHeavy s) := by
  unfold Machine.purgeHeavy
  split
  · exact (PurgeStep.enterPhase _ s).ite
  · split
    · exact .refl s
    · exact .enterPhase _ s
  · exact .refl s
  · exact .refl s

protected theorem crewReturn (s : State) : PurgeStep s (crewReturn s) := (PurgeStep.startPurge _ _ s).ite

protected theorem requestPurge (n : Station) (sc : PurgeScope) (s : State) : PurgeStep s (requestPurge n sc s) := by
  unfold Machine.requestPurge
  split
  · exact .startPurge _ _ s
  · exact (PurgeStep.setPurge _ s).ite

protected theorem armedLimit (s : State) : PurgeStep s (armedLimit s) := (PurgeStep.endPurge _ s).ite

protected theorem deferredLimit (s : State) : PurgeStep s (deferredLimit s) := (PurgeStep.endPurge _ s).ite

protected theorem flushingLimit (s : State) : PurgeStep s (flushingLimit s) := (PurgeStep.endPurge _ s).ite

protected theorem purgeLimits (s : State) : PurgeStep s (purgeLimits s) :=
  (((PurgeStep.armedLimit s).trans (.deferredLimit _)).trans (.fallbackTest _)).trans (.flushingLimit _)

protected theorem countSample (units : Nat) (s : State) : PurgeStep s (countSample units s) := by
  unfold Machine.countSample
  split
  · exact (PurgeStep.setPurge _ s).trans (.endPurge _ _)
  · exact .setPurge _ s

protected theorem flowSample (previous : Option (BitVec 32)) (time : BitVec 32) (s : State) :
    PurgeStep s (flowSample previous time s) := by
  unfold Machine.flowSample
  split
  · split
    · exact .countSample _ s
    · exact .fallbackTest s
  · exact .refl s

/-- A step that leaves phase and scope shows the Plan Resolver nothing. -/
theorem sees (h : PurgeStep s t) (phase : t.purge.phase = s.purge.phase) (scope : t.purge.scope = s.purge.scope) :
    SeesSame s t := by
  have settings : t.settings = s.settings := h.parts .settings (by decide)
  have record : t.record = s.record := h.parts .record (by decide)
  refine .of_parts (fun n => by rw [State.slot, State.slot, settings]; exact ⟨rfl, rfl⟩) (by rw [settings])
    (h.parts .table (by decide)) (h.parts .resolver (by decide)) phase scope
    (congrArg Vehicle.record (h.parts .vehicle (by decide)))
    (fun c _ => by rw [State.channel, State.channel, record]) fun c hc => h.conditions c fun listed => ?_
  revert c
  decide

end PurgeStep

/-! ## Events that keep the plan current -/

/-- From `s` to `t` nothing that the Plan Resolver sees has changed, nor the plan, or the plan has been formed anew. -/
def Follows (s t : State) : Prop := (t.plan.body = s.plan.body ∧ SeesSame s t) ∨ PlanCurrent t

theorem PlanCurrent.follow {s t : State} (h : PlanCurrent s) (f : Follows s t) : PlanCurrent t := by
  rcases f with ⟨plan, sees⟩ | current
  · rw [PlanCurrent, plan, sees.formPlan]
    exact h
  · exact current

namespace Follows

variable {s t u : State}

protected theorem refl (s : State) : Follows s s := .inl ⟨rfl, .refl s⟩

protected theorem trans (h : Follows s t) (h' : Follows t u) : Follows s u := by
  rcases h with ⟨plan, sees⟩ | current
  · rcases h' with ⟨plan', sees'⟩ | current'
    · exact .inl ⟨plan'.trans plan, sees.trans sees'⟩
    · exact .inr current'
  · exact .inr (current.follow h')

theorem of_sees (sees : SeesSame s t) (plan : t.plan = s.plan := by simp) : Follows s t := .inl ⟨by rw [plan], sees⟩

/-- Blocks that stand as they were leave the plan current. -/
theorem of_kept (settings : t.settings = s.settings := by simp) (table : t.table = s.table := by simp)
    (resolver : t.resolver = s.resolver := by simp) (purge : t.purge = s.purge := by simp)
    (vehicle : t.vehicle = s.vehicle := by simp) (record : t.record = s.record := by simp)
    (conditions : ∀ c ∈ planConditions, t.conditions.get c = s.conditions.get c := by simp)
    (plan : t.plan = s.plan := by simp) : Follows s t :=
  of_sees (.of_kept settings table resolver purge vehicle record conditions) plan

protected theorem resolve (s t : State) : Follows s (resolve t) := .inr (resolve_resolved t).current

/-- A resolution where the trigger is given for whatever the Plan Resolver could see. -/
protected theorem resolveIf {b : Bool} (h : b = true ∨ Follows s t) : Follows s (resolveIf b t) := by
  rcases resolveIf_cases b t with ⟨-, eq⟩ | ⟨off, eq⟩
  · rw [eq]
    exact .resolve s t
  · rw [eq]
    exact h.resolve_left (by simp [off])

theorem setCondition {c : Condition} (hc : c ∉ planConditions) (v : Bool) (s : State) :
    Follows s (setCondition c v s) := of_sees (.setCondition hc v s)

theorem of_handedOn (h : HandedOn s t) : Follows s t := of_sees (.of_handedOn h) (h.parts .plan (by decide))

theorem withRegulator (r : Regulator) (s : State) : Follows s (withRegulator r s) :=
  of_handedOn (withRegulator_handedOn r s)

/-- An event of the Purge Controller: a change of phase or scope is a trigger (R32). -/
protected theorem purgeEvent {f : State → State} (h : PurgeStep s (f s)) : Follows s (purgeEvent f s) := by
  unfold Machine.purgeEvent
  split
  · next same => exact of_sees (h.sees same.1 same.2) (h.parts .plan (by decide))
  · exact .resolve s _

/-- An event that changes conditions gives its trigger whatever else it changed. -/
protected theorem blowerEvent (bs : PerBlower BlowerState) (s : State) : Follows s (blowerEvent bs s) :=
  .resolveIf (.inr ((of_kept (t := markAllIf _ .movers (s.setBlowers bs))).trans (.setCondition (by decide) _ _)))

protected theorem actuatorEvent (as : PerActuator ActuatorState) (s : State) : Follows s (actuatorEvent as s) :=
  .resolveIf (.inr ((of_kept (t := markAllIf _ .movers (s.setActuators as))).trans (.setCondition (by decide) _ _)))

protected theorem clearLatches (s : State) : Follows s (clearLatches s) := by
  have cleared : Follows s (markAllIf (decide (0 < s.latchedCount + s.stuckCount)) .movers (clearMovers s)) := by
    refine of_kept ?_ ?_ ?_ ?_ ?_ ?_ ?_ ?_ <;> simp [clearMovers]
  exact .resolveIf (.inr ((cleared.trans (.setCondition (by decide) _ _)).trans (.setCondition (by decide) _ _)))

/-! ## The vehicle -/

/-- A vehicle taken in and handed on: a changed record is a trigger (R24, R99). -/
protected theorem handOnVehicle (turn : Turn) {trigger : Bool} (crew : Bool) (v : Vehicle)
    (h : trigger = true ∨ Follows s t) : Follows s (handOnVehicle turn trigger crew v t) := by
  unfold Machine.handOnVehicle
  split
  · next same =>
    refine .resolveIf (h.imp_right fun f => f.trans (of_sees (.of_parts (fun n => ⟨rfl, rfl⟩) rfl rfl rfl rfl rfl ?_
      (fun _ _ => rfl) fun _ _ => rfl)))
    exact same
  · cases turn with
    | purgeFirst => exact .resolve s _
    | resolverFirst =>
      have handed (u : State) : Follows u (handPurge t.vehicle.record.doors crew (handDoors u)) := by
        refine (withRegulator _ u).trans (.purgeEvent (PurgeStep.trans ?_ (.purgeDoors _ _)))
        split
        · exact .crewReturn _
        · exact .refl _
      exact .inr (PlanCurrent.follow (resolve_resolved _).current (handed _))

/-- The end of an event that may have changed the Vehicle-class station: its trigger is given for whatever the Plan
Resolver could see. -/
protected theorem settleVehicle (turn : Turn) {trigger : Bool} (before : State) (h : trigger = true ∨ Follows s t) :
    Follows s (settleVehicle turn trigger before t) := by
  unfold Machine.settleVehicle
  split
  · exact .resolveIf h
  · exact .handOnVehicle turn false _ h

/-! ## Stations -/

/-- A refresh shows the Plan Resolver nothing but the entries of a Quiet station (R4). -/
theorem refresh_of_ne (n : Station) {s : State} (h : s.modeOf n ≠ .quiet) : Follows s (refresh n s) := by
  have table : (Machine.refresh n s).table = s.table := by
    unfold Machine.refresh
    cases hm : s.modeOf n <;> first | exact absurd hm h | simp [setStation, markStation]
  exact of_kept (table := table)

protected theorem refresh (n : Station) (s : State) :
    decide (s.modeOf n = .quiet) = true ∨ Follows s (refresh n s) := by
  by_cases h : s.modeOf n = .quiet
  · exact .inl (decide_eq_true h)
  · exact .inr (refresh_of_ne n h)

protected theorem arrive (n : Station) (s : State) : Follows s (arrive n s) :=
  .settleVehicle _ s (Follows.refresh n s)

protected theorem quietStep (n : Station) (s : State) : s.quietDue n = true ∨ Follows s (quietStep n s) := by
  unfold Machine.quietStep
  cases s.quietDue n with
  | true => exact .inl rfl
  | false => exact .inr (.refl s)

protected theorem lostStep (n : Station) (s : State) : s.lostDue n = true ∨ Follows s (lostStep n s) := by
  unfold Machine.lostStep
  cases s.lostDue n with
  | true => exact .inl rfl
  | false => exact .inr (.refl s)

protected theorem lostOne (turn : Turn) (s : State) (n : Station) : Follows s (lostOne turn s n) :=
  .settleVehicle turn s (Follows.lostStep n s)

/-- The entries of a station that has none removed. -/
theorem removeEntries_table {n : Station} {s : State} (h : s.entriesOf n = 0) : (removeEntries n s).table = s.table := by
  refine List.filter_eq_self.mpr fun e he => ?_
  have none := List.filter_eq_nil_iff.mp (List.eq_nil_of_length_eq_zero h) e he
  simpa using none

/-- The entries of a station removed, a trigger where it had any (R19). -/
theorem entriesTrigger (n : Station) {s t : State} (table : t.table = (removeEntries n s).table)
    (rest : t.table = s.table → Follows s t) : decide (0 < s.entriesOf n) = true ∨ Follows s t := by
  by_cases h : 0 < s.entriesOf n
  · exact .inl (decide_eq_true h)
  · exact .inr (rest (table.trans (removeEntries_table (Nat.eq_zero_of_not_pos h))))

/-! ## Supervision at a Frame Mark -/

end Follows

/-- At a Frame Mark from a current plan, the plan is current or a station stands before its entry to Lost, with its
trigger to come (R6, log entry 7). -/
def CurrentOrDue (l : List Station) (s : State) : Prop := PlanCurrent s ∨ ∃ n ∈ l, s.lostDue n = true

theorem settleVehicle_lostDue (turn : Turn) (trigger : Bool) (before s : State) (n : Station) :
    (settleVehicle turn trigger before s).lostDue n = s.lostDue n := by
  have stations : (settleVehicle turn trigger before s).stations = s.stations := by simp
  have settings : (settleVehicle turn trigger before s).settings = s.settings := by simp
  rw [State.lostDue, State.modeOf, stations, settings]
  rfl

/-- The entry to Quiet of one station moves no other. -/
theorem quietStep_lostDue {m n : Station} {s : State} (h : s.lostDue n = true) : (quietStep m s).lostDue n = true := by
  unfold quietStep
  split
  · next due =>
    have ne : n ≠ m := by
      rintro rfl
      have quiet : s.modeOf n = .quiet := of_decide_eq_true (Bool.and_eq_true_iff.mp h).1
      have live : s.modeOf n = .live := of_decide_eq_true (Bool.and_eq_true_iff.mp due).1
      exact absurd (quiet.symm.trans live) nofun
    have station : (enterQuiet m s).stations.get n = s.stations.get n := by
      simp [enterQuiet, holdEntries, setStation, ne]
    have settings : (enterQuiet m s).settings = s.settings := by simp
    rw [State.lostDue, State.modeOf, station, settings]
    exact h
  · exact h

theorem quietOne_currentOrDue (turn : Turn) (m : Station) {l : List Station} (hl : ∀ n, n ∈ l) {s : State}
    (h : CurrentOrDue l s) : CurrentOrDue l (quietOne turn s m) := by
  unfold quietOne
  split
  · next due => exact .inr ⟨m, hl m, due⟩
  · rcases h with current | ⟨n, hn, due⟩
    · exact .inl (current.follow (.settleVehicle turn s (Follows.quietStep m s)))
    · exact .inr ⟨n, hn, (settleVehicle_lostDue _ _ _ _ _).trans (quietStep_lostDue due)⟩

/-- A state that follows every other has a current plan. -/
theorem Follows.current {t : State} (h : ∀ s, Follows s t) : PlanCurrent t :=
  PlanCurrent.follow (s := t.setPlan ⟨0#16, formPlan t⟩) rfl (h _)

theorem lostOne_currentOrDue (turn : Turn) (m : Station) {l : List Station} {s : State}
    (h : CurrentOrDue (m :: l) s) : CurrentOrDue l (lostOne turn s m) := by
  by_cases lost : s.lostDue m = true
  · exact .inl (Follows.current fun _ => .settleVehicle turn s (.inl lost))
  · have idle : lostOne turn s m = s := by simp [lostOne, lostStep, settleVehicle, resolveIf, lost]
    rw [idle]
    rcases h with current | ⟨n, hn, due⟩
    · exact .inl current
    · rcases List.mem_cons.mp hn with rfl | rest
      · exact absurd due lost
      · exact .inr ⟨n, rest, due⟩

theorem superviseMark_current (turn : Turn) {s : State} (h : PlanCurrent s) : PlanCurrent (superviseMark turn s) := by
  have every (n : Station) : n ∈ Station.all := by cases n <;> decide
  have quiet (l : List Station) : ∀ u, CurrentOrDue Station.all u → CurrentOrDue Station.all (l.foldl (quietOne turn) u) := by
    induction l with
    | nil => exact fun _ hu => hu
    | cons m l ih => exact fun u hu => ih _ (quietOne_currentOrDue turn m every hu)
  have lost (l : List Station) : ∀ u, CurrentOrDue l u → CurrentOrDue [] (l.foldl (lostOne turn) u) := by
    induction l with
    | nil => exact fun _ hu => hu
    | cons m l ih => exact fun u hu => ih _ (lostOne_currentOrDue turn m hu)
  have counted : PlanCurrent (advanceCounts s) := h.follow .of_kept
  exact (lost _ _ (quiet _ _ (.inl counted))).resolve_right (by simp)

end Sys2Proof.Machine
end

section
/-! Requests, samples and passes leave the Air Plan the plan that its inputs form (R24, R25). -/

namespace Sys2Proof.Machine

open Sys2Proof

namespace Follows

variable {s t u : State}

/-! ## Requests -/

protected theorem applyDemand (n : Station) (d : Demand) (code : AnswerCode) (s : State) :
    Follows s (applyDemand n d code s).state := by
  unfold Machine.applyDemand
  split
  · exact .refl s
  · exact .resolve s _

protected theorem serveSetpoint (n : Station) (zone value : Word) (s : State) :
    Follows s (serveSetpoint n zone value s).state := by
  unfold Machine.serveSetpoint
  split
  · exact .refl s
  · split
    · exact .applyDemand _ _ _ s
    · exact .refl s

protected theorem serveFan (n : Station) (zone level : Word) (s : State) :
    Follows s (serveFan n zone level s).state := by
  unfold Machine.serveFan
  split
  · exact .refl s
  · split
    · exact .applyDemand _ _ _ s
    · exact .refl s

protected theorem serveMode (n : Station) (mode : Word) (s : State) : Follows s (serveMode n mode s).state := by
  unfold Machine.serveMode
  split
  · exact .refl s
  · exact .applyDemand _ _ _ s

protected theorem withdrawKey (n : Station) (k : Key) (s : State) : Follows s (withdrawKey n k s) := by
  unfold Machine.withdrawKey
  split
  · exact .resolve s _
  · exact .refl s

protected theorem serveWithdraw (n : Station) (kind zone : Word) (s : State) :
    Follows s (serveWithdraw n kind zone s).state := by
  unfold Machine.serveWithdraw
  split
  · exact .refl s
  · exact .withdrawKey _ _ s

protected theorem serveShelter (n : Station) (code : Word) (s : State) : Follows s (serveShelter n code s).state := by
  unfold Machine.serveShelter
  split
  · exact .refl s
  · exact .applyDemand _ _ _ s
  · exact .withdrawKey _ _ s

protected theorem serveWithdrawAll (n : Station) (s : State) : Follows s (serveWithdrawAll n s).state :=
  .resolveIf (entriesTrigger n rfl fun table => of_kept (table := table))

/-- Without a Shelter entry and without the latch a release shows the Plan Resolver nothing (R20). -/
protected theorem serveRelease (n : Station) (s : State) : Follows s (serveRelease n s).state := by
  unfold Machine.serveRelease
  split
  · exact .refl s
  · refine .resolveIf ?_
    by_cases h : (s.requestSource || s.resolver.autoLatch) = true
    · exact .inl h
    · obtain ⟨request, latch⟩ := Bool.or_eq_false_iff.mp (Bool.eq_false_iff.mpr h)
      have table : withoutShelter s.table = s.table := by
        refine List.filter_eq_self.mpr fun e he => ?_
        simpa using List.any_eq_false.mp request e he
      have resolver : ({ s.resolver with autoLatch := false } : Resolver) = s.resolver := by rw [← latch]
      exact .inr (of_kept (table := table) (resolver := resolver))

protected theorem serveRestart (n : Station) (s : State) : Follows s (serveRestart n s).state := by
  refine .resolveIf (entriesTrigger n ?_ fun table => of_kept (table := table))
  simp [dropStation, markStation, setDetached]

protected theorem serveCancel (n : Station) (s : State) : Follows s (serveCancel n s).state := by
  unfold Machine.serveCancel
  split
  · exact .refl s
  · split
    · exact .purgeEvent (.endPurge _ s)
    · exact .refl s

protected theorem servePurge (n : Station) (scope : Word) (s : State) : Follows s (servePurge n scope s).state := by
  unfold Machine.servePurge
  split
  · exact .refl s
  · split
    · exact .purgeEvent (.requestPurge _ _ s)
    · exact .refl s

protected theorem serveClearLatches (n : Station) (s : State) : Follows s (serveClearLatches n s).state := by
  unfold Machine.serveClearLatches
  split
  · exact .refl s
  · exact .clearLatches s

protected theorem serveReadout (n : Station) (start count : Word) (s : State) :
    Follows s (serveReadout n start count s).state := by
  unfold Machine.serveReadout
  split
  · exact .refl s
  · split
    · exact .refl s
    · exact of_kept (t := acceptReadout n _ _ s)

protected theorem serveJoin (n : Station) (mask decimation : Word) (s : State) :
    Follows s (serveJoin n mask decimation s).state := by
  refine of_kept ?_ ?_ ?_ ?_ ?_ ?_ ?_ ?_ <;> simp

protected theorem serveLeave (n : Station) (s : State) : Follows s (serveLeave n s).state := by
  refine of_kept ?_ ?_ ?_ ?_ ?_ ?_ ?_ ?_ <;> simp

protected theorem serveStore (s : State) : Follows s (serveStore s).state := by
  unfold Machine.serveStore
  split
  · split
    · exact .refl s
    · exact of_kept
  · exact .refl s

protected theorem setWindow (h : Follows s t) (n : Station) (w : Window) : Follows s (setWindow n w t) :=
  h.trans of_kept

/-- A cell taken: the refresh, then the request (R2, R4). -/
protected theorem takeCell {n : Station} {kind : Byte} {perm : Permission} {serve : State → Served} {s : State}
    (h : Follows (arrive n s) (serve (arrive n s)).state) : Follows s (takeCell n kind perm serve s) := by
  unfold Machine.takeCell Machine.serveCell
  split
  · split
    · exact ((Follows.arrive n s).trans h).setWindow _ _
    · exact (Follows.arrive n s).setWindow _ _
  · exact .refl s

protected theorem takeReport (fields doors : Word) (turn : Turn) {trigger : Bool} (h : trigger = true ∨ Follows s t) :
    Follows s (takeReport fields doors turn trigger t) :=
  .handOnVehicle turn _ _ h

protected theorem takeVehicleReport (n : Station) (fields doors : Word) (turn : Turn) (s : State) :
    Follows s (takeVehicleReport n fields doors turn s) := by
  unfold Machine.takeVehicleReport
  split
  · split
    · exact (Follows.takeReport fields doors turn (Follows.refresh n s)).setWindow _ _
    · exact (Follows.arrive n s).setWindow _ _
  · exact .refl s

/-! ## Samples -/

/-- An event that changed no condition that the Plan Resolver reads, or gave its trigger (R24, R124). -/
protected theorem resolveEvent {before : Conditions} {trigger : Bool}
    (h : t.conditions = before → trigger = false → Follows s t) : Follows s (resolveEvent before trigger t) := by
  unfold Machine.resolveEvent
  split
  · exact .resolve s t
  · next quiet =>
    simp only [Bool.or_eq_true, decide_eq_true_eq, not_or, Bool.not_eq_true, not_not] at quiet
    exact h quiet.2 quiet.1

/-- A temperature of the plan whose sample gives no trigger shows the Plan Resolver nothing (R24). -/
theorem shown_of_no_trigger {c : CalChannel} (hc : planTemperature c = true) {before after : ChannelRecord}
    (h : sampleTrigger c before after = false) : after.shown = before.shown := by
  simp only [sampleTrigger, hc, Bool.true_and, Bool.or_eq_false_iff, decide_eq_false_iff_not, ne_eq, not_not] at h
  obtain ⟨⟨not_fresh, not_held⟩, same⟩ := h
  unfold ChannelRecord.shown
  rw [same]
  cases ha : after.status <;> simp_all

end Follows

theorem recordSample_record (c : Channel) (raw : Nat) (now : BitVec 32) (s : State) :
    (recordSample c raw now s).record = s.record.set c ((s.record.get c).take
      (sampleGood c raw s.conditions.converterDrift) (sampleValue s.settings c raw) now) := by
  simp [recordSample, updateSensorFailed]

theorem channel_eq_get (s : State) (c : CalChannel) : s.channel c = s.record.get (.cal c) := rfl

/-- An event of the Purge Controller leaves phase and scope, or ends in a resolution (R32). -/
theorem purgeEvent_cases {f : State → State} {s : State} (h : PurgeStep s (f s)) :
    (PurgeStep s (purgeEvent f s) ∧ (purgeEvent f s).purge.phase = s.purge.phase ∧
      (purgeEvent f s).purge.scope = s.purge.scope) ∨
    purgeEvent f s = resolve (markAll .purge (f s)) := by
  by_cases same : (f s).purge.phase = s.purge.phase ∧ (f s).purge.scope = s.purge.scope
  · have eq : purgeEvent f s = f s := if_pos same
    rw [eq]
    exact .inl ⟨h, same⟩
  · exact .inr (if_neg same)

/-- The Purge Controller's part of a conversion end, as a step (R78, R79, R85). -/
def sampleStep (k : CalChannel) (heavy : Bool) (previous : Option (BitVec 32)) (time : BitVec 32) (s : State) : State :=
  if k = .intakeFlow then flowSample previous time s
  else if s.conditions.heavySmoke = heavy then s else purgeHeavy s

theorem purgeSample_eq (k : CalChannel) (heavy : Bool) (previous : Option (BitVec 32)) (time : BitVec 32) (s : State) :
    purgeSample k heavy previous time s = purgeEvent (sampleStep k heavy previous time) s := rfl

theorem PurgeStep.sampleStep (k : CalChannel) (heavy : Bool) (previous : Option (BitVec 32)) (time : BitVec 32)
    (s : State) : PurgeStep s (sampleStep k heavy previous time s) := by
  unfold Machine.sampleStep
  split
  · exact .flowSample _ _ s
  · split
    · exact .refl s
    · exact .purgeHeavy s

namespace Follows

/-- The Resolver of the state `u` after a sample on channel `k`, from the state `s` before it: nothing but the record
of that channel and conditions has changed. -/
theorem of_sample {s u : State} {k : CalChannel} (settings : u.settings = s.settings) (table : u.table = s.table)
    (resolver : u.resolver = s.resolver) (phase : u.purge.phase = s.purge.phase) (scope : u.purge.scope = s.purge.scope)
    (vehicle : u.vehicle = s.vehicle) (plan : u.plan = s.plan) (conditions : ∀ c ∈ planConditions, u.conditions.get c = s.conditions.get c)
    (others : ∀ d, d ≠ k → u.channel d = s.channel d) (quiet : sampleTrigger k (s.channel k) (u.channel k) = false) :
    Follows s u := by
  refine of_sees (.of_parts (fun n => by rw [State.slot, State.slot, settings]; exact ⟨rfl, rfl⟩) (by rw [settings])
    table resolver phase scope (by rw [vehicle]) (fun d hd => ?_) conditions) plan
  by_cases eq : d = k
  · subst eq
    exact shown_of_no_trigger hd quiet
  · rw [others d eq]

protected theorem handOnSample {k : CalChannel} {now : BitVec 32} (turn : Turn) {s t : State}
    (settings : t.settings = s.settings) (table : t.table = s.table) (resolver : t.resolver = s.resolver)
    (purge : t.purge = s.purge) (vehicle : t.vehicle = s.vehicle) (plan : t.plan = s.plan)
    (others : ∀ d, d ≠ k → t.channel d = s.channel d) : Follows s (handOnSample k now turn s t) := by
  unfold Machine.handOnSample
  set u := updateLatch s.conditions.smokeOutside (handSample k t) with hu
  have channels (d : CalChannel) : u.channel d = t.channel d := by simp [hu, State.channel]
  have unlatched (same : u.conditions.smokeOutside = s.conditions.smokeOutside) : u.resolver = s.resolver := by
    have conditions : u.conditions = (handSample k t).conditions := by simp [hu]
    rw [conditions] at same
    rw [hu, updateLatch, if_pos same]
    simpa using resolver
  have sampled {w : State} (step : PurgeStep u w) (phase : w.purge.phase = u.purge.phase)
      (scope : w.purge.scope = u.purge.scope) (same : w.conditions = s.conditions)
      (quiet : sampleTrigger k (s.channel k) (t.channel k) = false) : Follows s w := by
    have record : w.record = u.record := step.parts .record (by decide)
    have outside := step.conditions .smokeOutside (by decide)
    have now_channels (d : CalChannel) : w.channel d = t.channel d := by
      rw [← channels d, State.channel, record]
      rfl
    have same_purge : u.purge = s.purge := by simp [hu, purge]
    refine of_sample (k := k) ((step.parts .settings (by decide)).trans ?_) ((step.parts .table (by decide)).trans ?_)
      ((step.parts .resolver (by decide)).trans (unlatched ?_)) (by rw [phase, same_purge]) (by rw [scope, same_purge])
      ((step.parts .vehicle (by decide)).trans ?_) ((step.parts .plan (by decide)).trans ?_) (fun c _ => by rw [same])
      (fun d hd => (now_channels d).trans (others d hd)) (by rwa [now_channels])
    · simp [hu, settings]
    · simp [hu, table]
    · simpa [Conditions.get, same] using outside.symm
    · simp [hu, vehicle]
    · simp [hu, plan]
  cases turn with
  | resolverFirst =>
    have resolved := Follows.resolveEvent (sampled (.refl u) rfl rfl)
    exact resolved.trans (.purgeEvent (.sampleStep k _ (s.channel k).sampleTime now _))
  | purgeFirst =>
    refine Follows.resolveEvent fun same quiet => ?_
    rcases purgeEvent_cases (.sampleStep k s.conditions.heavySmoke (s.channel k).sampleTime now u) with
      ⟨step, phase, scope⟩ | eq
    · exact sampled step phase scope same quiet
    · rw [purgeSample_eq, eq]
      exact .resolve s _

/-- The checks of the converter and the record of a sample change nothing else that the Plan Resolver sees. -/
protected theorem sampleEnd (c : Channel) (raw : Nat) (now : BitVec 32) (turn : Turn) (s : State) :
    Follows s (sampleEnd c raw now turn s) := by
  unfold Machine.sampleEnd
  set t := recordSample c raw now (judgeCheck c (sampleGood c raw false) s) with ht
  have record (d : CalChannel) (hd : Channel.cal d ≠ c) : t.channel d = s.channel d := by
    simp [channel_eq_get, ht, recordSample_record, hd]
  have check (hc : ∀ k, c ≠ .cal k) : Follows s (resolveEvent s.conditions false t) := by
    refine Follows.resolveEvent fun same _ => of_sees (.of_parts (fun n => ?_) ?_ ?_ ?_ ?_ ?_ ?_ (fun d _ => ?_)
      fun d _ => ?_) ?_
    · simp [ht, State.slot]
    all_goals first | rw [record d (hc d).symm] | rw [same] | simp [ht]
  cases c with
  | cal k =>
    refine .handOnSample turn ?_ ?_ ?_ ?_ ?_ ?_ (fun d hd => record d (by simpa using hd)) <;> simp [ht]
  | reference => exact check nofun
  | ground => exact check nofun

/-! ## Passes -/

protected theorem captureTrend (s : State) : Follows s (captureTrend s) := of_kept

protected theorem trendPassEnd (s : State) : Follows s (trendPassEnd s) := of_kept

protected theorem setScan (sc : Scan) (s : State) : Follows s (s.setScan sc) := of_kept

protected theorem endPass (s : State) : Follows s (endPass s) := by
  have drift : Follows s (judgeDrift s) := by
    unfold Machine.judgeDrift
    split
    · exact .resolveEvent fun _ _ => .setCondition (by decide) _ _
    · exact .refl s
  exact drift.trans (.trendPassEnd _)

/-- A temperature that a new list drops without a loss showed nothing (R111, R120). -/
theorem shown_of_not_lost {l : List ScanEntry} {s t : State}
    (record : t.record = s.record.mapWith fun c r => if listHas l c then r else ChannelRecord.blank)
    {k : CalChannel} (h : k ∉ lostChannels s.record t.record) : (t.channel k).shown = (s.channel k).shown := by
  have entry : t.channel k = if listHas l (.cal k) then s.channel k else ChannelRecord.blank := by
    rw [channel_eq_get, channel_eq_get, record, PerChannel.get_mapWith]
  rw [entry]
  split
  · rfl
  · next dropped =>
    have every : k ∈ CalChannel.all := by cases k <;> decide
    have unsampled : (t.record.cal.get k).status = .unsampled := by
      have blank : t.record.cal.get k = ChannelRecord.blank := by
        rw [if_neg dropped] at entry
        exact entry
      rw [blank]
      rfl
    have before : (s.record.cal.get k).status = .unsampled := by
      by_contra sampled
      exact h (List.mem_filter.mpr ⟨every, by simp [sampled, unsampled]⟩)
    rw [ChannelRecord.shown, ChannelRecord.shown, State.channel, before]
    rfl

protected theorem adoptList (l : List ScanEntry) (turn : Turn) (s : State) : Follows s (adoptList l turn s) := by
  unfold Machine.adoptList
  set t := listConditions l (dropChannels l (s.setScan { s.scan with working := l })) with ht
  set lost := lostChannels s.record t.record with hlost
  set u := lost.foldl (fun t k => handSample k t) t with hu
  have handed : ∀ (ks : List CalChannel) (v : State), (ks.foldl (fun t k => handSample k t) v).settings = v.settings ∧
      (ks.foldl (fun t k => handSample k t) v).table = v.table ∧
      (ks.foldl (fun t k => handSample k t) v).resolver = v.resolver ∧
      (ks.foldl (fun t k => handSample k t) v).purge = v.purge ∧
      (ks.foldl (fun t k => handSample k t) v).vehicle = v.vehicle ∧
      (ks.foldl (fun t k => handSample k t) v).record = v.record ∧
      (ks.foldl (fun t k => handSample k t) v).plan = v.plan := by
    intro ks
    induction ks with
    | nil => exact fun v => ⟨rfl, rfl, rfl, rfl, rfl, rfl, rfl⟩
    | cons k ks ih => exact fun v => by simp [ih (handSample k v)]
  obtain ⟨settings, table, resolver, purge, vehicle, record, plan⟩ := handed lost t
  have quiet_sees {w : State} (step : PurgeStep u w) (phase : w.purge.phase = u.purge.phase)
      (scope : w.purge.scope = u.purge.scope) (same : w.conditions = s.conditions)
      (quiet : lost.any planTemperature = false) : Follows s w := by
    have w_record : w.record = t.record := (step.parts .record (by decide)).trans record
    have w_settings : w.settings = s.settings := ((step.parts .settings (by decide)).trans settings).trans (by simp [ht])
    have u_purge : u.purge = s.purge := purge.trans (by simp [ht])
    refine of_sees (.of_parts (fun n => by rw [State.slot, State.slot, w_settings]; exact ⟨rfl, rfl⟩) (by rw [w_settings])
      ?_ ?_ (by rw [phase, u_purge]) (by rw [scope, u_purge]) ?_ (fun k hk => ?_) fun c _ => by rw [same]) ?_
    · exact ((step.parts .table (by decide)).trans table).trans (by simp [ht])
    · exact ((step.parts .resolver (by decide)).trans resolver).trans (by simp [ht])
    · rw [(step.parts .vehicle (by decide)).trans vehicle]
      simp [ht]
    · refine (congrArg ChannelRecord.shown (?_ : w.channel k = t.channel k)).trans
        (shown_of_not_lost (l := l) (by simp [ht, dropChannels]) fun mem => ?_)
      · rw [State.channel, w_record]
        rfl
      · exact List.any_eq_false.mp quiet k mem hk
    · exact ((step.parts .plan (by decide)).trans plan).trans (by simp [ht])
  have fallback (v : State) : Follows v (if lost.any (fun k => decide (k = .intakeFlow)) then purgeEvent fallbackTest v
      else v) := by
    split
    · exact .purgeEvent (.fallbackTest v)
    · exact .refl v
  cases turn with
  | resolverFirst =>
    have resolved := Follows.resolveEvent (quiet_sees (.refl u) rfl rfl)
    exact resolved.trans (fallback _)
  | purgeFirst =>
    refine Follows.resolveEvent fun same quiet => ?_
    dsimp only at same ⊢
    split at same
    · next flow =>
      rw [if_pos flow]
      rcases purgeEvent_cases (PurgeStep.fallbackTest u) with ⟨step, phase, scope⟩ | eq
      · exact quiet_sees step phase scope same quiet
      · rw [eq]
        exact .resolve s _
    · next other =>
      rw [if_neg other]
      exact quiet_sees (.refl u) rfl rfl same quiet

protected theorem beginPass (now : BitVec 32) (turn : Turn) (s : State) : Follows s (beginPass now turn s) := by
  have staged : Follows s (takeStaged turn s) := by
    unfold takeStaged
    split
    · exact .refl s
    · exact .adoptList _ turn s
  exact staged.trans (.setScan _ _)

protected theorem nextPass (now : BitVec 32) (turn : Turn) (s : State) : Follows s (nextPass now turn s) :=
  (Follows.setScan _ s).trans (.beginPass now turn _)

protected theorem elapse (n : Nat) (s : State) : Follows s (elapse n s) := by
  refine of_kept ?_ ?_ ?_ ?_ ?_ ?_ ?_ ?_ <;> simp [Machine.elapse]

protected theorem advanceTo (due : BitVec 32) (s : State) : Follows s (advanceTo due s) := .elapse _ s

protected theorem conversionEnd (raw : BitVec 14) (turn : Turn) (s : State) : Follows s (conversionEnd raw turn s) := by
  unfold Machine.conversionEnd
  split
  · next e rest since _ =>
    refine ((Follows.advanceTo (since + BitVec.ofNat 32 e.timeClass) s).trans
      (.sampleEnd e.channel raw.toNat (since + BitVec.ofNat 32 e.timeClass) turn _)).trans ?_
    dsimp only [continueWalk]
    split
    · exact .setScan _ _
    · exact (Follows.endPass _).trans (.nextPass _ turn _)
  · exact .refl s
  · exact .refl s

protected theorem emptyPassEnd (turn : Turn) (s : State) : Follows s (emptyPassEnd turn s) := by
  unfold Machine.emptyPassEnd
  split
  · exact ((Follows.advanceTo _ s).trans (.endPass _)).trans (.nextPass _ turn _)
  · exact .refl s
  · exact .refl s

protected theorem restartScan (s : State) : Follows s (restartScan s) := by
  unfold Machine.restartScan
  split
  · exact .beginPass _ _ s
  · exact .refl s

end Follows

end Sys2Proof.Machine
end

section
/-! Settings writes, the Loop Port and every command leave the Air Plan the plan that its inputs form, and the table
within its stations' scopes (R24, R25, R27). -/

namespace Sys2Proof.Machine

open Sys2Proof

/-! ## Entries within their scopes -/

/-- Within its station's scope an entry takes part in the group of its key and in no other (R27). -/
theorem eligible_of_within {s : State} {e : Entry} (h : e.demand.within (s.slot e.station).scope = true) (k : Key) :
    s.eligible k e = decide (e.demand.key = k) := by
  unfold State.eligible
  by_cases key : e.demand.key = k
  · subst key
    cases hd : e.demand <;> simp_all [Demand.within, Demand.key]
  · simp [key]

/-- The entries that a new scope covers, all of them where none is removed. -/
theorem within_of_length {n : Station} {sc : Scope} {t : List Entry}
    (h : ¬(withoutUncovered n sc t).length < t.length) {e : Entry} (he : e ∈ t) :
    e.station ≠ n ∨ e.demand.within sc = true := by
  have all := List.filter_eq_self.mp (List.filter_sublist.eq_of_length_le (Nat.le_of_not_lt h)) e he
  simpa using all

/-- The table is lawful and within its stations' scopes. -/
def TableInScope (s : State) : Prop := HeldWithQuiet s ∧ EntriesInScope s

theorem EntriesInScope.of_asks {s t : State} (h : EntriesInScope s)
    (slots : ∀ n, (t.slot n).scope = (s.slot n).scope) (sub : (asks t.table).Sublist (asks s.table)) :
    EntriesInScope t := by
  intro e he
  obtain ⟨e', he', station, demand⟩ := exists_of_asks_sublist sub he
  rw [slots, ← station, ← demand]
  exact h e' he'

theorem tableInScope_kept (p₀ : Purge) : KeptFrom p₀ [.stations, .settings, .table] TableInScope :=
  let lawful := heldWithQuiet_kept p₀
  { congr := fun {s t} same h => ⟨lawful.congr same h.1, h.2.of_asks
      (fun n => by rw [State.slot, show t.settings = _ from same .settings (by decide)]; rfl)
      (by rw [show t.table = _ from same .table (by decide)])⟩
    onReset := fun fb held s h => ⟨lawful.onReset fb held s h.1, fun e he => by
      simp [resetPart_eq, resetStart, resetBase] at he⟩
    onRefresh := fun _ n s h => ⟨h.1.refresh n, h.2.of_asks (fun m => by simp [State.slot]) (by rw [asks_refresh])⟩
    onQuiet := fun touched n s due h => ⟨lawful.onQuiet touched n s due h.1,
      h.2.of_asks (fun m => by simp [State.slot]) (by rw [asks_enterQuiet])⟩
    onLost := fun touched n s due h => ⟨lawful.onLost touched n s due h.1,
      h.2.of_asks (fun m => by simp [State.slot]) (asks_removeEntries n (setStation n _ s))⟩
    onCounts := fun touched s h => ⟨lawful.onCounts touched s h.1, h.2⟩
    onFilter := fun touched keep s h => ⟨lawful.onFilter touched keep s h.1,
      h.2.of_asks (fun _ => rfl) (asks_filter keep _)⟩
    onDemand := fun touched n d s live room scope level h => by
      refine ⟨lawful.onDemand touched n d s live room scope level h.1, fun e he => ?_⟩
      rcases List.mem_append.mp he with old | new
      · exact h.2 e (List.mem_of_mem_filter old)
      · rw [List.mem_singleton.mp new]
        exact scope
    onDisable := fun touched n s on h => by
      refine ⟨lawful.onDisable touched n s on h.1, h.2.of_asks (fun m => ?_)
        (asks_removeEntries n (setStation n _ (setSlot n _ s)))⟩
      simp only [State.slot, removeEntries_kept, setStation_kept, setSlot, State.setSettings_settings,
        PerStation.get_set]
      split
      · next eq => rw [eq]
      · rfl
    onEnable := fun touched n s off ranges h => by
      refine ⟨lawful.onEnable touched n s off ranges h.1, h.2.of_asks (fun m => ?_) (by simp)⟩
      simp only [State.slot, setStation_kept, setSlot, State.setSettings_settings, PerStation.get_set]
      split
      · next eq => rw [eq]
      · rfl
    onScope := fun touched n sc s h => by
      refine ⟨lawful.onScope touched n sc s h.1, fun e he => ?_⟩
      have slot : (((setSlot n { s.slot n with scope := sc } s).setTable
          (if (s.slot n).enabled then withoutUncovered n sc s.table else s.table)).slot e.station).scope =
            if e.station = n then sc else (s.slot e.station).scope := by
        simp only [State.slot, State.setTable_settings, setSlot, State.setSettings_settings, PerStation.get_set]
        split <;> rfl
      rw [slot]
      rw [State.setTable_table] at he
      split
      · next own =>
        cases hen : (s.slot n).enabled with
        | true =>
          rw [hen, if_pos rfl] at he
          simpa [own] using List.of_mem_filter he
        | false =>
          rw [hen, if_neg (by decide)] at he
          have off := (h.1.1 n).mpr hen
          exact absurd own (h.1.station_ne (by simp [off]) (by simp [off]) he)
      · refine h.2 e ?_
        split at he
        · exact List.mem_of_mem_filter he
        · exact he
    onSettings := fun touched g s ranges mask slots h => ⟨lawful.onSettings touched g s ranges mask slots h.1,
      h.2.of_asks (fun n => (slots n).2) (List.Sublist.refl _)⟩
    onMask := fun touched w s h => ⟨lawful.onMask touched w s h.1,
      h.2.of_asks (fun _ => by simp [State.slot]) (by simp)⟩ }

namespace Follows

variable {s t : State}

/-! ## Settings writes -/

/-- A write of settings that the Plan Resolver does not read. -/
theorem setSettings {g : Settings} (slots : ∀ n, (g.slots.get n).rank = (s.slot n).rank ∧
    (g.slots.get n).scope = (s.slot n).scope) (settings : planSettings g = planSettings s.settings) :
    Follows s (s.setSettings g) :=
  of_sees (.of_parts slots settings rfl rfl rfl rfl rfl (fun _ _ => rfl) fun _ _ => rfl)

/-- A slot's field other than its rank and its scope written. -/
theorem setSlot {n : Station} {sl : SlotSettings} (rank : sl.rank = (s.slot n).rank)
    (scope : sl.scope = (s.slot n).scope) : Follows s (setSlot n sl s) := by
  refine setSettings (fun m => ?_) rfl
  rw [PerStation.get_set]
  split
  · next eq =>
    rw [eq]
    exact ⟨rank, scope⟩
  · exact ⟨rfl, rfl⟩

/-- The rank and the scope of a slot turn the plan only where the table has an entry of its station. -/
theorem setSlot_of_entries {n : Station} {sl : SlotSettings}
    (entries : ∀ e ∈ s.table, e.station ≠ n ∨ (sl.rank = (s.slot n).rank ∧
      e.demand.within (s.slot n).scope = true ∧ e.demand.within sl.scope = true)) :
    Follows s (Machine.setSlot n sl s) := by
  have slot (m : Station) : (Machine.setSlot n sl s).slot m = if m = n then sl else s.slot m := by
    simp only [State.slot, Machine.setSlot, State.setSettings_settings, PerStation.get_set]
  have winner : (Machine.setSlot n sl s).winner = s.winner := by
    refine winner_congr (fun e he => ?_) (fun k e he => ?_) rfl
    · rw [slot]
      split
      · next own => rw [own, ((entries e he).resolve_left (not_not.mpr own)).1]
      · rfl
    · by_cases own : e.station = n
      · obtain ⟨-, old, new⟩ := (entries e he).resolve_left (not_not.mpr own)
        rw [eligible_of_within (by rw [slot, if_pos own]; exact new), eligible_of_within (by rw [own]; exact old)]
      · unfold State.eligible
        rw [slot, if_neg own]
  exact of_sees (.of_winner winner rfl rfl rfl rfl rfl rfl (fun _ _ => rfl) fun _ _ => rfl)

protected theorem writeSlotRank (lawful : HeldWithQuiet s) (n : Station) (value : Word) :
    Follows s (writeSlotRank n value s).state := by
  dsimp only [Machine.writeSlotRank, clampWrite]
  split
  · exact .refl s
  · refine .resolveIf ?_
    cases on : (s.slot n).enabled with
    | true => exact .inl rfl
    | false =>
      have off := (lawful.1 n).mpr on
      exact .inr (setSlot_of_entries fun e he => .inl (lawful.station_ne (by simp [off]) (by simp [off]) he))

protected theorem writeSlotScope (h : TableInScope s) {n : Station} {value : Word} {w : Written}
    (hw : writeSlotScope n value s = some w) : Follows s w.state := by
  obtain ⟨lawful, scope⟩ := h
  unfold Machine.writeSlotScope at hw
  split at hw
  · cases hw
  · next sc _ =>
    cases hw
    dsimp only [codedWrite]
    split
    · exact .refl s
    · unfold changeScope
      dsimp only
      split
      · refine .resolveIf ?_
        by_cases removed : (withoutUncovered n sc s.table).length < s.table.length
        · exact .inl (decide_eq_true removed)
        · have same : withoutUncovered n sc s.table = s.table :=
            List.filter_sublist.eq_of_length_le (Nat.le_of_not_lt removed)
          rw [same]
          refine .inr (setSlot_of_entries (s := s) (sl := { s.slot n with scope := sc }) fun e he => ?_)
          by_cases own : e.station = n
          · exact .inr ⟨rfl, own ▸ scope e he, (within_of_length removed he).resolve_left (not_not.mpr own)⟩
          · exact .inl own
      · next off =>
        have disabled := (lawful.1 n).mpr (Bool.eq_false_iff.mpr off)
        exact setSlot_of_entries fun e he => .inl (lawful.station_ne (by simp [disabled]) (by simp [disabled]) he)

theorem setStation (n : Station) (r : StationState) (s : State) : Follows s (setStation n r s) := of_kept

protected theorem writeSlotEnabled {n : Station} {value : Word} {w : Written}
    (hw : writeSlotEnabled n value s = some w) : Follows s w.state := by
  unfold Machine.writeSlotEnabled at hw
  split at hw
  · cases hw
  · split at hw
    · cases hw
    · cases hw
      dsimp only [codedWrite]
      split
      · exact .refl s
      · split
        · have enabled : Follows s (Machine.setSlot n { s.slot n with enabled := true } s) := setSlot rfl rfl
          exact .settleVehicle _ s (.inr (enabled.trans (setStation n ⟨.absent, 0⟩ _)))
        · exact .settleVehicle _ s (.inl rfl)

protected theorem writeSlotClass {n : Station} {value : Word} {w : Written}
    (hw : writeSlotClass n value s = some w) : Follows s w.state := by
  unfold Machine.writeSlotClass at hw
  split at hw
  · cases hw
  · split at hw
    · cases hw
    · next c _ _ =>
      cases hw
      dsimp only [codedWrite]
      have written : Follows s (Machine.setSlot n { s.slot n with cls := c } s) := setSlot rfl rfl
      split
      · exact .refl s
      · unfold changeClass
        dsimp only
        split
        · refine .settleVehicle _ s (entriesTrigger n ?_ fun table => written.trans ?_)
          · simp [removeEntries]
          · exact of_kept (table := by simpa using table)
        · exact .settleVehicle _ s (.inr written)

protected theorem writePlan {p : PlanSetting} {value : Word} {w : Written} (hw : writePlan p value s = some w) :
    Follows s w.state := by
  have switched {f : Bool → State} (hw : switchWrite value f = some w) : Follows s w.state := by
    obtain ⟨b, -, rfl⟩ := Option.map_eq_some_iff.mp hw
    exact .resolve s _
  cases p with
  | autoShelter | shelterOnPump => exact switched hw
  | _ =>
    cases hw
    exact .resolve s _

protected theorem writePurge {p : PurgeSetting} {value : Word} {w : Written} (hw : writePurge p value s = some w) :
    Follows s w.state := by
  cases p with
  | autoPurge =>
    obtain ⟨b, -, rfl⟩ := Option.map_eq_some_iff.mp hw
    exact setSettings (fun _ => ⟨rfl, rfl⟩) rfl
  | _ =>
    cases hw
    exact setSettings (fun _ => ⟨rfl, rfl⟩) rfl

protected theorem writeDoorMap {d : Door} {value : Word} {w : Written} (hw : writeDoorMap d value s = some w) :
    Follows s w.state := by
  unfold Machine.writeDoorMap at hw
  split at hw
  · cases hw
  · cases hw
    dsimp only [codedWrite]
    split
    · exact .handOnVehicle _ _ _ (.inr (setSettings (fun _ => ⟨rfl, rfl⟩) rfl))
    · exact setSettings (fun _ => ⟨rfl, rfl⟩) rfl

theorem updateAlert (s : State) : Follows s (updateAlert s) := of_kept

theorem watchBlowers (s : State) : Follows s (watchBlowers s) := of_kept

protected theorem writeSetting (h : TableInScope s) {st : Setting} {value : Word} {w : Written}
    (hw : writeSetting st value s = some w) : Follows s w.state := by
  have plain {g : Settings} (slots : g.slots = s.settings.slots)
      (settings : planSettings g = planSettings s.settings) : Follows s (s.setSettings g) :=
    setSettings (fun n => by rw [slots]; exact ⟨rfl, rfl⟩) settings
  cases st with
  | slotEnabled n => exact .writeSlotEnabled hw
  | slotClass n => exact .writeSlotClass hw
  | slotRank n => cases hw; exact .writeSlotRank h.1 n value
  | slotScope n => exact .writeSlotScope h hw
  | plan p => exact .writePlan hw
  | purge p => exact .writePurge hw
  | doorMap d => exact .writeDoorMap hw
  | doorLevel => cases hw; exact (plain rfl rfl).trans (.withRegulator _ _)
  | scan f => cases hw; cases f <;> exact (plain rfl rfl).trans (.restartScan _)
  | alertMask => cases hw; exact (plain rfl rfl).trans (updateAlert _)
  | level l => cases hw; cases l <;> exact (plain rfl rfl).trans (watchBlowers _)
  | time t =>
    cases hw
    cases t with
    | short => exact (plain rfl rfl).trans (.blowerEvent _ _)
    | overload => exact plain rfl rfl
  | window w => cases hw; cases w <;> exact plain rfl rfl
  | gain k => cases hw; cases k <;> exact plain rfl rfl
  | calibration c k => cases hw; cases k <;> exact plain rfl rfl
  | threshold t => cases hw; cases t <;> exact plain rfl rfl
  | feedbackEnd a e => cases hw; cases e <;> exact plain rfl rfl
  | releaseRank | returnTime => cases hw; exact plain rfl rfl

protected theorem markAll (g : Group) (s : State) : Follows s (markAll g s) := of_kept

protected theorem serveWrite (h : TableInScope s) (st : Setting) (value : Word) :
    Follows s (serveWrite st value s).state := by
  unfold Machine.serveWrite
  split
  · split
    · exact .refl s
    · next hw => exact (Follows.writeSetting h hw).trans (.markAll _ _)
  · exact .refl s

protected theorem serveIndex (h : TableInScope s) (index value : Word) :
    Follows s (serveIndex index value s).state := by
  unfold Machine.serveIndex
  split
  · split
    · exact .refl s
    · exact .serveWrite h _ value
  · exact .refl s

protected theorem completeStore (w : Writing) (s : State) : Follows s (completeStore w s) := by
  have stored (st : Store) (u : State) : Follows u (u.setStore st) := of_kept
  have written := ((Follows.advanceTo (w.since + 40#32) s).trans
    (stored ⟨.whole w.snapshot w.snapshot.checkWord, w.snapshot.checkWord, none⟩ _)).trans
    (.setCondition (c := .settingsDefaulted) (by decide) false _)
  exact (Follows.resolveIf (.inr written)).trans (.markAll _ _)

/-! ## The Loop Port -/

protected theorem setLoop (l : Loop) (s : State) : Follows s (s.setLoop l) := of_kept

protected theorem changeLoopFault (v : Bool) (s : State) : Follows s (changeLoopFault v s) := .resolve s _

protected theorem frameMarkEnd (heard : Readback) (s : State) : Follows s (frameMarkEnd heard s) := by
  unfold Machine.frameMarkEnd goodMark badMark
  split
  · split
    · split
      · exact .changeLoopFault _ s
      · exact .setLoop _ s
    · exact .setLoop _ s
  · split
    · exact .setLoop _ s
    · split
      · exact .changeLoopFault _ s
      · exact .setLoop _ s

end Follows

/-- The frame opened and its counts changed, the plan is no other (R65, R100, R125, R162). -/
theorem tickFrames_current {s : State} (h : PlanCurrent s) : PlanCurrent (tickFrames (openFrame s)) :=
  h.follow (.of_sees (.of_parts (fun _ => ⟨rfl, rfl⟩) rfl rfl rfl rfl rfl rfl (fun _ _ => rfl) fun _ _ => rfl) rfl)

/-- No block of a Frame Mark leaves the plan behind its inputs (R24, R25). -/
theorem markBlock_current (fb : PerActuator Nat) (turn : Turn) (b : MarkBlock) {s : State} (h : PlanCurrent s) :
    PlanCurrent (markBlock fb turn s b) := by
  cases b with
  | supervision => exact superviseMark_current turn h
  | blowers => exact h.follow (.blowerEvent _ s)
  | actuators => exact h.follow (.actuatorEvent _ s)
  | purge =>
    have ticking : Follows s (s.setPurge s.purge.tick) := by
      refine .of_sees ((PurgeStep.setPurge _ s).sees ?_ ?_) rfl <;>
        · rw [State.setPurge_purge, Purge.tick]
          split <;> rfl
    exact h.follow (ticking.trans (.purgeEvent (.purgeLimits _)))

theorem frameMark_current (fb : PerActuator Nat) (order : List MarkBlock) (turn : Turn) {s : State}
    (h : PlanCurrent s) : PlanCurrent (frameMark fb order turn s) :=
  List.foldlRecOn _ _ (tickFrames_current h) fun _ hu b _ => markBlock_current fb turn b hu

end Sys2Proof.Machine
end

section
/-! Every command keeps the Air Plan the plan that its inputs form (R24, R25). -/

namespace Sys2Proof.Machine

open Sys2Proof

namespace Follows

variable {s t : State}

protected theorem takeWrite (h : TableInScope s) (n : Station) (st : Setting) (value : Word) :
    Follows s (takeWrite n st value s) :=
  .takeCell (.serveWrite ((tableInScope_kept s.purge).arrive n h) st value)

protected theorem takeIndexWrite (h : TableInScope s) (n : Station) (index value : Word) :
    Follows s (takeIndexWrite n index value s) :=
  .takeCell (.serveIndex ((tableInScope_kept s.purge).arrive n h) index value)

protected theorem takeIdle (n : Station) (s : State) : Follows s (takeIdle n s) := by
  unfold Machine.takeIdle
  split
  · exact (Follows.arrive n s).setWindow _ _
  · exact .refl s

protected theorem takeUnknown (n : Station) (kind : Byte) (s : State) : Follows s (takeUnknown n kind s) := by
  unfold Machine.takeUnknown
  split
  · exact (Follows.arrive n s).setWindow _ _
  · exact .refl s

protected theorem takeByKind (h : TableInScope s) (c : Cell) (turn : Turn) : Follows s (takeByKind c turn s) := by
  obtain ⟨f, hf⟩ : ∃ f, Machine.takeByKind c turn = f := ⟨_, rfl⟩
  rw [hf]
  unfold Machine.takeByKind at hf
  split at hf <;> subst hf
  · exact .takeIdle _ s
  · exact .takeCell (.serveSetpoint _ _ _ _)
  · exact .takeCell (.serveFan _ _ _ _)
  · exact .takeCell (.serveMode _ _ _)
  · exact .takeCell (.serveShelter _ _ _)
  · exact .takeCell (.serveWithdraw _ _ _ _)
  · exact .takeCell (.serveWithdrawAll _ _)
  · exact .takeCell (.servePurge _ _ _)
  · exact .takeCell (.serveCancel _ _)
  · exact .takeCell (.serveRelease _ _)
  · exact .takeCell (.serveClearLatches _ _)
  · exact .takeCell (.serveReadout _ _ _ _)
  · exact .takeCell (.serveJoin _ _ _ _)
  · exact .takeCell (.serveLeave _ _)
  · exact .takeVehicleReport _ _ _ _ s
  · exact .takeIndexWrite h _ _ _
  · exact .takeCell (.serveStore _)
  · exact .takeCell (.serveRestart _ _)
  · exact .takeUnknown _ _ s

protected theorem uplinkWindowEnd (h : TableInScope s) (n : Station) (rx : Reception) (turn : Turn) :
    Follows s (uplinkWindowEnd n rx turn s) := by
  unfold Machine.uplinkWindowEnd
  split
  · refine Follows.trans ?_ (.setLoop _ _)
    split
    · exact .refl s
    · unfold hearWindow
      split
      · exact .setLoop _ s
      · exact .setLoop _ s
      · exact .takeByKind h _ turn
  · exact .refl s

protected theorem downlinkStart (n : Station) (s : State) : Follows s (downlinkStart n s) := of_kept

protected theorem downlinkEnd (n : Station) (s : State) : Follows s (downlinkEnd n s) := of_kept

protected theorem changeCurrent (b : Blower) (current : Nat) (s : State) : Follows s (changeCurrent b current s) := of_kept

protected theorem unlessHeld {f : State → State} (h : Follows s (f s)) : Follows s (unlessHeld f s) := by
  unfold Machine.unlessHeld
  split
  · exact .refl s
  · exact h

/-- Every command but the reset and the Frame Mark leaves what the Plan Resolver sees, or forms the plan anew. -/
theorem exec {i : Instr} (h : TableInScope s) (reset : ∀ input, i ≠ .reset input)
    (mark : ∀ fb order turn, i ≠ .frameMark fb order turn) (e : exec i s = .next t) : Follows s t := by
  cases i with
  | reset input => exact absurd rfl (reset input)
  | frameMark fb order turn => exact absurd rfl (mark fb order turn)
  | stationQuiet n => exact Host.Outcome.next.inj e ▸ .settleVehicle _ s (Follows.quietStep n s)
  | stationLost n turn => exact Host.Outcome.next.inj e ▸ .lostOne turn s n
  | frameMarkEnd heard => exact Host.Outcome.next.inj e ▸ .unlessHeld (.frameMarkEnd heard s)
  | loopFaultRaise =>
    simp only [Machine.exec, execLoopFaultRaise] at e
    split at e <;> cases e
    · exact .changeLoopFault _ s
    · exact .refl s
  | loopFaultClear =>
    simp only [Machine.exec, execLoopFaultClear] at e
    split at e <;> cases e
    · exact .changeLoopFault _ s
    · exact .refl s
  | uplinkWindowEnd n rx turn => exact Host.Outcome.next.inj e ▸ .uplinkWindowEnd h n rx turn
  | downlinkStart n => exact Host.Outcome.next.inj e ▸ .downlinkStart n s
  | downlinkEnd n => exact Host.Outcome.next.inj e ▸ .downlinkEnd n s
  | idle n => exact Host.Outcome.next.inj e ▸ .takeIdle n s
  | unknownKind n k => exact Host.Outcome.next.inj e ▸ .takeByKind h _ _
  | setSetpoint n zone value => exact Host.Outcome.next.inj e ▸ .takeCell (.serveSetpoint _ _ _ _)
  | setFan n zone level => exact Host.Outcome.next.inj e ▸ .takeCell (.serveFan _ _ _ _)
  | setMode n mode => exact Host.Outcome.next.inj e ▸ .takeCell (.serveMode _ _ _)
  | setShelter n code => exact Host.Outcome.next.inj e ▸ .takeCell (.serveShelter _ _ _)
  | withdraw n kind zone => exact Host.Outcome.next.inj e ▸ .takeCell (.serveWithdraw _ _ _ _)
  | withdrawAll n => exact Host.Outcome.next.inj e ▸ .takeCell (.serveWithdrawAll _ _)
  | shelterRelease n => exact Host.Outcome.next.inj e ▸ .takeCell (.serveRelease _ _)
  | purge n scope => exact Host.Outcome.next.inj e ▸ .takeCell (.servePurge _ _ _)
  | purgeCancel n => exact Host.Outcome.next.inj e ▸ .takeCell (.serveCancel _ _)
  | clearLatches n => exact Host.Outcome.next.inj e ▸ .takeCell (.serveClearLatches _ _)
  | readout n start count => exact Host.Outcome.next.inj e ▸ .takeCell (.serveReadout _ _ _ _)
  | joinStream n mask decimation => exact Host.Outcome.next.inj e ▸ .takeCell (.serveJoin _ _ _ _)
  | leaveStream n => exact Host.Outcome.next.inj e ▸ .takeCell (.serveLeave _ _)
  | vehicleReport n fields doors turn => exact Host.Outcome.next.inj e ▸ .takeVehicleReport n fields doors turn s
  | stationRestart n => exact Host.Outcome.next.inj e ▸ .takeCell (.serveRestart _ _)
  | settingsStore n => exact Host.Outcome.next.inj e ▸ .takeCell (.serveStore _)
  | storeComplete =>
    simp only [Machine.exec, execStoreComplete] at e
    split at e <;> cases e
    · exact .completeStore _ s
    · exact .refl s
  | settingsWrite n index value => exact Host.Outcome.next.inj e ▸ .takeIndexWrite h n index value
  | supervisionWindowWrite n w value => exact Host.Outcome.next.inj e ▸ .takeWrite h n _ value
  | slotEnableWrite n m value => exact Host.Outcome.next.inj e ▸ .takeWrite h n _ value
  | slotClassWrite n m value => exact Host.Outcome.next.inj e ▸ .takeWrite h n _ value
  | slotRankWrite n m value => exact Host.Outcome.next.inj e ▸ .takeWrite h n _ value
  | slotScopeWrite n m value => exact Host.Outcome.next.inj e ▸ .takeWrite h n _ value
  | planSettingWrite n p value => exact Host.Outcome.next.inj e ▸ .takeWrite h n _ value
  | regulatorGainWrite n g value => exact Host.Outcome.next.inj e ▸ .takeWrite h n _ value
  | doorLevelWrite n value => exact Host.Outcome.next.inj e ▸ .takeWrite h n _ value
  | purgeSettingWrite n p value => exact Host.Outcome.next.inj e ▸ .takeWrite h n _ value
  | doorMapWrite n d value => exact Host.Outcome.next.inj e ▸ .takeWrite h n _ value
  | returnTimeWrite n value => exact Host.Outcome.next.inj e ▸ .takeWrite h n _ value
  | scanListWrite n f value => exact Host.Outcome.next.inj e ▸ .takeWrite h n _ value
  | calibrationWrite n c k value => exact Host.Outcome.next.inj e ▸ .takeWrite h n _ value
  | thresholdWrite n t value => exact Host.Outcome.next.inj e ▸ .takeWrite h n _ value
  | alertMaskWrite n value => exact Host.Outcome.next.inj e ▸ .takeWrite h n _ value
  | protectionLevelWrite n l value => exact Host.Outcome.next.inj e ▸ .takeWrite h n _ value
  | protectionTimeWrite n t value => exact Host.Outcome.next.inj e ▸ .takeWrite h n _ value
  | feedbackEndWrite n a k value => exact Host.Outcome.next.inj e ▸ .takeWrite h n _ value
  | conversionEnd raw turn => exact Host.Outcome.next.inj e ▸ .unlessHeld (.conversionEnd raw turn s)
  | emptyPassEnd turn => exact Host.Outcome.next.inj e ▸ .unlessHeld (.emptyPassEnd turn s)
  | trendCapture => exact Host.Outcome.next.inj e ▸ .captureTrend s
  | purgeArmedLimit => exact Host.Outcome.next.inj e ▸ .purgeEvent (.armedLimit s)
  | purgeDeferredLimit => exact Host.Outcome.next.inj e ▸ .purgeEvent (.deferredLimit s)
  | purgeFlushingLimit =>
    exact Host.Outcome.next.inj e ▸ .purgeEvent ((PurgeStep.fallbackTest s).trans (.flushingLimit _))
  | fallbackFlushExpiry => exact Host.Outcome.next.inj e ▸ .purgeEvent (.fallbackTest s)
  | blowerCurrentChange b current => exact Host.Outcome.next.inj e ▸ .changeCurrent b current s
  | shortTrip b =>
    simp only [Machine.exec, execShortTrip] at e
    split at e <;> cases e
    · exact (Follows.elapse _ s).trans (.blowerEvent _ _)
    · exact .refl s
  | overloadTrip b => exact Host.Outcome.next.inj e ▸ .blowerEvent _ s
  | cooldownEnd b => exact Host.Outcome.next.inj e ▸ .blowerEvent _ s
  | tripWindowExpiry b => exact Host.Outcome.next.inj e ▸ .blowerEvent _ s
  | actuatorStall a => exact Host.Outcome.next.inj e ▸ .actuatorEvent _ s
  | reversalEnd a => exact Host.Outcome.next.inj e ▸ .actuatorEvent _ s
  | stallWaitEnd a => exact Host.Outcome.next.inj e ▸ .actuatorEvent _ s
  | powerLoss => exact Host.Outcome.next.inj e ▸ of_kept

end Follows

theorem resetPart_current (fb : PerActuator Nat) (held : Bool) (s : State) : PlanCurrent (resetPart fb held s) := by
  rw [resetPart_eq]
  exact PlanCurrent.follow (s := resetStart fb held s) rfl (.of_handedOn (handOver_handedOn _))

theorem exec_planCurrent {i : Instr} {s t : State} (h : TableInScope s) (current : PlanCurrent s)
    (e : exec i s = .next t) : PlanCurrent t := by
  by_cases reset : ∃ input, i = .reset input
  · obtain ⟨input, rfl⟩ := reset
    exact Host.Outcome.next.inj e ▸ resetPart_current _ _ _
  · by_cases mark : ∃ fb order turn, i = .frameMark fb order turn
    · obtain ⟨fb, order, turn, rfl⟩ := mark
      obtain rfl := Host.Outcome.next.inj e
      rcases unlessHeld_cases (frameMark fb order turn) s with ⟨-, eq⟩ | ⟨-, eq⟩
      · rw [eq]
        exact frameMark_current fb order turn current
      · rw [eq]
        exact current
    · exact current.follow (Follows.exec h (fun input eq => reset ⟨input, eq⟩)
        (fun fb order turn eq => mark ⟨fb, order, turn, eq⟩) e)

/-- Settles O25. -/
theorem stepKeepsThePlanCurrent : Obligations.StepKeepsThePlanCurrent := by
  intro s t lawful scope current e
  refine ⟨((tableInScope_kept s.purge).step (by decide) e ⟨lawful, scope⟩).2, ?_⟩
  unfold step at e
  split at e
  · cases e
    exact current.follow (.unlessHeld (.elapse 1 s))
  · next c rest _ =>
    exact exec_planCurrent (s := s.setPending rest) ⟨lawful, scope⟩ current e

end Sys2Proof.Machine
end

section
/-! The queue and the clock (log entries 1, 36), the control law (R58 to R60), the current comparison (R138, R139) and the
state right after reset. -/

namespace Sys2Proof.Machine

open Sys2Proof

/-! ## The queue and the clock -/

/-- Settles O1. -/
theorem stepRunsTheFrontCommand : Obligations.StepRunsTheFrontCommand := by
  intro c rest s h
  rw [step, h]

/-- A tenth of a millisecond across the wrap of the count (R105). -/
theorem Clock.advance_one (c : Clock) :
    10 * (c.advance 1).ms.toNat + (c.advance 1).tenths = (10 * c.ms.toNat + c.tenths + 1) % (10 * 2 ^ 32) ∧
      (c.advance 1).tenths < 10 := by
  have ms := c.ms.isLt
  simp only [advance, BitVec.toNat_add, BitVec.toNat_ofNat]
  omega

/-- Settles O2. -/
theorem emptyQueueLetsTimePass : Obligations.EmptyQueueLetsTimePass := by
  intro s queue _
  have eq : step s = .next (unlessHeld (elapse 1) s) := by rw [step, queue]
  refine ⟨fun released => ⟨elapse 1 s, ?_, ?_⟩, fun held => ?_⟩
  · rw [eq, unlessHeld_of_released _ released]
  · obtain ⟨clock, blowers, parts⟩ := elapse_spec 1 s
    obtain ⟨count, tenths'⟩ := Clock.advance_one s.clock
    rw [clock]
    exact ⟨count, tenths', blowers, parts⟩
  · rw [eq, unlessHeld_of_held _ held]

theorem pending_kept (q : List Instr) (p₀ : Purge) : KeptFrom p₀ [.pending] fun s => s.pending = q where
  congr same h := (same .pending (by decide)).trans h
  onReset fb held s h := by
    rw [resetPart_eq, show (handOver (resetStart fb held s)).pending = s.pending by simp; rfl]
    exact h

/-- Nothing in the manual stops the part. -/
theorem exec_next (c : Instr) (s : State) : ∃ t, exec c s = .next t := by
  cases c with
  | loopFaultRaise =>
    simp only [exec, execLoopFaultRaise]
    split <;> exact ⟨_, rfl⟩
  | loopFaultClear =>
    simp only [exec, execLoopFaultClear]
    split <;> exact ⟨_, rfl⟩
  | storeComplete =>
    simp only [exec, execStoreComplete]
    split <;> exact ⟨_, rfl⟩
  | shortTrip b =>
    simp only [exec, execShortTrip]
    split <;> exact ⟨_, rfl⟩
  | _ => exact ⟨_, rfl⟩

/-- Settles O3. -/
theorem everyCommandCompletesAndKeepsTheQueue : Obligations.EveryCommandCompletesAndKeepsTheQueue := by
  intro c s
  obtain ⟨t, e⟩ := exec_next c s
  exact ⟨t, e, (pending_kept s.pending s.purge).exec e rfl⟩

/-! ## The control law -/

/-- Step 5 of the update, the cap winning over the floor (R60). -/
theorem limitOutput_eq (u : Int) (floor cap : Nat) :
    limitOutput u floor cap = if cap < floor then cap else (within floor cap u).toNat := by
  unfold limitOutput within
  split
  · rfl
  · split
    · omega
    · split <;> omega

/-- Settles O26. -/
theorem updateFollowsTheControlLaw : Obligations.UpdateFollowsTheControlLaw := by
  intro r kp ki p
  have error : r.errorOf p = within (-2000) 2000 ((r.target.getD 0 : Int) - p) := clampInt_eq_within _ _ _ (by decide)
  have integral : r.nextIntegral ki p = within (-256000) 256000 (r.integral + ki * r.errorOf p) :=
    clampInt_eq_within _ _ _ (by decide)
  refine ⟨r.errorOf p, r.nextIntegral ki p, r.rawCorrection kp ki p, error, integral, ?_, ?_, ?_⟩
  · unfold Regulator.rawCorrection
    omega
  · unfold Regulator.rawCorrection
    omega
  · rw [Regulator.update, limitOutput_eq]
    rfl

/-! ## The current comparison -/

theorem watch_eq (r : BlowerState) (short overload : Nat) :
    r.watch short overload = { r with
      shortTimer := if r.protection = .running then watchTimer r.current short r.shortTimer else r.shortTimer
      overloadTimer :=
        if r.protection = .running then watchTimer r.current overload r.overloadTimer else r.overloadTimer } := by
  unfold BlowerState.watch
  split <;> rfl

/-- Settles O42. -/
theorem currentChangeIsComparedAtOnce : Obligations.CurrentChangeIsComparedAtOnce := by
  intro b current s
  refine ⟨changeCurrent b current s, rfl, ?_, fun b' ne => by simp [changeCurrent, ne], fun p hp => ?_⟩
  · rw [changeCurrent, State.setBlowers_blowers, PerBlower.get_set, if_pos rfl, watch_eq]
    cases s.resetHeld with
    | true => simp
    | false => simp [watchTimer]
  · cases p <;> first | rfl | exact absurd (by decide) hp

/-! ## The state right after reset -/

theorem reset_planCurrent : PlanCurrent State.reset := by
  unfold PlanCurrent
  decide

theorem reset_owned : OwnedConditions State.reset := (ownedConditions_iff _).mpr fun c _ => by cases c <;> rfl

theorem reset_alert : AlertWithMask State.reset := by
  have due : State.reset.alert = State.reset.alertDue := by decide
  unfold AlertWithMask
  rw [due]
  exact alertDue_iff State.reset

theorem reset_record : RecordConsistent State.reset := by
  intro c
  rw [show State.reset.record.get c = ChannelRecord.blank from PerChannel.get_ofFn _ c]
  exact .blank c

theorem reset_stoppedAtZero : StoppedAtZero State.reset :=
  ⟨⟨by decide, by decide, by decide, by decide, nofun⟩, fun b => by cases b <;> decide⟩

theorem reset_actuators : ActuatorsInRange State.reset := fun a => by cases a <;> decide

theorem reset_settings : SettingsSound State.reset := by
  have settings : SettingsInRange Config.factory := (settingsInRange_iff _).mpr settingRanges_factory
  refine ⟨settings, fun g w eq => ?_, fun w writing => ?_⟩
  · have whole : StoredCopy.whole Config.factory factoryCheck = .whole g w := eq
    obtain ⟨rfl, -⟩ := StoredCopy.whole.inj whole
    exact settings
  · have none : (none : Option Writing) = some w := writing
    simp at none

/-- Settles O4. -/
theorem resetStateMeetsTheInvariants : Obligations.ResetStateMeetsTheInvariants :=
  ⟨⟨Nat.zero_le _, List.nodup_nil⟩, ⟨fun n => by cases n <;> decide, nofun⟩, nofun, reset_planCurrent,
    by unfold IntegralBounded; decide, ⟨Nat.zero_le _, fun _ => rfl⟩, reset_owned, reset_alert,
    ⟨Nat.zero_le _, fun _ => rfl⟩, reset_record, reset_stoppedAtZero, reset_actuators, reset_settings⟩

end Sys2Proof.Machine
end

section
/-! Requests refused: by the class of the sender (R2), by their operands (R14), and the release of shelter (R20). -/

namespace Sys2Proof.Machine

open Sys2Proof

/-! ## Every request row -/

/-- A row answered with a code for a cell that can be taken. -/
theorem refused_of_window {c : Instr} {n : Station} {k : Byte} {code : AnswerCode} {s : State}
    (hc : exec c s = .next (setWindow n (.taken k (some (Answer.refuse code))) (arrive n s)))
    (hr : s.receives n = true) : Refused c n k code s := by
  have idle : takeIdle n s = setWindow n (.taken 0x00#8 none) (arrive n s) := if_pos hr
  refine ⟨setWindow n (.taken 0x00#8 none) (arrive n s), _, Answer.refuse code, (exec_idle n s).trans (by rw [idle]), hc,
    ?_, rfl, rfl⟩
  simp [LineBecomes, setWindow, setLine]

/-- What a request row is: the kind's own rules for a permitted class, else the answer Class; nothing where the slot can
take no cell (R2, R162, R163). -/
def RequestRow (c : Instr) (n : Station) (k : Byte) (s : State) : Prop :=
  ∃ t, exec c s = .next (if s.receives n then
    if mayRequest (s.slot n).cls k then t else setWindow n (.taken k (some (Answer.refuse .cls))) (arrive n s)
  else s)

theorem requestRow_of_takeCell {c : Instr} {n : Station} {k : Byte} {perm : Permission} {serve : State → Served}
    {s : State} (hc : exec c s = .next (takeCell n k perm serve s)) (hp : ∀ cls, perm.allows cls = mayRequest cls k) :
    RequestRow c n k s := by
  refine ⟨setWindow n (.taken k (some (serve (arrive n s)).answer)) (serve (arrive n s)).state, hc.trans ?_⟩
  cases hr : s.receives n with
  | false => rw [takeCell_of_not_receives hr, if_neg (by decide)]
  | true => rw [takeCell_of_receives hr, arrive_slot, hp, if_pos rfl]

theorem anyClass_allows (c : StationClass) : Permission.anyClass.allows c = true := by cases c <;> rfl

theorem serviceOnly_allows (c : StationClass) : Permission.serviceOnly.allows c = decide (c = .service) := by
  cases c <;> rfl

theorem vehicleOnly_allows (c : StationClass) : Permission.vehicleOnly.allows c = decide (c = .vehicle) := by
  cases c <;> rfl

/-- Every request of R166 but Idle is such a row. -/
theorem requestRow {c : Instr} {n : Station} {k : Byte} (h : requestOf c = some (n, k)) (s : State) :
    RequestRow c n k s := by
  cases c with
  | vehicleReport m fields doors turn =>
    cases h
    refine ⟨serveReport n fields doors turn s, ?_⟩
    show Host.Outcome.next (takeVehicleReport n fields doors turn s) = _
    rw [takeVehicleReport, vehicleOnly_allows]
    rfl
  | readout m start count => cases h; exact requestRow_of_takeCell rfl anyClass_allows
  | stationRestart m => cases h; exact requestRow_of_takeCell rfl anyClass_allows
  | settingsStore m => cases h; exact requestRow_of_takeCell rfl serviceOnly_allows
  | settingsWrite | supervisionWindowWrite | slotEnableWrite | slotClassWrite | slotRankWrite | slotScopeWrite
  | planSettingWrite | regulatorGainWrite | doorLevelWrite | purgeSettingWrite | doorMapWrite | returnTimeWrite
  | scanListWrite | calibrationWrite | thresholdWrite | alertMaskWrite | protectionLevelWrite | protectionTimeWrite
  | feedbackEndWrite => cases h; exact requestRow_of_takeCell rfl serviceOnly_allows
  | setSetpoint | setFan | setMode | setShelter | withdraw | withdrawAll | shelterRelease | purge | purgeCancel
  | clearLatches | joinStream | leaveStream => cases h; exact requestRow_of_takeCell rfl panelOrService_allows
  | _ => cases h

/-- A kind code that names no kind is taken as unknown (R2). -/
theorem takeByKind_of_unknown {c : Cell} (h : namesKind c.kind = false) (turn : Turn) :
    takeByKind c turn = takeUnknown c.station c.kind := by
  have above : 17 < c.kind.toNat := by simpa [namesKind] using h
  unfold takeByKind
  split <;> first | rfl | omega

theorem takeByKind_of_not_receives {c : Cell} {s : State} (h : s.receives c.station = false) (turn : Turn) :
    takeByKind c turn s = s := by
  obtain ⟨f, hf⟩ : ∃ f, takeByKind c turn = f := ⟨_, rfl⟩
  rw [hf]
  unfold takeByKind at hf
  split at hf <;> subst hf <;>
    first
    | exact takeCell_of_not_receives h _ _ _
    | simp [takeIdle, takeUnknown, takeVehicleReport, h]

/-- Settles O10. -/
theorem refusedKindsOnlyRefresh : Obligations.RefusedKindsOnlyRefresh := by
  intro n s
  refine ⟨fun hr => ⟨fun c k row denied => ?_, fun k unknown => ?_⟩, fun none => ⟨fun c k row => ?_, ?_, fun k => ?_⟩⟩
  · obtain ⟨t, e⟩ := requestRow row s
    refine refused_of_window (e.trans ?_) hr
    rw [if_pos hr, denied, if_neg (by decide)]
  · refine refused_of_window ?_ hr
    show Host.Outcome.next (takeByKind _ _ s) = _
    rw [takeByKind_of_unknown unknown, takeUnknown, if_pos hr]
  · obtain ⟨t, e⟩ := requestRow row s
    rw [e, none]
    rfl
  · rw [exec_idle, takeIdle, none]
    rfl
  · show Host.Outcome.next (takeByKind _ _ s) = _
    rw [takeByKind_of_not_receives none]

/-! ## Set requests -/

theorem applyDemand_of_full {n : Station} {d : Demand} {s : State} (h : ¬HasRoom s n d.key) (code : AnswerCode) :
    applyDemand n d code s = Served.refuse .full s := by
  have full : s.tableFull n d.key = true := by
    by_contra no
    exact h ((tableFull_eq_false_iff s n d.key).mp (Bool.eq_false_iff.mpr no))
  simp [applyDemand, full]

theorem Zone.ofCode_eq_none {w : Word} (h1 : w ≠ 1#16) (h2 : w ≠ 2#16) : Zone.ofCode w = none := by
  simp [Zone.ofCode, h1, h2]

theorem RequestedMode.ofCode_eq_none {w : Word} (h : 4 < w.toNat) : RequestedMode.ofCode w = none := by
  unfold RequestedMode.ofCode
  split
  case h_6 => rfl
  all_goals omega

theorem switchOfCode_eq_none {w : Word} (h : 1 < w.toNat) : switchOfCode w = none := by
  have h0 : w ≠ 0#16 := by rintro rfl; exact absurd h (by decide)
  have h1 : w ≠ 1#16 := by rintro rfl; exact absurd h (by decide)
  simp [switchOfCode, h0, h1]

/-- Settles O18: the checks of R14 in their order. -/
theorem setRequestsAreRefusedInOrder : Obligations.SetRequestsAreRefusedInOrder := by
  intro n zone value code z m s hr hmay
  have allowed := (panelOrService_allows (s.slot n).cls).trans hmay
  have full {d : Demand} (h : ¬HasRoom s n d.key) (code : AnswerCode) :
      applyDemand n d code (arrive n s) = Served.refuse .full (arrive n s) :=
    applyDemand_of_full (fun room => h ((hasRoom_arrive n n d.key s).mp room)) code
  refine ⟨fun h1 h2 => ⟨?_, ?_⟩, fun uncovered => ⟨?_, ?_⟩, fun covered => ⟨fun h => ?_, fun h => ?_⟩, fun h => ?_,
    fun h => ?_, fun h => ?_, fun h => ?_⟩
  · exact refused_of_takeCell (exec_setSetpoint n _ _ s) hr allowed (by simp [serveSetpoint, Zone.ofCode_eq_none h1 h2])
  · exact refused_of_takeCell (exec_setFan n _ _ s) hr allowed (by simp [serveFan, Zone.ofCode_eq_none h1 h2])
  · exact refused_of_takeCell (exec_setSetpoint n _ _ s) hr allowed (by simp [serveSetpoint, uncovered])
  · exact refused_of_takeCell (exec_setFan n _ _ s) hr allowed (by simp [serveFan, uncovered])
  · exact refused_of_takeCell (exec_setSetpoint n _ _ s) hr allowed
      ((serveSetpoint_of_covers (by simpa using covered) value).trans
        (full (d := .setpoint z (setpointOfValue value.toInt)) h _))
  · exact refused_of_takeCell (exec_setFan n _ _ s) hr allowed
      ((serveFan_of_covers (by simpa using covered) value).trans (full (d := .fan z (FanChoice.ofWord value).1) h _))
  · exact refused_of_takeCell (exec_setMode n _ s) hr allowed (by simp [serveMode, RequestedMode.ofCode_eq_none h])
  · exact refused_of_takeCell (exec_setShelter n _ s) hr allowed (by simp [serveShelter, switchOfCode_eq_none h])
  · exact refused_of_takeCell (exec_setMode n _ s) hr allowed ((serveMode_code n m _).trans (full (d := .mode m) h _))
  · exact refused_of_takeCell (exec_setShelter n _ s) hr allowed (full (d := .shelter) h _)

/-! ## Shelter Release -/

theorem requestSource_iff_shorter (s : State) :
    s.requestSource = true ↔ (withoutShelter s.table).length < s.table.length := by
  simp [State.requestSource, withoutShelter, List.length_filter_lt_length_iff_exists]

theorem flagWord_eq (b : Bool) : Word.ofNat (bitAt 0 b) = if b then 1#16 else 0#16 := by cases b <;> rfl

/-- Settles O20. -/
theorem shelterReleaseEndsTheRequests : Obligations.ShelterReleaseEndsTheRequests := by
  intro n s hr hmay
  have allowed := (panelOrService_allows (s.slot n).cls).trans hmay
  have row : exec (.shelterRelease n) s = .next (takeCell n 0x09#8 .panelOrService (serveRelease n) s) := rfl
  refine ⟨fun below => refused_of_takeCell row hr allowed (by simp [serveRelease, below]), fun ranked => ?_⟩
  have served : serveRelease n (arrive n s) = _ := if_neg (by simpa using ranked)
  refine handled_of_takeCell row hr allowed (by rw [served]; simp [setLatch]) fun l => ?_
  rw [served]
  generalize arrive n s = a
  have table : (resolveIf (a.requestSource || a.resolver.autoLatch)
      (setLatch false (a.setTable (withoutShelter a.table)))).table = withoutShelter a.table := by simp
  have trigger : (a.requestSource || a.resolver.autoLatch) = true ↔
      (withoutShelter a.table).length < a.table.length ∨ a.resolver.autoLatch = true := by
    rw [Bool.or_eq_true, requestSource_iff_shorter]
  refine ⟨table, ?_, ?_, ?_⟩
  · rcases resolveIf_cases (a.requestSource || a.resolver.autoLatch)
      (setLatch false (a.setTable (withoutShelter a.table))) with ⟨-, eq⟩ | ⟨-, eq⟩
    · rw [eq]
      exact (resolve_resolved _).latch
    · rw [eq]
      rfl
  · simp only [State.setLoop_table, table, State.setLoop_resolver]
    rw [flagWord_eq]
    congr
  · simp only [State.setLoop_table, table, State.setLoop_resolver]
    exact resolveIf_resolvedIf trigger (setLatch false (a.setTable (withoutShelter a.table))) l

end Sys2Proof.Machine
end

section
/-! What RESET leaves in every block (R11, R49, R122, R160, R180). -/

namespace Sys2Proof.Machine

open Sys2Proof

/-! ## The first plan -/

variable (fb : PerActuator Nat) (held : Bool) (s : State)

/-- The first plan, at the loaded Default Setpoint (R49). -/
def PlanBody.firstAt (setpoint : Int) : PlanBody :=
  { PlanBody.first with frontSetpoint := setpoint, rearSetpoint := setpoint }

/-- At reset nothing asks for shelter, the ignition is off and no purge is under way: Ignition Off sets every drive
field (R40, R49). -/
theorem formPlan_resetBase (l : Loaded) : formPlan (resetBase held l s) = .firstAt l.settings.defaultSetpoint := by
  have winner : ∀ k, (resetBase held l s).winner k = none := fun _ => rfl
  have pump : (resetBase held l s).pumpSource = false := Bool.and_false _
  have shelter : (resetBase held l s).shelterNow = .inactive := by
    unfold State.shelterNow
    rw [pump]
    rfl
  have ignition : (resetBase held l s).ignitionOffNow = true := by
    unfold State.ignitionOffNow
    rw [shelter]
    rfl
  have coFlush : (resetBase held l s).coFlushNow = false := rfl
  have heater : (resetBase held l s).heaterNext = false := rfl
  have shed : (resetBase held l s).shedNow = true := rfl
  have phase : (resetBase held l s).purge.phase = .idle := rfl
  have latch : (resetBase held l s).resolver.autoLatch = false := rfl
  have request : (resetBase held l s).requestSource = false := rfl
  have mode : (resetBase held l s).cabModeNow = .off := by
    simp [State.cabModeNow, shelter, ignition]
  have layered : (resetBase held l s).layered = Draft.blank.fillOff := by
    simp [State.layered, State.layer1, State.layer2, State.layer3, State.layer4, State.layer5, State.layer6, shelter,
      coFlush, ignition, mode, phase, Draft.blank, Draft.fillOff, Draft.fillPath, fill]
  simp [formPlan, State.setpointNow, State.fanNow, winner, pump, shelter, ignition, coFlush, heater, shed, phase, latch,
    request, mode, layered, State.mixNow, State.zoneBlowerNow, State.heaterValveNow, shedBlower, shedIntake, setpointOf,
    fanOf, sourceOf, Draft.blank, Draft.fillOff, Draft.fillPath, fill, PlanBody.firstAt, PlanBody.first]
  rfl

/-- What a reset loads (R180). -/
abbrev State.loaded (s : State) : Loaded := s.store.tear.stored.load

theorem resetStart_plan : (resetStart fb held s).plan = ⟨0#16, .firstAt s.loaded.settings.defaultSetpoint⟩ := by
  rw [← formPlan_resetBase held s]
  rfl

theorem execReset_eq : exec (.reset ⟨fb, held⟩) s = .next (resetPart fb held s) := rfl

/-- The blocks that the handing on of the first plan leaves as the reset set them. -/
theorem resetPart_kept :
    (resetPart fb held s).settings = s.loaded.settings ∧
    (resetPart fb held s).store = ⟨s.store.tear.stored, s.loaded.check, none⟩ ∧
    (resetPart fb held s).loop = resetLoop s.loaded.settings ∧
    (resetPart fb held s).stations = resetStations s.loaded.settings ∧
    (resetPart fb held s).table = [] ∧
    (resetPart fb held s).plan = ⟨0#16, .firstAt s.loaded.settings.defaultSetpoint⟩ ∧
    (resetPart fb held s).resolver = ⟨false, false⟩ ∧
    (resetPart fb held s).purge = Purge.idleWith LastResult.none ∧
    (resetPart fb held s).vehicle = Vehicle.reset ∧
    (resetPart fb held s).clock = ⟨0#32, 0⟩ ∧
    (resetPart fb held s).scan = resetScan s.loaded.settings ∧
    (∀ c, (resetPart fb held s).record.get c = ChannelRecord.blank) ∧
    (resetPart fb held s).scene = ⟨.idle, .idle, .idle, .idle, .idle, .idle, .idle⟩ ∧
    (∀ n, (resetPart fb held s).buffers.get n = none) ∧
    (∀ n, (resetPart fb held s).detached.get n = false) ∧
    (resetPart fb held s).trend = ⟨none, 0, [], false, 0⟩ ∧
    (resetPart fb held s).resetHeld = held := by
  have plan := resetStart_plan fb held s
  rw [resetPart_eq]
  simp only [handOver_kept]
  exact ⟨rfl, rfl, rfl, rfl, rfl, plan, rfl, rfl, rfl, rfl, rfl, PerChannel.get_ofFn _, rfl, PerStation.get_ofFn _,
    PerStation.get_ofFn _, rfl, rfl⟩

/-! ## A frame opens with blank lines -/

/-- With no cell on its line a slot has no run to cut. -/
theorem cutRun_of_silent {n : Station} {s : State} (k : RunKind) (h : (s.loop.lines.get n).onAir = none) :
    cutRun n k s = s := by
  unfold cutRun
  rw [h]

/-- The Loop Port is `l`, with no cell on any line. -/
def LoopSilent (l : Loop) (s : State) : Prop := s.loop = l ∧ ∀ n, (l.lines.get n).onAir = none

namespace LoopSilent

variable {l : Loop} {s : State}

theorem of_loop {t : State} (h : LoopSilent l s) (same : t.loop = s.loop) : LoopSilent l t := ⟨same.trans h.1, h.2⟩

theorem cutRun (h : LoopSilent l s) (n : Station) (k : RunKind) : LoopSilent l (cutRun n k s) := by
  rwa [cutRun_of_silent k (by rw [h.1]; exact h.2 n)]

theorem emptyQueue (h : LoopSilent l s) : LoopSilent l (emptyQueue s) := by
  have emptied : LoopSilent l (s.setTrend { s.trend with queue := [], begun := false, sent := 0 }) := h
  unfold Machine.emptyQueue
  dsimp only
  split
  · exact emptied
  · exact emptied.cutRun _ _

theorem lostStep (h : LoopSilent l s) (n : Station) : LoopSilent l (lostStep n s) := by
  have discarded : LoopSilent l (discardBuffer n (removeEntries n (setStation n ⟨.lost, 0⟩ s))) := by
    refine LoopSilent.cutRun ?_ _ _
    exact h
  unfold Machine.lostStep enterLost dropStation releaseStream
  split
  · split
    · exact discarded.emptyQueue
    · exact discarded
  · exact h

theorem foldl {β : Type} {f : State → β → State} (step : ∀ t x, LoopSilent l t → LoopSilent l (f t x)) (xs : List β)
    (h : LoopSilent l s) : LoopSilent l (xs.foldl f s) := by
  induction xs generalizing s with
  | nil => exact h
  | cons x xs ih => exact ih (step s x h)

theorem markBlock (h : LoopSilent l s) (fb : PerActuator Nat) (turn : Turn) (b : MarkBlock) :
    LoopSilent l (markBlock fb turn s b) := by
  cases b with
  | supervision =>
    have quiet : ∀ t n, LoopSilent l t → LoopSilent l (quietOne turn t n) := fun t n ht => by
      unfold quietOne
      split <;> exact ht.of_loop (by simp)
    have lost : ∀ t n, LoopSilent l t → LoopSilent l (lostOne turn t n) := fun t n ht =>
      (ht.lostStep n).of_loop (by simp [lostOne])
    have counted : LoopSilent l (advanceCounts s) := h
    exact foldl lost _ (foldl quiet _ counted)
  | purge => exact h.of_loop (by simp [Machine.markBlock])
  | blowers => exact h.of_loop (by simp [Machine.markBlock])
  | actuators => exact h.of_loop (by simp [Machine.markBlock])

end LoopSilent

/-- No block of a Frame Mark changes a line of the frame it opens (R162, log entry 32). -/
theorem frameMark_loop (fb : PerActuator Nat) (order : List MarkBlock) (turn : Turn) (s : State) :
    (frameMark fb order turn s).loop = (openFrame s).loop := by
  have opened : LoopSilent (openFrame s).loop (tickFrames (openFrame s)) :=
    ⟨by simp, fun n => by simp [openFrame, Line.blank]⟩
  exact (LoopSilent.foldl (fun t b h => h.markBlock fb turn b) (fullOrder order) opened).1

/-! ## Marks that stand -/

/-- A mark once set stands while conditions change (R179). -/
theorem setCondition_mark_stands {n : Station} {g : Group} {s : State} (h : (s.marks.get n).get g = true)
    (c : Condition) (v : Bool) : ((setCondition c v s).marks.get n).get g = true := by
  unfold setCondition
  split
  · exact h
  · rw [markAll_get]
    split
    · rfl
    · exact h

/-- A mark once set stands over the handing on of a plan (R26, R179). -/
theorem handOver_mark_stands {n : Station} {g : Group} {s : State} (h : (s.marks.get n).get g = true) :
    ((handOver s).marks.get n).get g = true := by
  have marked : ((markAll .plan s).marks.get n).get g = true := by
    rw [markAll_get]
    split
    · rfl
    · exact h
  refine setCondition_mark_stands ?_ _ _
  simp only [takeActuatorTargets_kept, takeZoneBlowers_kept]
  unfold withRegulator checkShortfall
  split
  · exact marked
  · refine setCondition_mark_stands ?_ _ _
    exact marked

theorem Marks.eq_all {m : Marks} (h : ∀ g, m.get g = true) : m = Marks.all := by
  obtain ⟨a, b, c, d, e, f⟩ := m
  have plan : a = true := h .plan
  have conditions : b = true := h .conditions
  have purge : c = true := h .purge
  have vehicle : d = true := h .vehicle
  have movers : e = true := h .movers
  have settings : f = true := h .settings
  rw [plan, conditions, purge, vehicle, movers, settings]
  rfl

/-! ## The stations -/

/-- Settles O5. -/
theorem resetLeavesStationsUnheard : Obligations.ResetLeavesStationsUnheard := by
  intro fb held s
  obtain ⟨settings, -, loop, stations, table, -, -, -, -, -, -, -, -, buffers, detached, trend, resetHeld⟩ :=
    resetPart_kept fb held s
  refine ⟨_, execReset_eq fb held s, fun n => ?_, table, buffers, ?_, ?_, detached, fun n => ?_, fun released => ?_⟩
  · rw [stations, State.slot, settings]
    exact PerStation.get_map _ _ n
  · rw [trend]
  · rw [trend]
  · refine Marks.eq_all fun g => handOver_mark_stands (s := resetStart fb held s) ?_
    rw [show (resetStart fb held s).marks.get n = Marks.all from PerStation.get_ofFn _ n]
    cases g <;> rfl
  · intro fb' order turn
    refine ⟨_, congrArg Host.Outcome.next (unlessHeld_of_released _ (resetHeld.trans released)), ?_⟩
    rw [frameMark_loop, openFrame, State.setLoop_loop, loop]
    rfl

/-! ## The settings -/

/-- The map of section 12.4 has 160 places. -/
theorem toWords_length (g : Settings) : g.toWords.length = 160 := by
  simp [Settings.toWords, stationPlaces, planPlaces, purgePlaces, scanPlaces, calibrationPlaces, thresholdPlaces,
    drivePlaces, emptyPlaces, PerStation.toList, PerDoor.toList, PerCal.toList, PerBlower.toList, PerActuator.toList]

theorem StoredCopy.load_of_match {g : Settings} : (StoredCopy.whole g g.checkWord).load = ⟨g, g.checkWord, false⟩ :=
  if_pos rfl

/-- A stored copy whose check fails loads the factory defaults (R180). -/
theorem StoredCopy.load_of_fails {c : StoredCopy} (h : c = .torn ∨ ∃ g w, c = .whole g w ∧ w ≠ g.checkWord) :
    c.load = Loaded.defaults := by
  rcases h with rfl | ⟨g, w, rfl, fails⟩
  · rfl
  · exact if_neg fun same => fails same.symm

/-- Settings Defaulted tells of the loading, the handing on of the plan leaves it (R180). -/
theorem resetPart_settingsDefaulted (fb : PerActuator Nat) (held : Bool) (s : State) :
    (resetPart fb held s).conditions.settingsDefaulted = s.loaded.defaulted :=
  (handOver_handedOn (resetStart fb held s)).conditions .settingsDefaulted (by decide)

/-- Settles O7. -/
theorem resetLoadsTheStoredCopy : Obligations.ResetLoadsTheStoredCopy := by
  refine ⟨fun g => ⟨toWords_length g, rfl⟩, fun fb held s => ⟨_, execReset_eq fb held s, ?_⟩⟩
  obtain ⟨settings, store, -⟩ := resetPart_kept fb held s
  rw [resetPart_settingsDefaulted, settings, store]
  refine ⟨rfl, fun writing => ?_, fun idle => ?_, fun g w whole matching => ?_, fun fails => ?_⟩
  · obtain ⟨w, hw⟩ := Option.isSome_iff_exists.mp writing
    simp [Store.tear, hw]
  · simp [Store.tear, idle]
  · have loaded : s.loaded = ⟨g, g.checkWord, false⟩ := by
      rw [State.loaded, show s.store.tear.stored = .whole g w from whole, matching, StoredCopy.load_of_match]
    rw [loaded]
    exact ⟨rfl, matching.symm, rfl⟩
  · have loaded : s.loaded = Loaded.defaults := StoredCopy.load_of_fails fails
    rw [loaded]
    exact ⟨rfl, rfl, rfl⟩

end Sys2Proof.Machine
end

section
/-! The drives, the conditions and the scan right after RESET (R108, R123, R135, R149, R160). -/

namespace Sys2Proof.Machine

open Sys2Proof

/-! ## The actuators -/

theorem nearTarget_iff (target position : Nat) :
    nearTarget target position = true ↔ target ≤ position + 2 ∧ position ≤ target + 2 := by
  simp [nearTarget]

theorem readingInRange_iff (reading : Nat) : readingInRange reading = true ↔ 20 ≤ reading ∧ reading ≤ 980 := by
  simp [readingInRange]

/-- The position of R149 is the rounded quotient, brought into 0 to 100. -/
theorem positionOf_spec (reading : Nat) {closedEnd openEnd : Nat} (apart : closedEnd < openEnd) :
    ∃ q : Int, RoundsTo (((reading : Int) - closedEnd) * 100) (openEnd - closedEnd) q ∧
      (positionOf reading closedEnd openEnd : Int) = within 0 100 q := by
  refine ⟨_, roundHalfAway_spec _ _ (Nat.sub_pos_of_lt apart), ?_⟩
  unfold positionOf
  rw [clampInt_eq_within _ _ _ (by decide)]
  unfold within
  omega

theorem ActuatorState.fromStill_of_near {a : ActuatorState} (h : nearTarget a.target a.position = true) :
    a.fromStill = a := if_pos h

theorem ActuatorState.fromStill_of_not_near {a : ActuatorState} (h : ¬nearTarget a.target a.position = true) :
    a.fromStill = { a.start with retryUsed := false } := if_neg h

/-- An actuator at reset Still at its first target, before any move (R160). -/
def restedActuator (reading closedEnd openEnd target : Nat) : ActuatorState :=
  ⟨target, resetPosition reading closedEnd openEnd, .still, .off, resetPosition reading closedEnd openEnd, 0, none, none,
    false, .none, !readingInRange reading, reading⟩

/-- A move that is due begins at once, unless the reading is out of range or the part is held (R160). -/
theorem resetActuator_eq (held : Bool) (reading closedEnd openEnd target : Nat) :
    resetActuator held reading closedEnd openEnd target =
      if readingInRange reading = true ∧ held = false then (restedActuator reading closedEnd openEnd target).fromStill
      else restedActuator reading closedEnd openEnd target := by
  simp [resetActuator, restedActuator]

/-- No move begins while the reading is out of range, while the part is held, or at the target (R151, R160). -/
theorem resetActuator_of_rest {held : Bool} {reading closedEnd openEnd target : Nat}
    (h : readingInRange reading = false ∨ held = true ∨
      nearTarget target (resetPosition reading closedEnd openEnd) = true) :
    resetActuator held reading closedEnd openEnd target = restedActuator reading closedEnd openEnd target := by
  rw [resetActuator_eq]
  split
  · next due =>
    refine ActuatorState.fromStill_of_near ?_
    rcases h with outside | assertedPin | near
    · simp [due.1] at outside
    · simp [due.2] at assertedPin
    · exact near
  · rfl

/-- A move that is due begins at once (R160). -/
theorem resetActuator_of_due {reading closedEnd openEnd target : Nat} (read : readingInRange reading = true)
    (far : ¬nearTarget target (resetPosition reading closedEnd openEnd) = true) :
    resetActuator false reading closedEnd openEnd target =
      { (restedActuator reading closedEnd openEnd target).start with retryUsed := false } := by
  rw [resetActuator_eq, if_pos ⟨read, rfl⟩]
  exact ActuatorState.fromStill_of_not_near far

theorem resetActuator_target (held : Bool) (reading closedEnd openEnd target : Nat) :
    (resetActuator held reading closedEnd openEnd target).target = target := by
  rw [resetActuator_eq]
  unfold ActuatorState.fromStill
  split
  · split <;> rfl
  · rfl

/-- The handing on of the first plan gives an actuator the target it has (R160). -/
theorem resetPart_actuator (fb : PerActuator Nat) (held : Bool) (s : State) (a : ActuatorId) :
    (resetPart fb held s).actuators.get a =
      resetActuator held (fb.get a) (s.loaded.settings.closedEnd.get a) (s.loaded.settings.openEnd.get a)
        ((resetPart fb held s).plan.body.actuatorTargets.get a) := by
  have read : (resetStart fb held s).actuators.get a = resetActuator held (fb.get a)
      (s.loaded.settings.closedEnd.get a) (s.loaded.settings.openEnd.get a)
      ((resetStart fb held s).plan.body.actuatorTargets.get a) := PerActuator.get_ofFn _ a
  rw [resetPart_eq, show (handOver (resetStart fb held s)).plan = (resetStart fb held s).plan by simp, handOver_actuators,
    PerActuator.get_mapWith, read]
  exact if_pos (resetActuator_target _ _ _ _ _)

theorem resetActuator_drive_of_held (reading closedEnd openEnd target : Nat) :
    (resetActuator true reading closedEnd openEnd target).drive = .off := by
  simp [resetActuator_eq, restedActuator]

/-- Settles O8. -/
theorem resetSettlesTheActuators : Obligations.ResetSettlesTheActuators := by
  intro fb held s
  refine ⟨_, execReset_eq fb held s, fun a apart => ?_⟩
  dsimp only
  rw [resetPart_actuator, (resetPart_kept fb held s).1] at *
  generalize s.loaded.settings.closedEnd.get a = closedEnd at *
  generalize s.loaded.settings.openEnd.get a = openEnd at *
  generalize (resetPart fb held s).plan.body.actuatorTargets.get a = target
  generalize fb.get a = reading
  by_cases read : readingInRange reading = true
  · have position : resetPosition reading closedEnd openEnd = positionOf reading closedEnd openEnd := if_pos read
    have spec := positionOf_spec reading apart
    have inside := (readingInRange_iff reading).mp read
    by_cases due : held = false ∧ ¬nearTarget target (resetPosition reading closedEnd openEnd) = true
    · obtain ⟨rfl, far⟩ := due
      rw [resetActuator_of_due read far]
      rw [nearTarget_iff, position] at far
      simp only [restedActuator, ActuatorState.start, position, driveToward, read]
      refine ⟨trivial, trivial, trivial, trivial, trivial, trivial, trivial, fun _ => ⟨spec, rfl, ?_, ?_, ?_⟩,
        fun outside => absurd inside outside⟩
      · rintro (asserted | near)
        · cases asserted
        · exact absurd near far
      · exact fun _ below => ⟨trivial, if_pos (by omega)⟩
      · exact fun _ above => ⟨trivial, if_neg (by omega)⟩
    · have rest : held = true ∨ nearTarget target (resetPosition reading closedEnd openEnd) = true := by
        by_cases asserted : held = true
        · exact .inl asserted
        · exact .inr (not_not.mp fun far => due ⟨Bool.eq_false_iff.mpr asserted, far⟩)
      rw [resetActuator_of_rest (.inr rest)]
      rw [nearTarget_iff, position] at rest
      simp only [restedActuator, position, read]
      refine ⟨trivial, trivial, trivial, trivial, trivial, trivial, trivial,
        fun _ => ⟨spec, rfl, fun _ => ⟨trivial, trivial⟩, ?_, ?_⟩, fun outside => absurd inside outside⟩
      · rintro rfl below
        have near := rest.resolve_left nofun
        omega
      · rintro rfl above
        have near := rest.resolve_left nofun
        omega
  · have outside : ¬(20 ≤ reading ∧ reading ≤ 980) := fun inside => read ((readingInRange_iff reading).mpr inside)
    have unread : readingInRange reading = false := Bool.eq_false_iff.mpr read
    rw [resetActuator_of_rest (.inl unread)]
    simp only [restedActuator, resetPosition, unread]
    exact ⟨trivial, trivial, trivial, trivial, trivial, trivial, trivial, fun inside => absurd inside outside,
      fun _ => ⟨rfl, rfl, trivial, trivial⟩⟩

/-! ## The scan and the conditions -/

/-- Pass 0 starts at the first entry of its list, whatever the dividers (R108, R122). -/
theorem startWalk_zero (e : ScanEntry) (rest : List ScanEntry) (now : BitVec 32) :
    startWalk 0#8 (e :: rest) now = .converting e rest now := by
  have due : entryDue 0#8 e = true := by simp [entryDue]
  simp [startWalk, nextDue, due]

/-- After reset only Vehicle Unverified is Raised, and Settings Defaulted where the check failed (R123, R180). -/
theorem resetPart_conditions (fb : PerActuator Nat) (held : Bool) (s : State) (c : Condition) :
    (resetPart fb held s).conditions.get c = true ↔
      c = .vehicleUnverified ∨ (c = .settingsDefaulted ∧ (resetPart fb held s).conditions.settingsDefaulted = true) := by
  rw [resetPart_settingsDefaulted, resetPart_eq]
  have atStart : (resetStart fb held s).conditions = resetConditions s.loaded.defaulted := rfl
  by_cases shortfall : c = .holdShortfall
  · subst shortfall
    have clear := (handOver_holdShortfall (resetStart fb held s)).trans (Bool.false_and _)
    exact ⟨fun raised => absurd (clear.symm.trans raised) Bool.false_ne_true, by simp⟩
  · by_cases co : c = .coUnderSeal
    · subst co
      have clear := (handOver_coUnderSeal (resetStart fb held s)).trans (Bool.false_and _)
      exact ⟨fun raised => absurd (clear.symm.trans raised) Bool.false_ne_true, by simp⟩
    · rw [(handOver_handedOn (resetStart fb held s)).conditions c (by simp [shortfall, co]), atStart]
      cases c <;> simp [Conditions.get, resetConditions, Conditions.reset]

/-! ## Held in reset -/

theorem receives_of_held {s : State} (h : s.resetHeld = true) (n : Station) : s.receives n = false := by
  simp [State.receives, h]

/-! ## The blocks -/

theorem resetPart_reg (fb : PerActuator Nat) (held : Bool) (s : State) :
    (resetPart fb held s).reg = Regulator.reset := by
  rw [resetPart_eq, handOver_reg]
  simp only [State.plannedReg, resetStart_plan]
  rfl

theorem resetPart_blower (fb : PerActuator Nat) (held : Bool) (s : State) (b : Blower) :
    (resetPart fb held s).blowers.get b =
      resetBlower held s.loaded.settings.shortLevel (s.loaded.settings.overloadLevel.get b)
        (s.blowers.get b).current := by
  have start : (resetStart fb held s).blowers.get b = resetBlower held s.loaded.settings.shortLevel
      (s.loaded.settings.overloadLevel.get b) (s.blowers.get b).current := PerBlower.get_mapWith _ _ b
  have reg : (resetStart fb held s).plannedReg.output = 0 := by
    simp only [State.plannedReg, resetStart_plan]
    rfl
  rw [← start, resetPart_eq, handOver_blowers, reg, resetStart_plan]
  have target : ((resetStart fb held s).blowers.get b).target = 0 := by
    rw [start, resetBlower_eq]
  have same : ((resetStart fb held s).blowers.get b).takeTarget 0 = (resetStart fb held s).blowers.get b := by
    rw [BlowerState.takeTarget, ← target]
  cases b <;> exact same

/-- Settles O6. -/
theorem resetLeavesEveryBlockAtItsStart : Obligations.ResetLeavesEveryBlockAtItsStart := by
  refine ⟨fun fb held s => ⟨_, execReset_eq fb held s, ?_⟩, fun s held => ?_⟩
  · obtain ⟨settings, -, loop, -, -, plan, resolver, purge, vehicle, clock, scan, record, scene, -, -, -, resetHeld⟩ :=
      resetPart_kept fb held s
    have alert : AlertWithMask (resetPart fb held s) :=
      AlertWithMask.handOver (alertDue_iff (resetStart fb held s))
    have walk : (resetPart fb held s).scan.walk = startWalk 0#8 (resetPart fb held s).scan.working 0#32 := by
      rw [scan]
      rfl
    refine ⟨resetHeld, ?_, resolver, resetPart_reg fb held s, purge, ?_, fun d => ?_, ?_, clock, ?_, ?_, ?_, ?_,
      fun stopped => ?_, fun e rest first => ?_, record, scene, resetPart_conditions fb held s, alert, fun asserted => ?_,
      fun b => ?_, ?_, ?_, ?_, fun n => ?_⟩
    · rw [plan, settings]
      rfl
    · rw [vehicle]
      rfl
    · rw [vehicle]
      exact PerDoor.get_ofFn _ d
    · rw [vehicle]
      rfl
    · rw [scan]
      rfl
    · rw [scan, settings]
      rfl
    · rw [scan]
      rfl
    · rw [scan]
      rfl
    · rw [walk, stopped]
      rfl
    · rw [walk, first, startWalk_zero]
    · refine ⟨Bool.eq_false_iff.mpr fun driven => ?_, fun a => ?_⟩
      · have released := (alert.mp driven).1
        rw [resetHeld, asserted] at released
        cases released
      · rw [resetPart_actuator, asserted]
        exact resetActuator_drive_of_held _ _ _ _
    · rw [resetPart_blower, resetBlower_eq, settings]
    · rw [loop]
      rfl
    · rw [loop]
      rfl
    · rw [loop]
      rfl
    · rw [loop, State.slot, settings]
      simp [resetLoop, enabledSlots, Station.mem_all]
  · exact ⟨receives_of_held held, fun fb order turn => congrArg Host.Outcome.next (unlessHeld_of_held _ held),
      fun h => congrArg Host.Outcome.next (unlessHeld_of_held _ held),
      fun raw turn => congrArg Host.Outcome.next (unlessHeld_of_held _ held),
      fun turn => congrArg Host.Outcome.next (unlessHeld_of_held _ held)⟩

end Sys2Proof.Machine
end

section
/-! The air path of the plan, layer by layer (R31 to R47). -/

namespace Sys2Proof.Machine

open Sys2Proof

/-- The air path of a draft: shutter, relief and intake, each none where still open (R34). -/
def Draft.path (d : Draft) : Option Nat × Option Nat × Option Intake := (d.shutter, d.relief, d.intake)

/-- An air path set where still open (R34). -/
def fillAir (p : Option Nat × Option Nat × Option Intake) (shutter relief : Nat) (intake : Intake) :
    Option Nat × Option Nat × Option Intake :=
  (fill p.1 shutter, fill p.2.1 relief, fill p.2.2 intake)

/-- A path that is set stays (R34). -/
theorem fillAir_of_set (shutter relief : Nat) (intake : Intake) (a b : Nat) (i : Intake) :
    fillAir (some shutter, some relief, some intake) a b i = (some shutter, some relief, some intake) := rfl

theorem fillAir_of_open (a b : Nat) (i : Intake) : fillAir (none, none, none) a b i = (some a, some b, some i) := rfl

namespace State

variable (s : State) (d : Draft)

theorem layer1_path : (s.layer1 d).path = if s.shelterNow = .sealed then fillAir d.path 0 0 .off else d.path := by
  unfold layer1
  split <;> rfl

theorem layer2_path : (s.layer2 d).path =
    if s.purge.phase = .flushing ∧ s.shelterNow ≠ .sealed then fillAir d.path 100 100 (.fixed 1000) else d.path := by
  unfold layer2
  split <;> rfl

theorem layer3_path : (s.layer3 d).path =
    if s.shelterNow = .pressurize then fillAir d.path 100 (if s.conditions.cabCoHigh then 25 else 0)
      (.regulated s.settings.shelterTarget s.settings.shelterBase s.settings.shelterFloor) else d.path := by
  unfold layer3
  split <;> rfl

theorem layer4_path : (s.layer4 d).path =
    if s.coFlushNow then fillAir d.path 100 100 (.fixed 800) else d.path := by
  unfold layer4
  split <;> rfl

theorem layer5_path : (s.layer5 d).path = if s.ignitionOffNow then fillAir d.path 0 0 .off else d.path := by
  unfold layer5
  split <;> rfl

theorem layer6_path : (s.layer6 d).path =
    if s.cabModeNow = .off ∨ s.cabModeNow = .recirc then fillAir d.path 0 0 .off
    else fillAir d.path 100 25 (.regulated s.settings.freshTarget s.settings.freshBase s.settings.freshFloor) := by
  unfold layer6
  cases s.cabModeNow <;> rfl

/-- The air path as the first layer whose condition holds sets it (R34, R36 to R41). -/
theorem layered_path : s.layered.path =
    if s.shelterNow = .sealed then (some 0, some 0, some .off)
    else if s.purge.phase = .flushing then (some 100, some 100, some (.fixed 1000))
    else if s.shelterNow = .pressurize then (some 100, some (if s.conditions.cabCoHigh then 25 else 0),
      some (.regulated s.settings.shelterTarget s.settings.shelterBase s.settings.shelterFloor))
    else if s.coFlushNow then (some 100, some 100, some (.fixed 800))
    else if s.ignitionOffNow then (some 0, some 0, some .off)
    else if s.cabModeNow = .off ∨ s.cabModeNow = .recirc then (some 0, some 0, some .off)
    else (some 100, some 25,
      some (.regulated s.settings.freshTarget s.settings.freshBase s.settings.freshFloor)) := by
  unfold layered
  rw [layer6_path, layer5_path, layer4_path, layer3_path, layer2_path, layer1_path,
    show Draft.blank.path = (none, none, none) from rfl]
  by_cases isSealed : s.shelterNow = .sealed
  · simp [isSealed, fillAir_of_open, fillAir_of_set]
  by_cases flushing : s.purge.phase = .flushing
  · simp [isSealed, flushing, fillAir_of_open, fillAir_of_set]
  by_cases pressurize : s.shelterNow = .pressurize
  · simp [pressurize, flushing, fillAir_of_open, fillAir_of_set]
  by_cases coFlush : s.coFlushNow = true
  · simp [isSealed, pressurize, flushing, coFlush, fillAir_of_open, fillAir_of_set]
  by_cases ignition : s.ignitionOffNow = true
  · simp [isSealed, pressurize, flushing, coFlush, ignition, fillAir_of_open, fillAir_of_set]
  · simp [isSealed, pressurize, flushing, coFlush, ignition, fillAir_of_open]

theorem shelterNow_eq_inactive :
    s.shelterNow = .inactive ↔ s.requestSource = false ∧ s.resolver.autoLatch = false ∧ s.pumpSource = false := by
  unfold shelterNow
  split
  · next asked =>
    constructor
    · split <;> exact nofun
    · rintro ⟨request, latch, pump⟩
      simp [request, latch, pump] at asked
  · next unasked => simpa [and_assoc] using unasked

theorem shelterNow_eq_sealed :
    s.shelterNow = .sealed ↔ s.shelterNow ≠ .inactive ∧ s.conditions.heavySmoke = true := by
  unfold shelterNow
  split
  · cases s.conditions.heavySmoke <;> simp
  · simp

end State

theorem shedBlower_of_shed {t : Nat} : shedBlower true t ≤ 375 := Nat.min_le_right _ _

/-- Settles O24. -/
theorem airPathFollowsThePrecedence : Obligations.AirPathFollowsThePrecedence := by
  intro s
  have path := s.layered_path
  obtain ⟨shutter, relief, intake⟩ : s.layered.shutter = s.layered.path.1 ∧ s.layered.relief = s.layered.path.2.1 ∧
    s.layered.intake = s.layered.path.2.2 := ⟨rfl, rfl, rfl⟩
  refine ⟨s.shelterNow_eq_inactive, s.shelterNow_eq_sealed, by simp [formPlan, State.shedNow],
    by simp [formPlan, State.coFlushNow], by simp [formPlan, State.ignitionOffNow, and_assoc], rfl, ?_,
    fun shed => ?_, fun unavailable => ?_⟩
  · simp only [formPlan, shutter, relief, intake, path]
    cases s.shedNow <;> split_ifs <;> simp_all [shedIntake]
  · have shed : s.shedNow = true := shed
    simp only [formPlan, shed]
    exact ⟨shedBlower_of_shed, shedBlower_of_shed⟩
  · have heater : s.heaterNext = false := by simpa [formPlan] using unavailable
    simp [formPlan, State.heaterValveNow, heater]

end Sys2Proof.Machine
end

section
/-! The capture of a trend record (R177) and the sample of Intake Flow (R85 to R87). -/

namespace Sys2Proof.Machine

open Sys2Proof

/-! ## Trend captures -/

/-- A trend entry is the value shown with its Held flag (R177). -/
theorem trendEntry_eq (r : ChannelRecord) :
    trendEntry r = if r.status = .fresh ∨ r.status = .held then r.value.map fun v => (decide (r.status = .held), v)
      else none := by
  obtain ⟨status, value, time, bad⟩ := r
  cases status <;> rfl

theorem trendRecord_eq (h : Hold) (s : State) : s.trendRecord h = capturedRecord h s := by
  simp only [State.trendRecord, capturedRecord, chosenChannels, trendEntry_eq]

/-- A record joins the queue as R177 has it, a full queue losing the oldest whose run has not begun. -/
theorem enqueueTrend_captured (r : TrendRecord) (before : Trend) :
    Captured r before { before with passCounter := 0, queue := enqueueTrend before.begun before.queue r } := by
  refine ⟨fun room => by rw [enqueueTrend, if_pos room], fun full => ?_⟩
  have noRoom : ¬before.queue.length < 48 := Nat.not_lt_of_le full
  cases begun : before.begun with
  | true =>
    obtain ⟨x, ys, split⟩ := List.exists_cons_of_ne_nil (List.append_ne_nil_of_right_ne_nil (before.queue.drop 2)
      (List.cons_ne_nil r []))
    refine ⟨x, ys, split, ?_⟩
    rw [enqueueTrend, if_neg noRoom, split]
    rfl
  | false =>
    obtain ⟨x, ys, split⟩ := List.exists_cons_of_ne_nil (List.append_ne_nil_of_right_ne_nil (before.queue.drop 1)
      (List.cons_ne_nil r []))
    refine ⟨x, ys, split, ?_⟩
    rw [enqueueTrend, if_neg noRoom, split]
    rfl

/-- A capture at the decimation (R177). -/
theorem captureTrend_of_due {s : State} {h : Hold} (hold : s.trend.hold = some h)
    (due : h.decimation ≤ s.trend.passCounter) :
    captureTrend s = s.setTrend { s.trend with
      passCounter := 0, queue := enqueueTrend s.trend.begun s.trend.queue (capturedRecord h s) } := by
  rw [captureTrend, hold, ← trendRecord_eq]
  exact if_pos due

/-- Short of the decimation nothing is captured (R177). -/
theorem captureTrend_of_not_due {s : State} (short : ∀ h, s.trend.hold = some h → s.trend.passCounter < h.decimation) :
    captureTrend s = s := by
  unfold captureTrend
  split
  · rfl
  · next h hold => exact if_neg (Nat.not_le_of_lt (short h hold))

/-- Settles O39. -/
theorem trendCaptureTakesARecord : Obligations.TrendCaptureTakesARecord := by
  refine fun s => ⟨fun h hold due => ⟨captureTrend s, rfl, ?_, fun p hp => ?_⟩, fun short => ?_⟩
  · rw [captureTrend_of_due hold due]
    exact enqueueTrend_captured _ _
  · rw [captureTrend_of_due hold due]
    cases p <;> first | rfl | exact absurd (by decide) hp
  · exact congrArg Host.Outcome.next (captureTrend_of_not_due short)

/-! ## Intake Flow -/

theorem Purge.reached_iff (p : Purge) : p.reached = true ↔ ∃ target, p.target = some target ∧ target ≤ p.litres := by
  simp [Purge.reached, Option.any_eq_true]

theorem flowSample_of_shown {s : State} {q : Int} (phase : s.purge.phase = .flushing) (shown : s.flowShown = some q)
    (previous : Option (BitVec 32)) (now : BitVec 32) :
    flowSample previous now s = countSample (flowUnits q (sampleInterval previous now)) s := by
  rw [flowSample, if_pos phase, shown]

/-- The count of litres and tenths of a millilitre after a sample, saturating at 65535 litres (R85). -/
theorem Purge.count_spec (p : Purge) (units : Nat) :
    (p.count units).remainder < 10000 ∧ (p.count units).litres ≤ 65535 ∧
    (10000 * p.litres + p.remainder + units < 10000 * 65536 →
      10000 * (p.count units).litres + (p.count units).remainder = 10000 * p.litres + p.remainder + units) ∧
    (10000 * 65536 ≤ 10000 * p.litres + p.remainder + units → (p.count units).litres = 65535) := by
  dsimp only [Purge.count]
  omega

/-- Settles O31. -/
theorem flowSampleAddsItsUnits : Obligations.FlowSampleAddsItsUnits := by
  intro previous now q s phase shown _ _
  obtain ⟨remainder, bound, exact, saturates⟩ := s.purge.count_spec (q * sampleInterval previous now)
  have sample := flowSample_of_shown phase shown previous now
  rw [show flowUnits (q : Int) (sampleInterval previous now) = q * sampleInterval previous now from rfl] at sample
  refine ⟨_, _, sampleInterval previous now, ?_, ?_, remainder, bound, exact, saturates, fun short => ?_,
    fun target aim met => ?_⟩
  · rintro rfl
    rfl
  · rintro p rfl
    rfl
  · rw [sample, countSample, if_neg]
    · rfl
    · rw [Purge.reached_iff]
      rintro ⟨target, aim, met⟩
      exact absurd met (Nat.not_le_of_lt (short target aim))
  · have ended : flowSample previous now s =
        endPurge .done (s.setPurge (s.purge.count (q * sampleInterval previous now))) := by
      rw [sample, countSample, if_pos ((Purge.reached_iff (s.purge.count _)).mpr ⟨target, aim, met⟩)]
    rw [ended]
    refine ⟨rfl, rfl, fun p hp => ?_⟩
    cases p <;> first | rfl | exact absurd (by decide) hp

end Sys2Proof.Machine
end

section
/-! The readback of a Frame Mark (R171), cells as bytes (R164, R165) and the downlink (R167 to R170, R174, R178). -/

namespace Sys2Proof.Machine

open Sys2Proof

/-! ## Readback -/

theorem MarkedAll.handOver {g : Group} {s : State} (h : MarkedAll g s) : MarkedAll g (handOver s) := by
  intro n hn
  refine handOver_mark_stands (h n ?_)
  simpa [State.modeOf] using hn

/-- A mark once set stands over a resolution (R179). -/
theorem MarkedAll.resolve {g : Group} {s : State} (h : MarkedAll g s) : MarkedAll g (resolve s) := by
  rcases resolve_cases s with ⟨-, eq⟩ | ⟨-, eq⟩
  · rw [eq]
    exact h
  · rw [eq]
    exact MarkedAll.handOver (s := install _ (updateHeater s)) h

theorem markGood_iff (frame : Word) (h : Readback) :
    markGood frame h = true ↔ h.breakSeen = true ∧ h.stopsValid = true ∧ h.high = highByte frame ∧
      h.low = lowByte frame ∧ h.check = crc8 [highByte frame, lowByte frame] := by
  simp [markGood, frameMarkBytes, wordBytes, and_assoc]

/-- A change of Loop Fault: both runs 0, the condition with its marks, and one trigger (R124, R171). -/
theorem changeLoopFault_spec {v : Bool} {s : State} (changes : s.conditions.loopFault ≠ v) :
    (changeLoopFault v s).conditions.loopFault = v ∧
    (changeLoopFault v s).loop = { s.loop with mismatchRun := 0, goodRun := 0 } ∧
    (changeLoopFault v s).plan.body = formPlan (changeLoopFault v s) ∧
    MarkedAll .conditions (changeLoopFault v s) ∧
    ChangesOnly (.loop :: resolutionParts) s (changeLoopFault v s) ∧
    ConditionsChangeOnly [.loopFault, .holdShortfall, .coUnderSeal] s (changeLoopFault v s) ∧
    BlowersKeepAllButTargets s (changeLoopFault v s) := by
  obtain ⟨get, -, effects, -, parts⟩ := setCondition_spec .loopFault v (setRuns 0 0 s)
  have resolved := resolve_resolved (setCondition .loopFault v (setRuns 0 0 s))
  have runs : ChangesOnly [.loop] s (setRuns 0 0 s) := fun p hp => by
    cases p <;> first | rfl | exact absurd (by decide) hp
  refine ⟨?_, by simp [changeLoopFault, setRuns], resolved.current, MarkedAll.resolve (effects changes).2,
    ((runs.mono (by decide)).trans (parts.mono (by decide))).trans (resolved.parts.mono (by decide)), fun c hc => ?_,
    fun b => ?_⟩
  · exact (resolved.conditions .loopFault (by decide)).trans ((get .loopFault).trans (if_pos rfl))
  · exact (resolved.conditions c fun no => hc (List.mem_cons_of_mem _ no)).trans
      ((get c).trans (if_neg fun same => hc (by simp [same])))
  · have blowers : (setCondition .loopFault v (setRuns 0 0 s)).blowers = s.blowers := by simp
    rw [← blowers]
    exact resolved.blowers b

/-- Settles O49. -/
theorem frameMarkEndCountsTheReadback : Obligations.FrameMarkEndCountsTheReadback := by
  intro h s
  dsimp only
  rw [← markGood_iff]
  have ended (released : s.resetHeld = false) : exec (.frameMarkEnd h) s = .next (frameMarkEnd h s) :=
    congrArg Host.Outcome.next (unlessHeld_of_released _ released)
  have raised (clear : s.conditions.loopFault = false) := changeLoopFault_spec (v := true) (s := s) (by simp [clear])
  have cleared (fault : s.conditions.loopFault = true) := changeLoopFault_spec (v := false) (s := s) (by simp [fault])
  refine ⟨fun released clear => ?_, fun released fault => ?_, fun clear third => ?_, fun not => ?_, fun fault tenth => ?_,
    fun not => ?_⟩
  · rw [ended released, frameMarkEnd]
    refine ⟨fun good => ?_, fun bad short => ?_, fun bad third => ⟨_, ?_, raised clear⟩⟩
    · simp [good, goodMark, clear, setRuns]
    · have few : ¬3 ≤ s.loop.mismatchRun + 1 := by omega
      simp [bad, badMark, clear, few, setRuns]
    · have many : 3 ≤ s.loop.mismatchRun + 1 := by omega
      simp [bad, badMark, clear, many]
  · rw [ended released, frameMarkEnd]
    refine ⟨fun bad => ?_, fun good short => ?_, fun good tenth => ⟨_, ?_, cleared fault⟩⟩
    · simp [bad, badMark, fault, setRuns]
    · have few : ¬10 ≤ s.loop.goodRun + 1 := by omega
      simp [good, goodMark, fault, few, setRuns]
    · have many : 10 ≤ s.loop.goodRun + 1 := by omega
      simp [good, goodMark, fault, many]
  · exact ⟨_, if_pos ⟨clear, third⟩, raised clear⟩
  · exact if_neg not
  · exact ⟨_, if_pos ⟨fault, tenth⟩, cleared fault⟩
  · exact if_neg not

/-! ## Cells as bytes -/

theorem joinBytes_highByte_lowByte (w : Word) : joinBytes (highByte w) (lowByte w) = w :=
  BitVec.extractLsb'_append_extractLsb' (w := 8) (len := 8)

theorem stationByte_injective {n m : Station} (h : stationByte n = stationByte m) : n = m := by
  revert h
  cases n <;> cases m <;> decide

/-- Whole bytes in a window are judged by their first eleven (R165). -/
theorem judgeWindow_of_whole (n : Station) (bytes : List Byte) :
    judgeWindow n ⟨true, bytes, true⟩ = judgeBytes n (bytes.take 11) := rfl

/-- Ten bytes of a cell and a check byte, judged in a window of slot `n` (R164, R165). -/
theorem judgeBytes_body (n : Station) (c : Cell) (b : Byte) :
    judgeBytes n ((c.body ++ [b]).take 11) =
      if crc8 c.body = b ∧ stationByte c.station = stationByte n then .valid { c with station := n } else .garbled := by
  obtain ⟨station, kind, w0, w1, w2, w3⟩ := c
  show (if _ then Judged.valid ⟨n, kind, joinBytes (highByte w0) (lowByte w0), joinBytes (highByte w1) (lowByte w1),
    joinBytes (highByte w2) (lowByte w2), joinBytes (highByte w3) (lowByte w3)⟩ else _) = _
  simp only [joinBytes_highByte_lowByte]
  rfl

/-- Settles O53. -/
theorem cellBytesJudgeBackToTheCell : Obligations.CellBytesJudgeBackToTheCell := by
  intro c
  refine ⟨?_, fun n other => ?_, fun b wrong => ?_, rfl, fun bytes stops => rfl⟩
  · rw [judgeWindow_of_whole, Cell.bytes, judgeBytes_body]
    exact if_pos ⟨rfl, rfl⟩
  · rw [judgeWindow_of_whole, Cell.bytes, judgeBytes_body]
    exact if_neg fun ⟨_, same⟩ => other (stationByte_injective same).symm
  · rw [judgeWindow_of_whole, judgeBytes_body]
    exact if_neg fun ⟨same, _⟩ => wrong same.symm

/-! ## The end of a downlink -/

/-- The cells of a run (R169): a run is sent with a cell where its words end there. -/
theorem runCells_le_iff (words sent : Nat) : runCells words ≤ sent + 1 ↔ words ≤ 3 * (sent + 1) := by
  unfold runCells
  omega

theorem TrendRecord.words_length (r : TrendRecord) : r.words.length = 2 + r.entries.length := by
  simp [TrendRecord.words]
  omega

theorem setLine_changesOnly (n : Station) (l : Line) (s : State) : ChangesOnly [.loop] s (setLine n l s) := fun p hp => by
  cases p <;> first | rfl | exact absurd (by decide) hp

/-- A readout cell sent: the run goes on, or the buffer is empty with its last cell (R169, R174). -/
theorem advanceReadout_spec (n : Station) (s : State) :
    ChangesOnly [.buffers] s (advanceReadout n s) ∧
    (∀ m, m ≠ n → (advanceReadout n s).buffers.get m = s.buffers.get m) ∧
    ∀ b, s.buffers.get n = some b → (advanceReadout n s).buffers.get n =
      if b.words.length ≤ 3 * (b.sent + 1) then none else some ⟨b.words, b.sent + 1⟩ := by
  unfold advanceReadout
  split
  · next empty => exact ⟨ChangesOnly.refl _ s, fun _ _ => rfl, fun b buffer => absurd (empty.symm.trans buffer) nofun⟩
  · next b buffer =>
    refine ⟨fun p hp => ?_, fun m ne => by simp [ne], fun b' same => ?_⟩
    · cases p <;> first | rfl | exact absurd (by decide) hp
    · cases buffer.symm.trans same
      simp [runCells_le_iff]

/-- A stream cell sent: the run goes on, or its record leaves the queue with its last cell (R169, R178). -/
theorem advanceStream_spec (s : State) :
    ChangesOnly [.trend] s (advanceStream s) ∧
    ∀ r rest, s.trend.queue = r :: rest → (advanceStream s).trend =
      if 2 + r.entries.length ≤ 3 * (s.trend.sent + 1) then { s.trend with queue := rest, begun := false, sent := 0 }
      else { s.trend with sent := s.trend.sent + 1 } := by
  unfold advanceStream
  split
  · next empty => exact ⟨ChangesOnly.refl _ s, fun r rest first => absurd (empty.symm.trans first) nofun⟩
  · next r rest first =>
    simp only [runCells_le_iff, TrendRecord.words_length]
    refine ⟨fun p hp => ?_, fun r' rest' same => ?_⟩
    · split <;> cases p <;> first | rfl | exact absurd (by decide) hp
    · cases first.symm.trans same
      split <;> rfl

/-- The line becomes free with the end of the downlink (R169). -/
theorem downlinkEnd_of_onAir {n : Station} {s : State} {a : OnAir} (h : (s.loop.lines.get n).onAir = some a) :
    downlinkEnd n s = advanceRun n a.run (setLine n { s.loop.lines.get n with onAir := none } s) := by
  rw [downlinkEnd, h]

/-- Settles O52. -/
theorem downlinkEndAdvancesTheRun : Obligations.DownlinkEndAdvancesTheRun := by
  refine fun n s => ⟨fun free => ?_, fun a onAir => ⟨downlinkEnd n s, rfl, ?_⟩⟩
  · simp [exec, execDownlinkEnd, downlinkEnd, free]
  · rw [downlinkEnd_of_onAir onAir]
    have line := setLine_changesOnly n { s.loop.lines.get n with onAir := none } s
    refine ⟨by simp [LineBecomes, setLine], fun noRun => ?_, fun readout => ?_, fun stream => ?_⟩
    · rw [noRun]
      exact line
    · rw [readout]
      obtain ⟨parts, others, own⟩ := advanceReadout_spec n (setLine n { s.loop.lines.get n with onAir := none } s)
      refine ⟨(line.mono (by decide)).trans (parts.mono (by decide)), others, fun b buffer => ?_⟩
      exact ⟨fun last => (own b buffer).trans (if_pos last),
        fun more => (own b buffer).trans (if_neg (Nat.not_le_of_lt more))⟩
    · rw [stream]
      obtain ⟨parts, queue⟩ := advanceStream_spec (setLine n { s.loop.lines.get n with onAir := none } s)
      refine ⟨(line.mono (by decide)).trans (parts.mono (by decide)), fun r rest first => ?_⟩
      exact ⟨fun last => (queue r rest first).trans (if_pos last),
        fun more => (queue r rest first).trans (if_neg (Nat.not_le_of_lt more))⟩

/-! ## The start of a downlink -/

theorem transmit_spec (n : Station) (c : Cell) (run : Option RunKind) (s : State) :
    LineBecomes n { s.loop.lines.get n with choice := .none, onAir := some ⟨c, run⟩ } s (transmit n c run s) ∧
      ChangesOnly [.loop] s (transmit n c run s) :=
  ⟨rfl, setLine_changesOnly n _ s⟩

theorem bitAt_eq (i : Nat) (b : Bool) : bitAt i b = 2 ^ i * b.toNat := by
  cases b <;> simp [bitAt]

/-- A bit of a word given as a number. -/
theorem getLsbD_ofNat_iff {i v : Nat} (h : i < 16) : (Word.ofNat v).getLsbD i = true ↔ v / 2 ^ i % 2 = 1 := by
  rw [BitVec.getLsbD_ofNat, Nat.testBit_eq_decide_div_mod_eq]
  simp [h]

/-- A bit of a packed word is a flag where its digit there is the flag's. -/
theorem getLsbD_ofNat_eq {i v : Nat} {b : Bool} (h : i < 16) (digit : v / 2 ^ i % 2 = b.toNat) :
    (Word.ofNat v).getLsbD i = b := by
  rw [Bool.eq_iff_iff, getLsbD_ofNat_iff h, digit]
  cases b <;> simp

theorem toNat_ofNat_of_lt {v : Nat} (h : v < 65536) : (Word.ofNat v).toNat = v := Nat.mod_eq_of_lt h

/-- Word 0 of a Data cell: position, Last and the kind of the run (R169). -/
theorem dataWord0_spec {position : Nat} (h : position ≤ 15) (last stream : Bool) :
    (dataWord0 position last stream).toNat % 16 = position ∧ (dataWord0 position last stream).getLsbD 4 = last ∧
      (dataWord0 position last stream).toNat / 32 = stream.toNat := by
  have hl := last.toNat_le
  have hs := stream.toNat_le
  unfold dataWord0
  rw [bitAt_eq, bitAt_eq, toNat_ofNat_of_lt (by omega)]
  exact ⟨by omega, getLsbD_ofNat_eq (by decide) (by omega), by omega⟩

theorem answerWord0_spec (k : Byte) (c : AnswerCode) : (answerWord0 k c).toNat = k.toNat + 256 * c.num := by
  have kind := k.isLt
  have code : c.num ≤ 10 := by cases c <;> decide
  unfold answerWord0
  rw [toNat_ofNat_of_lt (by omega)]
  omega

/-- Word 0 of a Status cell: the state, the marks and the stream state (R170). -/
theorem statusWord0_spec {mode : Nat} (m : Marks) {stream : Nat} (hm : mode ≤ 7) (hs : stream ≤ 2) :
    let w := Word.ofNat (mode + m.bits + stream * 4096)
    w.toNat % 8 = mode ∧
    (w.getLsbD 4 = m.plan ∧ w.getLsbD 5 = m.conditions ∧ w.getLsbD 6 = m.purge ∧ w.getLsbD 7 = m.vehicle ∧
      w.getLsbD 8 = m.movers ∧ w.getLsbD 9 = m.settings) ∧
    w.toNat / 4096 = stream := by
  have plan := m.plan.toNat_le
  have conditions := m.conditions.toNat_le
  have purge := m.purge.toNat_le
  have vehicle := m.vehicle.toNat_le
  have movers := m.movers.toNat_le
  have settings := m.settings.toNat_le
  dsimp only
  simp only [Marks.bits, bitAt_eq]
  rw [toNat_ofNat_of_lt (by omega)]
  refine ⟨by omega, ⟨?_, ?_, ?_, ?_, ?_, ?_⟩, by omega⟩ <;> exact getLsbD_ofNat_eq (by decide) (by omega)

theorem statusSummary_spec (s : State) :
    s.statusSummary.toNat % 4 = s.plan.body.shelter.code ∧ s.statusSummary.toNat / 16 = s.plan.body.phase.code := by
  have shelter : s.plan.body.shelter.code ≤ 3 := by cases s.plan.body.shelter <;> decide
  have phase : s.plan.body.phase.code ≤ 3 := by cases s.plan.body.phase <;> decide
  unfold State.statusSummary
  rw [toNat_ofNat_of_lt (by omega)]
  omega

theorem startStream_of_holder {n : Station} {s : State} {r : TrendRecord} {rest : List TrendRecord}
    (first : s.trend.queue = r :: rest) (holds : s.holdsStream n = true) :
    startStream n s = transmit n (dataCell n r.words s.trend.sent true) (some .stream)
      (s.setTrend { s.trend with begun := true }) := by
  rw [startStream, first]
  exact if_pos holds

/-- Settles O51. -/
theorem downlinkStartSendsTheChosenCell : Obligations.DownlinkStartSendsTheChosenCell := by
  intro n s
  have row : exec (.downlinkStart n) s = .next (downlinkStart n s) := rfl
  refine ⟨fun none => ?_, fun k ans answer => ?_, fun status => ?_, fun b data buffer position => ?_,
    fun r rest words data noBuffer holds first position eq => ?_⟩
  · rw [row, downlinkStart, none]
  · obtain ⟨line, parts⟩ := transmit_spec n (answerCell n k ans) none s
    exact ⟨_, _, by rw [row, downlinkStart, answer], line, answerWord0_spec k ans.code, parts⟩
  · obtain ⟨line, parts⟩ := transmit_spec n (s.statusCell n) none s
    have mode : (s.modeOf n).code ≤ 7 := by cases s.modeOf n <;> decide
    have stream : s.streamState n ≤ 2 := by
      unfold State.streamState
      split_ifs <;> decide
    obtain ⟨state, marks, holder⟩ := statusWord0_spec (s.marks.get n) mode stream
    obtain ⟨shelter, phase⟩ := statusSummary_spec s
    exact ⟨_, _, _, by rw [row, downlinkStart, status], line,
      fun _ => state.trans (by cases s.modeOf n <;> rfl), marks, holder, shelter, phase, parts⟩
  · obtain ⟨line, parts⟩ := transmit_spec n (dataCell n b.words b.sent false) (some .readout) s
    obtain ⟨at0, last, kind⟩ := dataWord0_spec position (decide (runCells b.words.length = b.sent + 1)) false
    exact ⟨_, _, by rw [row, downlinkStart, data, startData, buffer], line, at0, by rw [last]; exact decide_eq_true_iff, kind,
      parts⟩
  · subst eq
    obtain ⟨line, parts⟩ := transmit_spec n (dataCell n r.words s.trend.sent true) (some .stream)
      (s.setTrend { s.trend with begun := true })
    obtain ⟨at0, last, kind⟩ := dataWord0_spec position (decide (runCells r.words.length = s.trend.sent + 1)) true
    have begun : ChangesOnly [.trend] s (s.setTrend { s.trend with begun := true }) := fun p hp => by
      cases p <;> first | rfl | exact absurd (by decide) hp
    exact ⟨_, _, by rw [row, downlinkStart, data, startData, noBuffer, startStream_of_holder first holds], line, at0,
      by rw [last]; exact decide_eq_true_iff, kind, rfl, (begun.mono (by decide)).trans (parts.mono (by decide))⟩

end Sys2Proof.Machine
end

section
/-! The Readout Unit: READOUT, JOIN_STREAM and LEAVE_STREAM (R172 to R176). -/

namespace Sys2Proof.Machine

open Sys2Proof

/-! ## A request taken -/

/-- A request of a permitted class, handled on the refreshed state (R2, R4). -/
theorem exec_of_takeCell {c : Instr} {n : Station} {k : Byte} {perm : Permission} {serve : State → Served} {s : State}
    (hc : exec c s = .next (takeCell n k perm serve s)) (hr : s.receives n = true)
    (hperm : perm.allows (s.slot n).cls = true) :
    exec c s = .next (setWindow n (.taken k (some (serve (arrive n s)).answer)) (serve (arrive n s)).state) := by
  rw [hc, takeCell_of_receives hr, arrive_slot, if_pos hperm]

/-- The refreshed state that an Idle cell leaves (R4). -/
theorem exec_idle_of_receives {n : Station} {s : State} (hr : s.receives n = true) :
    exec (.idle n) s = .next (setWindow n (.taken 0x00#8 none) (arrive n s)) := by
  rw [exec_idle, takeIdle, if_pos hr]

theorem setWindow_window (n : Station) (w : Window) (s : State) : ((setWindow n w s).loop.lines.get n).window = w := by
  simp [setWindow, setLine]

/-! ## Readout -/

/-- The Record Space has 362 words (R172). -/
theorem recordSpace_length (s : State) : s.recordSpace.length = 362 := by
  have table : s.tableWords.length = 72 := by
    simp [State.tableWords, emptyPlaces]
  simp [State.recordSpace, State.identityWords, State.stationWords, table, Plan.words, State.airWords,
    State.conditionWords, State.vehicleWords, Purge.words, Regulator.words, State.moverWords, toWords_length,
    Station.all, PerChannel.toList, PerCal.toList, PerBlower.toList, PerActuator.toList, BlowerState.words, ActuatorState.words]

theorem readoutCount_eq (start count : Nat) :
    readoutCount start count = min (max 1 (min 24 count)) (362 - start) := by
  unfold readoutCount clampNat
  split_ifs <;> omega

/-- A mark is cleared where its region overlaps the words read (R173). -/
theorem Marks.read_get (m : Marks) (start count : Nat) (g : Group) :
    (m.read start count).get g = (m.get g && !g.overlaps start count) := by
  cases g <;> rfl

theorem overlaps_iff {g : Group} {lo hi : Nat} (region : g.region = (lo, hi + 1)) (start count : Nat) :
    g.overlaps start count = true ↔ start ≤ hi ∧ lo < start + count := by
  rw [Group.overlaps, region]
  simp only [Bool.and_eq_true, decide_eq_true_eq]
  omega

/-- Settles O54. -/
theorem readoutCopiesAndClearsMarks : Obligations.ReadoutCopiesAndClearsMarks := by
  intro n start count s hr
  have row : exec (.readout n start count) s = .next (takeCell n 0x0B#8 .anyClass (serveReadout n start count) s) := rfl
  have allowed := anyClass_allows (s.slot n).cls
  have buffers : (arrive n s).buffers = s.buffers := by simp
  refine ⟨fun beyond => refused_of_takeCell row hr allowed (if_pos beyond), fun inside inFlight => ?_,
    fun inside free => ?_⟩
  · refine refused_of_takeCell row hr allowed ?_
    rw [serveReadout, if_neg (Nat.not_lt_of_le inside), buffers, if_pos inFlight]
  · have served : serveReadout n start count (arrive n s) =
        ⟨acceptReadout n start.toNat (readoutCount start.toNat count.toNat) (arrive n s),
          ⟨if readoutCount start.toNat count.toNat = count.toNat then .done else .clamped, start,
            Word.ofNat (readoutCount start.toNat count.toNat), 0#16⟩⟩ := by
      rw [serveReadout, if_neg (Nat.not_lt_of_le inside), buffers, free]
      exact if_neg (by decide)
    refine handled_of_takeCell row hr allowed (by rw [served]; rfl) fun l => ?_
    rw [served]
    refine ⟨_, readoutCount_eq _ _, recordSpace_length _, rfl, rfl, fun m ne => ?_, fun g lo hi listed => ?_,
      fun p hp => ?_⟩
    · exact (PerStation.get_set _ _ _ _).trans (if_neg ne)
    · have region : g.region = (lo, hi + 1) := by
        revert listed
        cases g <;> simp +contextual [Group.region]
      have mark : ((acceptReadout n start.toNat (readoutCount start.toNat count.toNat) (arrive n s)).marks.get n).get g =
          (((arrive n s).marks.get n).get g && !g.overlaps start.toNat (readoutCount start.toNat count.toNat)) := by
        rw [← Marks.read_get]
        exact congrArg (fun m : Marks => m.get g) ((PerStation.get_set _ _ _ _).trans (if_pos rfl))
      refine mark.trans ?_
      simp only [← overlaps_iff region]
      cases g.overlaps start.toNat (readoutCount start.toNat count.toNat) <;> simp
    · cases p <;> first | rfl | exact absurd (by decide) hp

/-! ## The trend stream -/

theorem emptyQueue_trend (s : State) :
    (emptyQueue s).trend = { s.trend with queue := [], begun := false, sent := 0 } := by
  have cut (n : Station) (k : RunKind) (t : State) : (cutRun n k t).trend = t.trend := by simp
  unfold emptyQueue
  dsimp only
  split
  · rfl
  · exact cut _ _ _

/-- A released stream has no holder and no record (R176). -/
theorem releaseStream_trend (n : Station) (s : State) : (releaseStream n s).trend = s.trend.without n := by
  unfold releaseStream Trend.without State.holdsStream
  split
  · rw [State.setTrend_trend, emptyQueue_trend]
  · rfl

theorem maskOk_iff (mask : Word) :
    maskOk mask = true ↔ 1 ≤ (chosenChannels mask).length ∧ (chosenChannels mask).length ≤ 8 := by
  simp [maskOk]

/-- Bits 13 to 15 of a mask choose no channel (R166). -/
theorem chosenChannels_streamMask (mask : Word) : chosenChannels (streamMask mask) = chosenChannels mask := by
  refine List.filter_congr fun c _ => ?_
  have inside : (0x1FFF#16).getLsbD c.num = true := by
    cases c with
    | cal k => cases k <;> decide
    | reference => decide
    | ground => decide
  rw [streamMask, BitVec.getLsbD_and, inside, Bool.and_true]

theorem streamDecimation_eq (d : Word) : streamDecimation d = max 1 (min 50 d.toNat) := by
  unfold streamDecimation clampNat
  split_ifs <;> omega

theorem streamBusy_iff (s : State) (n : Station) :
    s.streamBusy n = true ↔
      ∃ h, s.trend.hold = some h ∧ h.station ≠ n ∧ (s.slot n).rank ≤ (s.slot h.station).rank := by
  simp [State.streamBusy, Option.any_eq_true]

theorem detachHolder_detached (n m : Station) (s : State) :
    (detachHolder n s).detached.get m = if m ≠ n ∧ s.holdsStream m = true then true else s.detached.get m := by
  unfold detachHolder State.holdsStream
  split
  · next free => simp [free]
  · next h hold =>
    by_cases own : h.station = n
    · subst own
      simp +contextual [hold, eq_comm]
    · by_cases holder : h.station = m
      · subst holder
        simp [hold, own, setDetached]
      · have other : m ≠ h.station := fun same => holder same.symm
        simp [hold, own, setDetached, holder, other]

/-- Settles O55. -/
theorem streamIsJoinedAndLeft : Obligations.StreamIsJoinedAndLeft := by
  intro n mask decimation s hr hmay
  have allowed := (panelOrService_allows (s.slot n).cls).trans hmay
  have join : exec (.joinStream n mask decimation) s =
    .next (takeCell n 0x0C#8 .panelOrService (serveJoin n mask decimation) s) := rfl
  have leave : exec (.leaveStream n) s = .next (takeCell n 0x0D#8 .panelOrService (serveLeave n) s) := rfl
  have trend : (arrive n s).trend = s.trend := by simp
  have detached : (arrive n s).detached = s.detached := by simp
  have chosen : (chosenChannels (streamMask mask)).length = (Channel.all.filter fun c => mask.getLsbD c.num).length := by
    rw [chosenChannels_streamMask, chosenChannels]
  have busy : (setDetached n false (arrive n s)).streamBusy n = true ↔
      ∃ h, s.trend.hold = some h ∧ h.station ≠ n ∧ (s.slot n).rank ≤ (s.slot h.station).rank := by
    rw [streamBusy_iff]
    simp [State.slot]
  have maskFails (out : ¬maskOk (streamMask mask) = true) :
      serveJoin n mask decimation (arrive n s) = Served.refuse .range (setDetached n false (arrive n s)) := by
    simp [serveJoin, joinStream, out]
  have holds m : (arrive n s).holdsStream m = s.holdsStream m := by simp [State.holdsStream]
  refine ⟨fun out => ?_, fun some few taken => ?_, fun some few free => ?_, ?_⟩
  · have served := maskFails (by rw [maskOk_iff, chosen]; omega)
    refine handled_of_takeCell join hr allowed (by rw [served]; rfl) fun l => ?_
    rw [served]
    exact ⟨rfl, rfl⟩
  · have served : serveJoin n mask decimation (arrive n s) =
        Served.refuse .busy (setDetached n false (arrive n s)) := by
      have ok : maskOk (streamMask mask) = true := by rw [maskOk_iff, chosen]; exact ⟨some, few⟩
      simp [serveJoin, joinStream, ok, busy.mpr taken]
    refine handled_of_takeCell join hr allowed (by rw [served]; rfl) fun l => ?_
    rw [served]
    exact ⟨rfl, rfl⟩
  · have ok : maskOk (streamMask mask) = true := by rw [maskOk_iff, chosen]; exact ⟨some, few⟩
    have idle : (setDetached n false (arrive n s)).streamBusy n = false := Bool.eq_false_iff.mpr fun no => free (busy.mp no)
    have served : serveJoin n mask decimation (arrive n s) =
        ⟨grantStream n (streamMask mask) (streamDecimation decimation)
            (detachHolder n (setDetached n false (arrive n s))),
          ⟨if streamDecimation decimation = decimation.toNat then .done else .clamped, streamMask mask,
            Word.ofNat (streamDecimation decimation), 0#16⟩⟩ := by
      simp [serveJoin, joinStream, ok, idle]
    refine ⟨_, _, _, exec_idle_of_receives hr, exec_of_takeCell join hr allowed, streamDecimation_eq decimation, ?_,
      fun m => ?_, ?_, fun p hp => ?_⟩
    · rw [served]
      simp [grantStream, emptyQueue_trend, streamMask]
    · rw [served]
      have granted : (grantStream n (streamMask mask) (streamDecimation decimation)
          (detachHolder n (setDetached n false (arrive n s)))).detached =
          (detachHolder n (setDetached n false (arrive n s))).detached := by simp
      have cleared : (setDetached n false (arrive n s)).detached.get m = if m = n then false else s.detached.get m := by
        rw [← detached]
        exact PerStation.get_set _ _ _ _
      simp only [setWindow_kept, granted, detachHolder_detached, cleared]
      simp [State.holdsStream]
    · rw [setWindow_window, served]
      rfl
    · cases p <;> first | exact absurd (by decide) hp | simp [Part.same]
  · refine ⟨_, _, exec_idle_of_receives hr, exec_of_takeCell leave hr allowed, ?_, ?_, ?_, fun p hp => ?_⟩
    · simp [serveLeave, releaseStream_trend]
    · simp [serveLeave, setDetached]
    · rw [setWindow_window]
      simp only [serveLeave, holds]
      cases s.holdsStream n <;> rfl
    · cases p <;> first | exact absurd (by decide) hp | simp [Part.same]

end Sys2Proof.Machine
end

section
/-! The service requests: their checks in order (R181 to R183), the indices of section 12.4, and the store. -/

namespace Sys2Proof.Machine

open Sys2Proof

/-! ## Codes -/

theorem switchOfCode_eq_some {w : Word} {b : Bool} : switchOfCode w = some b ↔ w.toNat = b.toNat := by
  have one : w.toNat = 1 ↔ w = 1#16 := BitVec.toNat_inj (x := w) (y := 1#16)
  have zero : w.toNat = 0 ↔ w = 0#16 := BitVec.toNat_inj (x := w) (y := 0#16)
  unfold switchOfCode
  cases b with
  | true => simp only [Bool.toNat_true, one]; split_ifs <;> simp_all
  | false => simp only [Bool.toNat_false, zero]; split_ifs <;> simp_all

theorem ofCode_class_eq_some {w : Word} {c : StationClass} :
    StationClass.ofCode w = some c ↔ w.toNat = c.code := by
  unfold StationClass.ofCode
  cases c <;> split <;> simp_all [StationClass.code]

theorem ofCode_scope_eq_some {w : Word} {sc : Scope} : Scope.ofCode w = some sc ↔ w.toNat = sc.code := by
  unfold Scope.ofCode
  cases sc <;> split <;> simp_all [Scope.code]

theorem ofCode_doorZone_eq_some {w : Word} {z : DoorZone} : DoorZone.ofCode w = some z ↔ w.toNat = z.code := by
  unfold DoorZone.ofCode
  cases z <;> split <;> simp_all [DoorZone.code]

theorem isSome_switchOfCode (w : Word) : (switchOfCode w).isSome = true ↔ w.toNat ≤ 1 := by
  rw [Option.isSome_iff_exists]
  refine ⟨fun ⟨b, code⟩ => (switchOfCode_eq_some.mp code).trans_le b.toNat_le, fun small => ?_⟩
  by_cases on : w.toNat = 1
  · exact ⟨true, switchOfCode_eq_some.mpr on⟩
  · exact ⟨false, switchOfCode_eq_some.mpr (Nat.lt_one_iff.mp (Nat.lt_of_le_of_ne small on))⟩

theorem isSome_ofCode_class (w : Word) : (StationClass.ofCode w).isSome = true ↔ w.toNat ≤ 5 := by
  unfold StationClass.ofCode
  split <;> simp_all
  omega

theorem isSome_ofCode_scope (w : Word) : (Scope.ofCode w).isSome = true ↔ w.toNat ≤ 2 := by
  unfold Scope.ofCode
  split <;> simp_all
  omega

theorem isSome_ofCode_doorZone (w : Word) : (DoorZone.ofCode w).isSome = true ↔ w.toNat ≤ 2 := by
  unfold DoorZone.ofCode
  split <;> simp_all
  omega

/-! ## Indices -/

theorem mem_allSettings (st : Setting) : st ∈ Setting.all := by
  cases st with
  | slotEnabled n => cases n <;> decide
  | slotClass n => cases n <;> decide
  | slotRank n => cases n <;> decide
  | slotScope n => cases n <;> decide
  | window w => cases w <;> decide
  | releaseRank => decide
  | plan p => cases p <;> decide
  | gain g => cases g <;> decide
  | doorLevel => decide
  | purge p => cases p <;> decide
  | doorMap d => cases d <;> decide
  | returnTime => decide
  | scan f =>
    cases f with
    | length => decide
    | position p k =>
      have positions : Setting.scan (.position p k) ∈ (List.finRange 20).flatMap Setting.ofPosition :=
        List.mem_flatMap.mpr ⟨p, List.mem_finRange p, by cases k <;> simp [Setting.ofPosition]⟩
      simp only [Setting.all, List.mem_append]
      tauto
  | calibration c k => cases c <;> cases k <;> decide
  | threshold t => cases t <;> decide
  | alertMask => decide
  | level l =>
    cases l with
    | short => decide
    | overload b => cases b <;> decide
  | time t => cases t <;> decide
  | feedbackEnd a e => cases a <;> cases e <;> decide

/-- No two settings have one index, and every index fits a word (section 12.4). -/
theorem settingIndex_nodup : (Setting.all.map Setting.index).Nodup := by decide +kernel

theorem settingIndex_lt (st : Setting) : st.index < 65536 := by
  have all : ∀ x ∈ Setting.all, x.index < 65536 := by decide +kernel
  exact all st (mem_allSettings st)

/-- The index of a setting names it (section 12.4). -/
theorem ofIndex_index (st : Setting) : Setting.ofIndex st.index = some st := by
  unfold Setting.ofIndex
  cases found : Setting.all.find? fun x => decide (x.index = st.index) with
  | none => exact absurd (List.find?_eq_none.mp found st (mem_allSettings st)) (by simp)
  | some x =>
    have same : x.index = st.index := by simpa using List.find?_some found
    exact congrArg some (List.inj_on_of_nodup_map settingIndex_nodup (mem_allSettings x) (mem_allSettings st) same)

theorem ofIndex_word (st : Setting) : Setting.ofIndex (Word.ofNat st.index).toNat = some st := by
  rw [toNat_ofNat_of_lt (settingIndex_lt st), ofIndex_index st]

/-! ## The permit -/

theorem permitted_iff (s : State) : s.permitted = true ↔ Permit s := by
  simp [State.permitted, Permit, and_assoc]

theorem serveIndex_of_index (st : Setting) (value : Word) (s : State) :
    serveIndex (Word.ofNat st.index) value s = serveWrite st value s := by
  unfold serveIndex
  rw [ofIndex_word st]
  dsimp only
  unfold serveWrite
  split <;> rfl

/-- The row of a setting is a cell taken with its write (R182). -/
theorem exec_writeRow (n : Station) (st : Setting) (value : Word) (s : State) :
    exec (writeRow n st value) s = .next (takeCell n 0x0F#8 .serviceOnly (serveWrite st value) s) := by
  cases st with
  | releaseRank =>
    have same : serveIndex 2#16 value = serveWrite .releaseRank value :=
      funext fun u => serveIndex_of_index .releaseRank value u
    show Host.Outcome.next (takeCell n 0x0F#8 .serviceOnly (serveIndex 2#16 value) s) = _
    rw [same]
  | _ => rfl

/-- Every row of the settings family is a cell taken that is refused Blocked without the permit (R181). -/
theorem serviceRow {c : Instr} {n : Station} {k : Byte} (row : requestOf c = some (n, k)) (kind : k = 0x0F#8 ∨ k = 0x10#8) :
    ∃ serve, (∀ s, exec c s = .next (takeCell n k .serviceOnly serve s)) ∧
      ∀ s, s.permitted = false → serve s = Served.refuse .blocked s := by
  have write (st : Setting) (value : Word) (s : State) (h : s.permitted = false) :
      serveWrite st value s = Served.refuse .blocked s := by simp [serveWrite, h]
  have index (i value : Word) (s : State) (h : s.permitted = false) :
      serveIndex i value s = Served.refuse .blocked s := by simp [serveIndex, h]
  have store (s : State) (h : s.permitted = false) : serveStore s = Served.refuse .blocked s := by simp [serveStore, h]
  cases c with
  | settingsWrite => cases row; exact ⟨_, fun _ => rfl, index _ _⟩
  | settingsStore => cases row; exact ⟨_, fun _ => rfl, store⟩
  | supervisionWindowWrite | slotEnableWrite | slotClassWrite | slotRankWrite | slotScopeWrite
  | planSettingWrite | regulatorGainWrite | doorLevelWrite | purgeSettingWrite | doorMapWrite | returnTimeWrite
  | scanListWrite | calibrationWrite | thresholdWrite | alertMaskWrite | protectionLevelWrite | protectionTimeWrite
  | feedbackEndWrite => cases row; exact ⟨_, fun _ => rfl, write _ _⟩
  | setSetpoint | setFan | setMode | setShelter | withdraw | withdrawAll | shelterRelease | purge | purgeCancel
  | clearLatches | readout | joinStream | leaveStream | vehicleReport | stationRestart =>
    cases row
    exact absurd kind (by decide)
  | _ => cases row

/-! ## Refusals of a write -/

theorem otherVehicle_iff (s : State) (n : Station) :
    s.otherVehicle n = true ↔ ∃ m, m ≠ n ∧ (s.slot m).enabled = true ∧ (s.slot m).cls = .vehicle := by
  simp [State.otherVehicle, Station.mem_all, and_assoc]

/-- Only the codes bar a write of a setting that is no slot's enabled or class field (R182, check 2). -/
theorem mayHold_iff_code {st : Setting} (not_enabled : ∀ m, st ≠ .slotEnabled m) (not_class : ∀ m, st ≠ .slotClass m)
    {s : State} {value : Word} {taken : Prop} (codes : taken ↔ ∀ k, lastCode st = some k → value.toNat ≤ k) :
    taken ↔ MayHold s st value :=
  codes.trans ⟨fun h => ⟨h, fun m eq => absurd eq (not_enabled m), fun m eq => absurd eq (not_class m)⟩, fun h => h.1⟩

theorem isSome_writeSlotEnabled (n : Station) (value : Word) (s : State) :
    (writeSlotEnabled n value s).isSome = true ↔ MayHold s (.slotEnabled n) value := by
  unfold writeSlotEnabled MayHold
  cases code : switchOfCode value with
  | none =>
    have beyond : ¬value.toNat ≤ 1 := by simp [← isSome_switchOfCode, code]
    simp [lastCode, beyond]
  | some b =>
    have value_eq := switchOfCode_eq_some.mp code
    have other := otherVehicle_iff s n
    cases b <;> simp_all [lastCode]

theorem isSome_writeSlotClass (n : Station) (value : Word) (s : State) :
    (writeSlotClass n value s).isSome = true ↔ MayHold s (.slotClass n) value := by
  unfold writeSlotClass MayHold
  cases code : StationClass.ofCode value with
  | none =>
    have beyond : ¬value.toNat ≤ 5 := by simp [← isSome_ofCode_class, code]
    simp [lastCode, beyond]
  | some c =>
    have value_eq := ofCode_class_eq_some.mp code
    have other := otherVehicle_iff s n
    cases c <;> simp_all [lastCode, StationClass.code]

/-- A write is taken where MayHold allows it, and answered Range where it does not (R182, checks 2 and 3). -/
theorem writeSetting_isSome_iff (st : Setting) (value : Word) (s : State) :
    (writeSetting st value s).isSome = true ↔ MayHold s st value := by
  cases st with
  | slotEnabled n => exact isSome_writeSlotEnabled n value s
  | slotClass n => exact isSome_writeSlotClass n value s
  | slotScope n =>
    refine mayHold_iff_code (fun _ => Setting.noConfusion) (fun _ => Setting.noConfusion) ?_
    have code := isSome_ofCode_scope value
    show (writeSlotScope n value s).isSome = true ↔ _
    unfold writeSlotScope
    cases h : Scope.ofCode value <;> simp_all [lastCode]
  | plan p =>
    refine mayHold_iff_code (fun _ => Setting.noConfusion) (fun _ => Setting.noConfusion) ?_
    have code := isSome_switchOfCode value
    cases p <;> simp [writeSetting, writePlan, switchWrite, lastCode, code]
  | purge p =>
    refine mayHold_iff_code (fun _ => Setting.noConfusion) (fun _ => Setting.noConfusion) ?_
    have code := isSome_switchOfCode value
    cases p <;> simp [writeSetting, writePurge, lastCode, code]
  | doorMap d =>
    refine mayHold_iff_code (fun _ => Setting.noConfusion) (fun _ => Setting.noConfusion) ?_
    have code := isSome_ofCode_doorZone value
    show (writeDoorMap d value s).isSome = true ↔ _
    unfold writeDoorMap
    cases h : DoorZone.ofCode value <;> simp_all [lastCode]
  | window | releaseRank | slotRank | gain | doorLevel | returnTime | scan | calibration | threshold | alertMask | level
  | time | feedbackEnd =>
    refine mayHold_iff_code (fun _ => Setting.noConfusion) (fun _ => Setting.noConfusion) ?_
    simp [writeSetting, lastCode]

theorem mayHold_arrive (n : Station) (st : Setting) (value : Word) (s : State) :
    MayHold (arrive n s) st value ↔ MayHold s st value := by
  simp [MayHold, State.slot]

/-- Settles O56. -/
theorem serviceRequestsAreRefusedInOrder : Obligations.ServiceRequestsAreRefusedInOrder := by
  intro n s hr service
  have allowed : Permission.serviceOnly.allows (s.slot n).cls = true := by rw [service]; rfl
  refine ⟨fun barred c k row kind => ?_, fun permit => ⟨fun index value unnamed => ?_, fun st value not => ?_,
    fun writing => ?_⟩⟩
  · obtain ⟨serve, taken, blocked⟩ := serviceRow row kind
    exact refused_of_takeCell (taken s) hr allowed
      (blocked _ (Bool.eq_false_iff.mpr fun permitted => barred ((permitted_iff _).mp permitted)))
  · refine refused_of_takeCell (serve := serveIndex index value) rfl hr allowed ?_
    have none : Setting.ofIndex index.toNat = none := List.find?_eq_none.mpr fun st all => by simpa using unnamed st all
    rw [serveIndex, if_pos ((permitted_iff _).mpr permit), none]
  · refine refused_of_takeCell (exec_writeRow n st value s) hr allowed ?_
    have none : writeSetting st value (arrive n s) = none := by
      rwa [← Option.not_isSome_iff_eq_none, writeSetting_isSome_iff, mayHold_arrive]
    rw [serveWrite, if_pos ((permitted_iff _).mpr permit), none]
  · refine refused_of_takeCell (serve := serveStore) rfl hr allowed ?_
    obtain ⟨w, hw⟩ := Option.isSome_iff_exists.mp writing
    rw [serveStore, if_pos ((permitted_iff _).mpr permit), show (arrive n s).store.writing = some w by simpa using hw]

/-! ## The store -/

/-- The clock comes to a moment that is not past (log entry 2). -/
theorem Clock.advance_tenthsTo {c : Clock} {due : BitVec 32} (tenth : c.tenths < 10)
    (ahead : (due - c.ms).toNat < 2 ^ 31) : (c.advance (c.tenthsTo due)).ms = due := by
  have whole : (c.tenths + (10 * (due - c.ms).toNat - c.tenths)) / 10 = (due - c.ms).toNat := by omega
  rw [Clock.advance, Clock.tenthsTo, if_pos ahead, whole, BitVec.ofNat_toNat, BitVec.setWidth_eq, add_sub_cancel]

/-- The completion of a store: the copy with its check word, 40 ms on, with Settings Defaulted cleared (R183). -/
theorem completeStore_spec (w : Writing) (s : State) :
    (completeStore w s).store = ⟨.whole w.snapshot w.snapshot.checkWord, w.snapshot.checkWord, none⟩ ∧
    (completeStore w s).conditions.settingsDefaulted = false ∧ MarkedAll .settings (completeStore w s) ∧
    (s.clock.tenths < 10 → (w.since + 40#32 - s.clock.ms).toNat < 2 ^ 31 →
      (completeStore w s).clock.ms = w.since + 40#32) ∧
    (s.conditions.settingsDefaulted = true → (completeStore w s).plan.body = formPlan (completeStore w s)) ∧
    (s.conditions.settingsDefaulted = false → MarksChangeOnly [.settings] s (completeStore w s) ∧
      ChangesOnly [.store, .clock, .blowers, .marks] s (completeStore w s)) ∧
    ChangesOnly (.store :: .clock :: resolutionParts) s (completeStore w s) := by
  set stored := (advanceTo (w.since + 40#32) s).setStore
    ⟨.whole w.snapshot w.snapshot.checkWord, w.snapshot.checkWord, none⟩ with hstored
  set cleared := setCondition .settingsDefaulted false stored with hcleared
  have eq : completeStore w s = markAll .settings (resolveIf stored.conditions.settingsDefaulted cleared) := rfl
  have defaulted : stored.conditions.settingsDefaulted = s.conditions.settingsDefaulted := by simp [hstored]
  obtain ⟨get, same, -, -, condition⟩ := setCondition_spec .settingsDefaulted false stored
  have clear : cleared.conditions.settingsDefaulted = false := (get .settingsDefaulted).trans (if_pos rfl)
  obtain ⟨marked, onlySettings, markParts⟩ :=
    markAll_spec .settings (resolveIf stored.conditions.settingsDefaulted cleared)
  have advanced : ChangesOnly [.store, .clock, .blowers] s stored := fun p hp => by
    cases p <;> first | exact absurd (by decide) hp | simp [Part.same, hstored]
  rw [eq]
  refine ⟨by simp [hcleared, hstored], ?_, marked, fun tenth ahead => ?_, fun wasDefaulted => ?_, fun sound => ?_, ?_⟩
  · rcases resolveIf_cases stored.conditions.settingsDefaulted cleared with ⟨-, resolved⟩ | ⟨-, resolved⟩
    · simp only [markAll_kept, resolved]
      exact ((resolve_resolved cleared).conditions .settingsDefaulted (by decide)).trans clear
    · simpa [resolved] using clear
  · rw [show (markAll .settings (resolveIf stored.conditions.settingsDefaulted cleared)).clock =
      s.clock.advance (s.clock.tenthsTo (w.since + 40#32)) by simp [hcleared, hstored, advanceTo, elapse_spec]]
    exact Clock.advance_tenthsTo tenth ahead
  · rw [defaulted, wasDefaulted]
    exact (resolve_resolved cleared).current
  · have unchanged : resolveIf stored.conditions.settingsDefaulted cleared = stored := by
      rw [defaulted, sound]
      exact same (defaulted.trans sound)
    rw [unchanged] at onlySettings markParts ⊢
    exact ⟨MarksChangeOnly.trans (fun n g hg => by simp [hstored]) onlySettings,
      (advanced.mono (by decide)).trans (markParts.mono (by decide))⟩
  · have resolved : ChangesOnly resolutionParts cleared (resolveIf stored.conditions.settingsDefaulted cleared) := by
      rcases resolveIf_cases stored.conditions.settingsDefaulted cleared with ⟨-, eq⟩ | ⟨-, eq⟩
      · rw [eq]
        exact (resolve_resolved cleared).parts
      · rw [eq]
        exact ChangesOnly.refl _ _
    exact (((advanced.mono (by decide)).trans (condition.mono (by decide))).trans (resolved.mono (by decide))).trans
      (markParts.mono (by decide))

/-- Settles O60. -/
theorem storeSnapshotsAndCompletes : Obligations.StoreSnapshotsAndCompletes := by
  intro s
  refine ⟨fun n hr service permit idle => ?_, fun w writing => ⟨completeStore w s, ?_, ?_⟩, fun idle => ?_, ?_⟩
  · have allowed : Permission.serviceOnly.allows (s.slot n).cls = true := by rw [service]; rfl
    have served : serveStore (arrive n s) = ⟨(arrive n s).setStore { (arrive n s).store with
        writing := some ⟨(arrive n s).settings, (arrive n s).clock.ms⟩ }, ⟨.done, 0#16, 0#16, 0#16⟩⟩ := by
      rw [serveStore, if_pos ((permitted_iff _).mpr permit), show (arrive n s).store.writing = none by simpa using idle]
    refine handled_of_takeCell (serve := serveStore) rfl hr allowed (by rw [served]; rfl) fun l => ?_
    rw [served, show (arrive n s).settings = s.settings by simp, show (arrive n s).clock = s.clock by simp]
    exact ⟨rfl, rfl⟩
  · simp [exec, execStoreComplete, writing]
  · exact completeStore_spec w s
  · simp [exec, execStoreComplete, idle]
  · refine ⟨s.setStore s.store.tear, rfl, fun p hp => ?_, fun writing => ?_, fun idle => ?_⟩
    · cases p <;> first | rfl | exact absurd (by decide) hp
    · obtain ⟨w, hw⟩ := Option.isSome_iff_exists.mp writing
      simp [Store.tear, hw]
    · simp [Store.tear, idle]

end Sys2Proof.Machine
end

section
/-! An accepted write of a setting: the value held, its pair, every other setting, and the Answer (R182, section 12.4). -/

namespace Sys2Proof.Machine

open Sys2Proof

/-! ## What the working copy holds after a write -/

/-- A field of another position, or another field of the position written, stays (R110). -/
theorem scanValue_writtenPositions_of_ne {l : List ScanEntry} (positions : l.length = 20) (value : Word) {p q : Fin 20}
    {k j : ScanFieldKind} (ne : ScanField.position q j ≠ .position p k) :
    scanValue (((writtenPositions l p k value)[q.val]?).getD Config.spareScanEntry) j =
      scanValue ((l[q.val]?).getD Config.spareScanEntry) j := by
  unfold writtenPositions
  rw [List.getElem?_set]
  split
  · next same =>
    have place : p = q := Fin.ext same
    subst place
    rw [if_pos (positions.symm ▸ p.isLt : p.val < l.length), Option.getD_some]
    cases k <;> cases j <;> first | rfl | exact absurd rfl ne
  · rfl

/-- Every setting but the one written and its pair stays (R182). -/
theorem settingValue_written_of_apart {g : Settings} (positions : g.scanPositions.length = 20) (value : Word)
    {st st' : Setting} (ne : st' ≠ st) (apart : followsFrom st st' = false) :
    settingValue (writtenSettings g st value) st' = settingValue g st' := by
  rcases st with (_ | _) | _ | _ | _ | _ | _ | (_ | _ | _ | _ | _ | _ | _ | _ | _) | (_ | _) | _ |
      (_ | _ | _ | _ | _) | _ | _ | (_ | ⟨_, _⟩) | ⟨_, (_ | _)⟩ | (_ | _ | _ | _ | _ | _ | _ | _ | _ | _ | _) | _ |
      (_ | _) | (_ | _) | ⟨_, (_ | _)⟩ <;>
    rcases st' with (_ | _) | _ | _ | _ | _ | _ | (_ | _ | _ | _ | _ | _ | _ | _ | _) | (_ | _) | _ |
      (_ | _ | _ | _ | _) | _ | _ | (_ | ⟨_, _⟩) | ⟨_, (_ | _)⟩ | (_ | _ | _ | _ | _ | _ | _ | _ | _ | _ | _) | _ |
      (_ | _) | (_ | _) | ⟨_, (_ | _)⟩ <;>
    first
    | rfl
    | exact absurd rfl ne
    | exact absurd apart (by decide)
    | exact congrArg Int.ofNat (scanValue_writtenPositions_of_ne positions value fun same => ne (congrArg Setting.scan same))
    | (simp only [settingValue, writtenSettings, PerStation.get_set, PerDoor.get_set, PerCal.get_set, PerBlower.get_set,
        PerActuator.get_set]
       split <;> simp_all [followsFrom])
/-- The pair of a setting is moved as far as their distance asks (R7, R133, R157). -/
theorem settingValue_written_of_pair (g : Settings) (value : Word) {st st' : Setting}
    (pair : followsFrom st st' = true) :
    settingValue (writtenSettings g st value) st' =
      keptApart st (settingValue (writtenSettings g st value) st) (settingValue g st') := by
  have raise := (held_range (lo := 1) (hi := 1000) (by decide) value).1
  have pulled (old x : Nat) (low : 1 ≤ x) : ((min old (x - 1) : Nat) : Int) = min (old : Int) ((x : Int) - 1) := by omega
  have pushed (old x d : Nat) : ((max old (x + d) : Nat) : Int) = max (old : Int) ((x : Int) + d) := by omega
  unfold followsFrom at pair
  split at pair
  · exact pushed g.lostWindow _ 10
  · exact pulled g.thresholds.smokeClear _ raise
  · exact pulled g.thresholds.heavyClear _ raise
  · exact pulled g.thresholds.outsideCoClear _ raise
  · exact pulled g.thresholds.cabCoClear _ raise
  · exact pushed g.thresholds.supplyRecover _ 1
  · next a b =>
    have same : a = b := of_decide_eq_true pair
    subst same
    simp [settingValue, writtenSettings, keptApart]
  · cases pair

theorem switchValue_eq (b : Bool) : switchValue b = b.toNat := by cases b <;> rfl

theorem scanChannel_num (v : Nat) : (scanChannel v).num = min 12 v := by
  rcases Nat.lt_or_ge v 13 with inside | beyond
  · interval_cases v <;> rfl
  · have out : Channel.all[v]? = none := List.getElem?_eq_none beyond
    rw [scanChannel, out, min_eq_left (by omega)]
    rfl

/-- The value held after a write that may be held (R48, R110, R182). -/
theorem heldAs_written {g : Settings} (h : SettingRanges g) {s : State} {st : Setting} {value : Word}
    (may : MayHold s st value) : HeldAs g st value (settingValue (writtenSettings g st value) st) := by
  have clamp (lo hi : Nat) (range : lo ≤ hi) : (held lo hi value : Int) = within lo hi value.toNat :=
    clampNat_eq_within lo hi _ range
  have switch (old : Bool) (code : value.toNat ≤ 1) :
      switchValue ((switchOfCode value).getD old) = (value.toNat : Int) := by
    obtain ⟨b, hb⟩ := Option.isSome_iff_exists.mp ((isSome_switchOfCode value).mpr code)
    rw [hb, Option.getD_some, switchValue_eq, switchOfCode_eq_some.mp hb]
  have code (k : Nat) (last : lastCode st = some k) : value.toNat ≤ k := may.1 k last
  cases st with
  | window w =>
    cases w with
    | quiet => exact clamp 10 100 (by decide)
    | lost => exact clamp (g.quietWindow + 10) 1000 (by have := h.quietWindow; omega)
  | releaseRank => exact clamp 0 7 (by decide)
  | slotEnabled n => simpa [HeldAs, rangeOf, settingValue, writtenSettings, writtenAs] using switch _ (code 1 rfl)
  | slotClass n =>
    obtain ⟨c, hc⟩ := Option.isSome_iff_exists.mp ((isSome_ofCode_class value).mpr (code 5 rfl))
    simp [HeldAs, rangeOf, settingValue, writtenSettings, writtenAs, hc, ofCode_class_eq_some.mp hc]
  | slotRank n => simpa [HeldAs, rangeOf, settingValue, writtenSettings] using clamp 0 7 (by decide)
  | slotScope n =>
    obtain ⟨sc, hsc⟩ := Option.isSome_iff_exists.mp ((isSome_ofCode_scope value).mpr (code 2 rfl))
    simp [HeldAs, rangeOf, settingValue, writtenSettings, writtenAs, hsc, ofCode_scope_eq_some.mp hsc]
  | plan p =>
    cases p with
    | defaultSetpoint =>
      obtain ⟨multiple, below, above⟩ := roundFive_spec value.toNat
      exact ⟨roundFive value.toNat, multiple, below, above, clampInt_eq_within _ _ _ (by decide)⟩
    | autoShelter => exact switch _ (code 1 rfl)
    | shelterOnPump => exact switch _ (code 1 rfl)
    | shelterTarget => exact clamp 50 1500 (by decide)
    | shelterBase => exact clamp 0 1000 (by decide)
    | shelterFloor => exact clamp 0 1000 (by decide)
    | freshTarget => exact clamp 50 1500 (by decide)
    | freshBase => exact clamp 0 1000 (by decide)
    | freshFloor => exact clamp 0 1000 (by decide)
  | gain k => cases k <;> exact clamp 0 255 (by decide)
  | doorLevel => exact clamp 0 1000 (by decide)
  | purge p =>
    cases p with
    | frontVolume => exact clamp 500 20000 (by decide)
    | rearVolume => exact clamp 500 20000 (by decide)
    | purgeChanges => exact clamp 1 8 (by decide)
    | autoPurge => exact switch _ (code 1 rfl)
    | fallbackFlush => exact clamp 10 600 (by decide)
  | doorMap d =>
    obtain ⟨z, hz⟩ := Option.isSome_iff_exists.mp ((isSome_ofCode_doorZone value).mpr (code 2 rfl))
    simp [HeldAs, rangeOf, settingValue, writtenSettings, writtenAs, hz, ofCode_doorZone_eq_some.mp hz]
  | returnTime => exact clamp 1 60 (by decide)
  | scan f =>
    cases f with
    | length => exact clamp 0 20 (by decide)
    | position p k =>
      have place : p.val < g.scanPositions.length := h.positions.symm ▸ p.isLt
      have entry : (writtenPositions g.scanPositions p k value)[p.val]? =
          some (putScanField ((g.scanPositions[p.val]?).getD Config.spareScanEntry) k value.toNat).1 := by
        rw [writtenPositions, List.getElem?_set_self place]
      cases k <;> simp only [HeldAs, settingValue, writtenSettings, entry, Option.getD_some, scanValue, putScanField]
      · rw [scanChannel_num]
      · simp only [scanTimeClass]
        split_ifs <;> rfl
      · simp only [scanDivider]
        split_ifs <;> rfl
  | calibration c k => cases k <;> simp [HeldAs, rangeOf, settingValue, writtenSettings, writtenAs]
  | threshold t =>
    have ranges := h.thresholds
    cases t with
    | smokeRaise => exact clamp 1 1000 (by decide)
    | smokeClear => exact clamp 0 _ (Nat.zero_le _)
    | heavyRaise => exact clamp 1 1000 (by decide)
    | heavyClear => exact clamp 0 _ (Nat.zero_le _)
    | outsideCoRaise => exact clamp 1 1000 (by decide)
    | outsideCoClear => exact clamp 0 _ (Nat.zero_le _)
    | cabCoRaise => exact clamp 1 1000 (by decide)
    | cabCoClear => exact clamp 0 _ (Nat.zero_le _)
    | filterLimit => exact clamp 100 5000 (by decide)
    | supplyLow => exact clamp 0 399 (by decide)
    | supplyRecover => exact clamp (g.thresholds.supplyLow + 1) 400 (by have := ranges.supplyLow; omega)
  | alertMask => rfl
  | level l =>
    cases l with
    | short => exact clamp 100 400 (by decide)
    | overload b => simpa [HeldAs, rangeOf, settingValue, writtenSettings] using clamp 20 250 (by decide)
  | time t =>
    cases t with
    | short => exact clamp 1 20 (by decide)
    | overload => exact clamp 5 100 (by decide)
  | feedbackEnd a e =>
    cases e with
    | closed => simpa [HeldAs, rangeOf, settingValue, writtenSettings] using clamp 20 880 (by decide)
    | opened =>
      have closed := h.closedEnd a
      simpa [HeldAs, rangeOf, settingValue, writtenSettings] using
        clamp (g.closedEnd.get a + 100) 980 (by omega)

end Sys2Proof.Machine
end

section
/-! Every accepted write of a setting: the working copy, the Answer and the parts it may change (R182). -/

namespace Sys2Proof.Machine

open Sys2Proof

/-- A write as accepted: the working copy it leaves, the word held with its moved mark, and the parts it may change. -/
structure Accepted (st : Setting) (value : Word) (s : State) (w : Written) : Prop where
  settings : w.state.settings = writtenSettings s.settings st value
  held : w.held = Word.ofInt (settingValue (writtenSettings s.settings st value) st)
  moved : w.moved = decide (settingValue (writtenSettings s.settings st value) st ≠ writtenAs st value)
  parts : ChangesOnly (.settings :: .loop :: settingParts st) s w.state

namespace Accepted

variable {st : Setting} {value : Word} {s : State}

/-- A value brought into a range (R182). -/
theorem clamp {lo hi : Nat} {f : Nat → State} (eq : settingValue (writtenSettings s.settings st value) st =
    (Machine.held lo hi value : Int)) (unsigned : writtenAs st value = value.toNat)
    (settings : (f (Machine.held lo hi value)).settings = writtenSettings s.settings st value)
    (parts : ChangesOnly (.settings :: .loop :: settingParts st) s (f (Machine.held lo hi value))) :
    Accepted st value s (clampWrite lo hi value f) where
  settings := settings
  held := by
    rw [eq]
    exact (BitVec.ofInt_natCast _ _).symm
  moved := by
    rw [eq, unsigned]
    exact decide_eq_decide.mpr (not_congr Int.ofNat_inj.symm)
  parts := parts

/-- A value held as it was written (R182). -/
theorem coded {t : State} (eq : settingValue (writtenSettings s.settings st value) st = writtenAs st value)
    (settings : t.settings = writtenSettings s.settings st value)
    (parts : ChangesOnly (.settings :: .loop :: settingParts st) s t) :
    Accepted st value s (codedWrite value t) where
  settings := settings
  held := by
    rw [eq]
    unfold writtenAs
    split
    · exact (BitVec.ofInt_toInt).symm
    · refine Eq.symm ((BitVec.ofInt_natCast 16 value.toNat).trans ?_)
      rw [BitVec.ofNat_toNat, BitVec.setWidth_eq]
      rfl
  moved := by rw [eq]; simp [codedWrite]
  parts := parts

end Accepted

/-! ## Slots -/

/-- A slot with its own settings written back stays (R10). -/
theorem withSlot_self (g : Settings) (n : Station) : withSlot g n (g.slots.get n) = g := by
  have same : g.slots.set n (g.slots.get n) = g.slots := by
    refine PerStation.ext_get fun m => ?_
    rw [PerStation.get_set]
    split
    · next eq => rw [eq]
    · rfl
  rw [withSlot, same]

theorem writeSlotEnabled_accepted {n : Station} {value : Word} {s : State} {w : Written}
    (hw : writeSlotEnabled n value s = some w) : Accepted (.slotEnabled n) value s w := by
  unfold writeSlotEnabled at hw
  split at hw
  · cases hw
  · next b code =>
    split at hw
    · cases hw
    · cases hw
      refine .coded ?_ ?_ ?_
      · simp [settingValue, writtenSettings, writtenAs, code, switchValue_eq, switchOfCode_eq_some.mp code]
      · split
        · next same =>
          simp only [writtenSettings, code, Option.getD_some, same]
          exact (withSlot_self s.settings n).symm
        · simp only [writtenSettings, code, Option.getD_some]
          cases b <;> simp [disableSlot, enableSlot, setSlot, State.slot]
      · intro p hp
        dsimp only [settingParts] at hp
        split
        · cases p <;> rfl
        · cases b <;> cases p <;> first | exact absurd (by decide) hp | simp [Part.same]

theorem writeSlotClass_accepted {n : Station} {value : Word} {s : State} {w : Written}
    (hw : writeSlotClass n value s = some w) : Accepted (.slotClass n) value s w := by
  unfold writeSlotClass at hw
  split at hw
  · cases hw
  · next c code =>
    split at hw
    · cases hw
    · cases hw
      refine .coded ?_ ?_ ?_
      · simp [settingValue, writtenSettings, writtenAs, code, ofCode_class_eq_some.mp code]
      · simp only [writtenSettings, code, Option.getD_some]
        split
        · next same =>
          rw [same]
          exact (withSlot_self s.settings n).symm
        · unfold changeClass
          dsimp only
          split <;> simp [setSlot, State.slot]
      · intro p hp
        dsimp only [settingParts] at hp
        split
        · cases p <;> rfl
        · cases p <;> first | exact absurd (by decide) hp | simp [Part.same]

theorem writeSlotRank_accepted (n : Station) (value : Word) (s : State) :
    Accepted (.slotRank n) value s (writeSlotRank n value s) := by
  refine .clamp ?_ rfl ?_ fun p hp => ?_
  · simp [settingValue, writtenSettings]
  · dsimp only
    split
    · next same =>
      simp only [writtenSettings, same]
      exact (withSlot_self s.settings n).symm
    · simp [setSlot, writtenSettings, State.slot]
  · dsimp only [settingParts] at hp
    split
    · cases p <;> rfl
    · cases p <;> first | exact absurd (by decide) hp | simp [Part.same]

theorem writeSlotScope_accepted {n : Station} {value : Word} {s : State} {w : Written}
    (hw : writeSlotScope n value s = some w) : Accepted (.slotScope n) value s w := by
  unfold writeSlotScope at hw
  split at hw
  · cases hw
  · next sc code =>
    cases hw
    refine .coded ?_ ?_ ?_
    · simp [settingValue, writtenSettings, writtenAs, code, ofCode_scope_eq_some.mp code]
    · simp only [writtenSettings, code, Option.getD_some]
      split
      · next same =>
        rw [same]
        exact (withSlot_self s.settings n).symm
      · unfold changeScope
        dsimp only
        split <;> simp [setSlot, State.slot]
    · intro p hp
      dsimp only [settingParts] at hp
      split
      · cases p <;> rfl
      · cases p <;> first | exact absurd (by decide) hp | simp [Part.same]

/-! ## Every setting -/

theorem writePlan_accepted {p : PlanSetting} {value : Word} {s : State} {w : Written}
    (hw : writePlan p value s = some w) : Accepted (.plan p) value s w := by
  have parts (g : Settings) : ChangesOnly (.settings :: .loop :: resolutionParts) s (resolve (s.setSettings g)) :=
    fun q hq => by cases q <;> first | exact absurd (by decide) hq | simp [Part.same]
  cases p with
  | defaultSetpoint =>
    cases hw
    exact ⟨by simp [writtenSettings], rfl, rfl, parts _⟩
  | autoShelter =>
    simp only [writePlan, switchWrite, Option.map_eq_some_iff] at hw
    obtain ⟨b, code, rfl⟩ := hw
    refine .coded ?_ ?_ fun q hq => ?_
    · simp [settingValue, writtenSettings, writtenAs, code, switchValue_eq, switchOfCode_eq_some.mp code]
    · cases b <;> simp [writtenSettings, code]
    · cases b <;> cases q <;> first | exact absurd (by decide) hq | simp [Part.same]
  | shelterOnPump =>
    simp only [writePlan, switchWrite, Option.map_eq_some_iff] at hw
    obtain ⟨b, code, rfl⟩ := hw
    refine .coded ?_ ?_ (parts _)
    · simp [settingValue, writtenSettings, writtenAs, code, switchValue_eq, switchOfCode_eq_some.mp code]
    · simp [writtenSettings, code]
  | shelterTarget | shelterBase | shelterFloor | freshTarget | freshBase | freshFloor =>
    cases hw
    exact .clamp rfl rfl (by simp [writtenSettings]) (parts _)

theorem writePurge_accepted {p : PurgeSetting} {value : Word} {s : State} {w : Written}
    (hw : writePurge p value s = some w) : Accepted (.purge p) value s w := by
  have parts (g : Settings) : ChangesOnly [.settings, .loop, .marks] s (s.setSettings g) :=
    fun q hq => by cases q <;> first | exact absurd (by decide) hq | rfl
  cases p with
  | autoPurge =>
    simp only [writePurge, Option.map_eq_some_iff] at hw
    obtain ⟨b, code, rfl⟩ := hw
    refine .coded ?_ ?_ (parts _)
    · simp [settingValue, writtenSettings, writtenAs, code, switchValue_eq, switchOfCode_eq_some.mp code]
    · simp [writtenSettings, code]
  | frontVolume | rearVolume | purgeChanges | fallbackFlush =>
    cases hw
    exact .clamp rfl rfl rfl (parts _)

theorem writeDoorMap_accepted {d : Door} {value : Word} {s : State} {w : Written}
    (hw : writeDoorMap d value s = some w) : Accepted (.doorMap d) value s w := by
  unfold writeDoorMap at hw
  split at hw
  · cases hw
  · next z code =>
    cases hw
    refine .coded ?_ ?_ fun p hp => ?_
    · simp [settingValue, writtenSettings, writtenAs, code, ofCode_doorZone_eq_some.mp code]
    · split <;> simp [writtenSettings, code]
    · dsimp only [settingParts] at hp
      split <;> cases p <;> first | exact absurd (by decide) hp | simp [Part.same]

theorem writeScan_accepted (f : ScanField) (value : Word) {s : State} (positions : s.settings.scanPositions.length = 20) :
    Accepted (.scan f) value s (writeScan f value s) := by
  have parts (g : Settings) : ChangesOnly (.settings :: .loop :: settingParts (.scan f)) s
      (restartScan (s.setSettings g)) := fun q hq => by
    dsimp only [settingParts] at hq
    cases q <;> first | exact absurd (by decide) hq | simp [Part.same]
  cases f with
  | length =>
    refine .clamp (lo := 0) (hi := 20) (f := fun x => restartScan (s.setSettings { s.settings with scanLength := x })) rfl
      rfl ?_ (parts _)
    simp [writtenSettings]
  | position p k =>
    have place : p.val < s.settings.scanPositions.length := positions.symm ▸ p.isLt
    have entry : settingValue (writtenSettings s.settings (.scan (.position p k)) value) (.scan (.position p k)) =
        ((putScanField ((s.settings.scanPositions[p.val]?).getD Config.spareScanEntry) k value.toNat).2 : Int) := by
      simp only [settingValue, writtenSettings, writtenPositions, List.getElem?_set_self place, Option.getD_some]
      cases k <;> rfl
    refine ⟨by simp [writeScan, writtenSettings, writtenPositions], ?_, ?_, parts _⟩
    · rw [entry]
      exact (BitVec.ofInt_natCast _ _).symm
    · rw [entry]
      exact decide_eq_decide.mpr (not_congr Int.ofNat_inj.symm)

/-- Every accepted write of a setting (R182). -/
theorem writeSetting_accepted {st : Setting} {value : Word} {s : State} {w : Written}
    (positions : s.settings.scanPositions.length = 20) (hw : writeSetting st value s = some w) :
    Accepted st value s w := by
  have plain (g : Settings) : ChangesOnly [.settings, .loop, .marks] s (s.setSettings g) :=
    fun q hq => by cases q <;> first | exact absurd (by decide) hq | rfl
  cases st with
  | slotEnabled n => exact writeSlotEnabled_accepted hw
  | slotClass n => exact writeSlotClass_accepted hw
  | slotRank n => cases hw; exact writeSlotRank_accepted n value s
  | slotScope n => exact writeSlotScope_accepted hw
  | plan p => exact writePlan_accepted hw
  | purge p => exact writePurge_accepted hw
  | doorMap d => exact writeDoorMap_accepted hw
  | scan f => cases hw; exact writeScan_accepted f value positions
  | window k => cases hw; cases k <;> dsimp only [writeWindow] <;> exact .clamp rfl rfl rfl (plain _)
  | releaseRank | returnTime => cases hw; exact .clamp rfl rfl rfl (plain _)
  | gain k => cases hw; cases k <;> exact .clamp rfl rfl rfl (plain _)
  | threshold t => cases hw; cases t <;> dsimp only [writeThreshold] <;> exact .clamp rfl rfl rfl (plain _)
  | calibration c k =>
    cases hw
    cases k <;> dsimp only [writeCalibration] <;>
      exact .coded (by simp [settingValue, writtenSettings, writtenAs]) rfl (plain _)
  | doorLevel =>
    cases hw
    exact .clamp rfl rfl (by simp [writtenSettings]) fun q hq => by
      cases q <;> first | exact absurd (by decide) hq | simp [Part.same]
  | alertMask =>
    cases hw
    exact .coded rfl (by simp [writtenSettings]) fun q hq => by
      cases q <;> first | exact absurd (by decide) hq | simp [Part.same]
  | level l =>
    cases hw
    cases l <;> dsimp only [writeLevel] <;> exact .clamp (by simp [settingValue, writtenSettings]) rfl (by simp [writtenSettings]) fun q hq => by
      dsimp only [settingParts] at hq
      cases q <;> first | exact absurd (by decide) hq | simp [Part.same]
  | time t =>
    cases hw
    cases t with
    | short =>
      dsimp only [writeTime]
      exact .clamp rfl rfl (by simp [writtenSettings]) fun q hq => by
        dsimp only [settingParts] at hq
        cases q <;> first | exact absurd (by decide) hq | simp [Part.same]
    | overload =>
      dsimp only [writeTime]
      exact .clamp rfl rfl rfl (plain _)
  | feedbackEnd a e =>
    cases hw
    cases e <;> dsimp only [writeFeedbackEnd] <;> exact .clamp (by simp [settingValue, writtenSettings]) rfl rfl (plain _)

end Sys2Proof.Machine
end

section
/-! The rows of the settings family: the value held and answered (O57), and what a slot write does at once (O58). -/

namespace Sys2Proof.Machine

open Sys2Proof

/-! ## A write taken -/

/-- With the permit a write that may be held is accepted (R181, R182). -/
theorem serveWrite_of_mayHold {n : Station} {st : Setting} {value : Word} {s : State} (permit : Permit (arrive n s))
    (may : MayHold s st value) :
    ∃ w, writeSetting st value (arrive n s) = some w ∧
      serveWrite st value (arrive n s) = servedWrite (Word.ofNat st.index) w := by
  obtain ⟨w, hw⟩ := Option.isSome_iff_exists.mp
    ((writeSetting_isSome_iff st value (arrive n s)).mpr ((mayHold_arrive n st value s).mpr may))
  refine ⟨w, hw, ?_⟩
  rw [serveWrite, if_pos ((permitted_iff _).mpr permit), hw]

theorem serviceOnly_of_service {s : State} {n : Station} (service : (s.slot n).cls = .service) :
    Permission.serviceOnly.allows (s.slot n).cls = true := by
  rw [service]
  rfl

/-- An accepted write as its row leaves the part (R182). -/
theorem exec_writeRow_of_mayHold {n : Station} {st : Setting} {value : Word} {s : State} (hr : s.receives n = true)
    (service : (s.slot n).cls = .service) (permit : Permit (arrive n s)) (may : MayHold s st value) :
    ∃ w, writeSetting st value (arrive n s) = some w ∧
      exec (writeRow n st value) s = .next (setWindow n
        (.taken 0x0F#8 (some ⟨clampCode w.moved, Word.ofNat st.index, w.held, 0#16⟩)) (markAll .settings w.state)) := by
  obtain ⟨w, hw, served⟩ := serveWrite_of_mayHold permit may
  refine ⟨w, hw, ?_⟩
  rw [exec_of_takeCell (exec_writeRow n st value s) hr (serviceOnly_of_service service), served]
  rfl

theorem exec_settingsWrite_eq_writeRow (n : Station) (st : Setting) (value : Word) (s : State) :
    exec (.settingsWrite n (Word.ofNat st.index) value) s = exec (writeRow n st value) s := by
  have same : serveIndex (Word.ofNat st.index) value = serveWrite st value :=
    funext fun u => serveIndex_of_index st value u
  rw [exec_writeRow]
  show Host.Outcome.next (takeCell n 0x0F#8 .serviceOnly (serveIndex (Word.ofNat st.index) value) s) = _
  rw [same]

/-- The marks of the settings family and the window are no part of what a setting may not change. -/
theorem settingParts_changesOnly {st : Setting} {n : Station} {s u : State} {w0 w1 : Window}
    (h : ChangesOnly (.settings :: .loop :: settingParts st) s u) :
    ChangesOnly (.settings :: .loop :: .marks :: settingParts st) (setWindow n w0 s)
      (setWindow n w1 (markAll .settings u)) := by
  have before : ChangesOnly [.loop] (setWindow n w0 s) s := fun p hp => by
    cases p <;> first | rfl | exact absurd (by decide) hp
  have marked : ChangesOnly [.loop, .marks] u (setWindow n w1 (markAll .settings u)) := fun p hp => by
    cases p <;> first | rfl | exact absurd (by decide) hp
  refine (before.mono ?_).trans ((h.mono ?_).trans (marked.mono ?_)) <;> simp +contextual

/-- Settles O57. -/
theorem settingsWritesHoldTheirValue : Obligations.SettingsWritesHoldTheirValue := by
  intro n st value s hr service permit may sound
  have ranges := (settingsInRange_iff _).mp sound
  have settings : (arrive n s).settings = s.settings := by simp
  obtain ⟨w, hw, row⟩ := exec_writeRow_of_mayHold hr service permit may
  obtain ⟨working, answer, moved, parts⟩ := writeSetting_accepted (by rw [settings]; exact ranges.positions) hw
  rw [settings] at working answer moved
  have left : (setWindow n (.taken 0x0F#8 (some ⟨clampCode w.moved, Word.ofNat st.index, w.held, 0#16⟩))
      (markAll .settings w.state)).settings = writtenSettings s.settings st value := by simpa using working
  refine ⟨_, _, _, settingValue (writtenSettings s.settings st value) st, exec_idle_of_receives hr, row,
    (exec_settingsWrite_eq_writeRow n st value s).trans row, heldAs_written ranges may, by rw [left],
    fun st' ne apart => ?_, fun st' pair => ?_, setWindow_window _ _ _, ?_, ?_, settingParts_changesOnly parts⟩
  · rw [left]
    exact settingValue_written_of_apart ranges.positions value ne apart
  · rw [left]
    exact settingValue_written_of_pair s.settings value pair
  · rw [answer, moved]
    by_cases same : settingValue (writtenSettings s.settings st value) st = writtenAs st value <;>
      simp [same, clampCode]
  · exact (markAll_spec .settings w.state).1

end Sys2Proof.Machine
end

section
/-! What a slot write does at once (O58). -/

namespace Sys2Proof.Machine

open Sys2Proof

/-! ## The Vehicle-class station -/

/-- No enabled slot of the Vehicle class: no Vehicle-class station (R96). -/
theorem vehicleView_eq_none {s : State} (vacant : ∀ n, (s.slot n).enabled = true → (s.slot n).cls ≠ .vehicle) :
    s.vehicleView = none := by
  have absent : s.vehicleStation = none := by
    refine List.find?_eq_none.mpr fun n _ => ?_
    simpa using vacant n
  rw [State.vehicleView, absent, Option.map_none]

theorem vehicleView_ne_none {s : State} {n : Station} (enabled : (s.slot n).enabled = true)
    (vehicle : (s.slot n).cls = .vehicle) : s.vehicleView ≠ none := by
  have found : s.vehicleStation ≠ none := fun absent =>
    absurd (List.find?_eq_none.mp absent n (Station.mem_all n)) (by simp [enabled, vehicle])
  simpa [State.vehicleView] using found

/-- A vehicle handed on is the vehicle of the state (R99). -/
theorem handOnVehicle_vehicle (turn : Turn) (trigger crew : Bool) (v : Vehicle) (s : State) :
    (handOnVehicle turn trigger crew v s).vehicle = v := by
  unfold handOnVehicle
  split
  · simp
  · cases turn <;> simp [shareEvent, putVehicle]

/-- The vehicle after an event follows the state of its station where that changed (R96). -/
theorem settleVehicle_vehicle (turn : Turn) (trigger : Bool) (before s : State) :
    (settleVehicle turn trigger before s).vehicle =
      if s.vehicleView = before.vehicleView then s.vehicle else s.vehicle.follow s.vehicleView := by
  unfold settleVehicle
  split
  · simp
  · exact handOnVehicle_vehicle ..

/-- With no Vehicle-class station left the record is Unverified and its doors are taken closed (R96, R97). -/
theorem settleVehicle_vehicle_of_left {turn : Turn} {trigger : Bool} {before s : State}
    (after : s.vehicleView = none) (left : before.vehicleView ≠ none) :
    (settleVehicle turn trigger before s).vehicle.record.verified = false ∧
      ∀ d, (settleVehicle turn trigger before s).vehicle.record.doors.get d = false := by
  rw [settleVehicle_vehicle, if_neg fun same => left (same.symm.trans after), after]
  exact ⟨rfl, fun d => by simp [Vehicle.follow, Vehicle.forceClose]⟩

/-! ## A slot's settings and the trend stream -/

theorem setSlot_slot (n m : Station) (t : SlotSettings) (s : State) :
    (setSlot n t s).slot m = if m = n then t else s.slot m := by
  simp [setSlot, State.slot, PerStation.get_set]

/-- A slot that no longer is an enabled slot of the Vehicle class leaves no Vehicle-class station (R1, R96). -/
theorem vehicleView_of_slot {s u : State} {n : Station} (one : OneVehicle s.settings.slots)
    (enabled : (s.slot n).enabled = true) (vehicle : (s.slot n).cls = .vehicle)
    (other : ∀ m, m ≠ n → u.slot m = s.slot m) (gone : (u.slot n).enabled = true → (u.slot n).cls ≠ .vehicle) :
    u.vehicleView = none ∧ s.vehicleView ≠ none := by
  refine ⟨vehicleView_eq_none fun m on => ?_, vehicleView_ne_none enabled vehicle⟩
  by_cases same : m = n
  · rw [same] at on ⊢
    exact gone on
  · rw [other m same] at on ⊢
    exact fun cls => same (one m n on cls enabled vehicle)

theorem dropStation_table (n : Station) (s : State) :
    (dropStation n s).table = s.table.filter fun e => decide (e.station ≠ n) := by
  simp [dropStation, removeEntries]

theorem dropStation_buffers (n : Station) (s : State) : (dropStation n s).buffers = s.buffers.set n none := by
  simp [dropStation, discardBuffer]

theorem dropStation_trend (n : Station) (s : State) : (dropStation n s).trend = s.trend.without n := by
  rw [dropStation, releaseStream_trend]
  simp

theorem detachStation_trend (n : Station) (s : State) : (detachStation n s).trend = s.trend.without n := by
  unfold detachStation
  split
  · simp [releaseStream_trend]
  · next free => exact (if_neg free).symm

theorem detachStation_detached (n : Station) (s : State) :
    (detachStation n s).detached = if s.holdsStream n then s.detached.set n true else s.detached := by
  cases held : s.holdsStream n <;> simp [detachStation, held, setDetached]

theorem entriesOf_pos_iff {n : Station} {s : State} : 0 < s.entriesOf n ↔ ∃ e ∈ s.table, e.station = n := by
  rw [State.entriesOf, List.length_pos_iff_exists_mem]
  simp

/-- An event with a trigger leaves the plan current (R24, R25). -/
theorem settleVehicle_current (turn : Turn) (before s : State) : PlanCurrent (settleVehicle turn true before s) :=
  Follows.current fun _ => .settleVehicle turn before (.inl rfl)

/-! ## The served row -/

/-- The marks of the settings and the window of the sender are all that serving adds to a write (R182). -/
theorem served_changesOnly {ps : List Part} {n : Station} {s u : State} {w0 w1 : Window} (h : ChangesOnly ps s u) :
    ChangesOnly (.loop :: .marks :: ps) (setWindow n w0 s) (setWindow n w1 (markAll .settings u)) := by
  have before : ChangesOnly [.loop] (setWindow n w0 s) s := fun p hp => by
    cases p <;> first | rfl | exact absurd (by decide) hp
  have marked : ChangesOnly [.loop, .marks] u (setWindow n w1 (markAll .settings u)) := fun p hp => by
    cases p <;> first | rfl | exact absurd (by decide) hp
  refine (before.mono ?_).trans ((h.mono ?_).trans (marked.mono ?_)) <;> simp +contextual

theorem served_current {n : Station} {u : State} {w : Window} (h : PlanCurrent u) :
    PlanCurrent (setWindow n w (markAll .settings u)) :=
  h.follow (.of_kept)

/-! ## The four fields -/

theorem writeSlotEnabled_off (m : Station) (s : State) :
    writeSlotEnabled m 0#16 s = some (codedWrite 0#16 (if (s.slot m).enabled then disableSlot m s else s)) := by
  have code : switchOfCode 0#16 = some false := rfl
  cases on : (s.slot m).enabled <;> simp [writeSlotEnabled, code, on]

theorem writeSlotEnabled_on {m : Station} {s : State} {w : Written} (h : writeSlotEnabled m 1#16 s = some w) :
    w.state = if (s.slot m).enabled then s else enableSlot m s := by
  have code : switchOfCode 1#16 = some true := rfl
  simp only [writeSlotEnabled, code] at h
  split at h
  · cases h
  · cases h
    cases on : (s.slot m).enabled <;> simp [codedWrite]

theorem writeSlotClass_state {m : Station} {c : StationClass} {s : State} {w : Written}
    (h : writeSlotClass m (Word.ofNat c.code) s = some w) :
    w.state = if c = (s.slot m).cls then s else changeClass m c s := by
  have code : StationClass.ofCode (Word.ofNat c.code) = some c := by cases c <;> rfl
  simp only [writeSlotClass, code] at h
  split at h
  · cases h
  · cases h
    rfl

theorem writeSlotScope_eq (m : Station) (sc : Scope) (s : State) :
    writeSlotScope m (Word.ofNat sc.code) s =
      some (codedWrite (Word.ofNat sc.code) (if sc = (s.slot m).scope then s else changeScope m sc s)) := by
  have code : Scope.ofCode (Word.ofNat sc.code) = some sc := by cases sc <;> rfl
  rw [writeSlotScope, code]

/-- A slot disabled drops what Lost drops and sends nothing more (R9, R163). -/
theorem disableSlot_drops (m : Station) (s : State) :
    (disableSlot m s).stations = s.stations.set m ⟨.disabled, 0⟩ ∧
    (disableSlot m s).table = s.table.filter (fun e => decide (e.station ≠ m)) ∧
    (disableSlot m s).buffers = s.buffers.set m none ∧ (disableSlot m s).trend = s.trend.without m ∧
    ((disableSlot m s).loop.lines.get m).cut = true := by
  simp [disableSlot, setStation, dropStation_table, dropStation_buffers, dropStation_trend, setLine,
    PerStation.get_set]

theorem disableSlot_vehicle {m : Station} {s : State} (one : OneVehicle s.settings.slots)
    (enabled : (s.slot m).enabled = true) (vehicle : (s.slot m).cls = .vehicle) :
    (disableSlot m s).vehicle.record.verified = false ∧ ∀ d, (disableSlot m s).vehicle.record.doors.get d = false := by
  have slots : ∀ k, (dropStation m (setStation m ⟨.disabled, 0⟩
      (setSlot m { s.slot m with enabled := false } s))).slot k =
      if k = m then { s.slot m with enabled := false } else s.slot k := fun k => by
    rw [← setSlot_slot]
    simp [State.slot]
  obtain ⟨after, left⟩ := vehicleView_of_slot (u := dropStation m (setStation m ⟨.disabled, 0⟩
      (setSlot m { s.slot m with enabled := false } s))) one enabled vehicle
    (fun k other => by rw [slots, if_neg other]) (fun on => by simp [slots] at on)
  exact settleVehicle_vehicle_of_left after left

theorem changeClass_toVehicle {m : Station} {s : State} (enabled : (s.slot m).enabled = true) :
    (changeClass m .vehicle s).table = s.table.filter (fun e => decide (e.station ≠ m)) ∧
    (changeClass m .vehicle s).trend = s.trend.without m ∧
    (changeClass m .vehicle s).detached = (if s.holdsStream m then s.detached.set m true else s.detached) ∧
    ((∃ e ∈ s.table, e.station = m) → PlanCurrent (changeClass m .vehicle s)) := by
  have eq : changeClass m .vehicle s = settleVehicle .resolverFirst (decide (0 < s.entriesOf m)) s
      (detachStation m (removeEntries m (setSlot m { s.slot m with cls := .vehicle } s))) := by
    simp [changeClass, enabled]
  rw [eq]
  refine ⟨by simp [removeEntries], by simp [detachStation_trend], ?_, fun own => ?_⟩
  · simp [detachStation_detached, State.holdsStream]
    rfl
  · rw [decide_eq_true (entriesOf_pos_iff.mpr own)]
    exact settleVehicle_current _ _ _

/-- Another class than Vehicle, or a disabled slot's, leaves the entries and the stream (R10). -/
theorem changeClass_other {m : Station} {c : StationClass} {s : State}
    (other : (s.slot m).enabled = false ∨ c ≠ .vehicle) :
    changeClass m c s = settleVehicle .resolverFirst false s (setSlot m { s.slot m with cls := c } s) := by
  rcases other with off | other <;> simp [changeClass, *]

theorem changeClass_vehicle {m : Station} {c : StationClass} {s : State} (one : OneVehicle s.settings.slots)
    (enabled : (s.slot m).enabled = true) (other : c ≠ .vehicle) (vehicle : (s.slot m).cls = .vehicle) :
    (changeClass m c s).vehicle.record.verified = false := by
  rw [changeClass_other (.inr other)]
  obtain ⟨after, left⟩ := vehicleView_of_slot (u := setSlot m { s.slot m with cls := c } s) one enabled vehicle
    (fun k ne => by rw [setSlot_slot, if_neg ne]) (fun _ => by simpa [setSlot_slot] using other)
  exact (settleVehicle_vehicle_of_left after left).1

/-- The class of a disabled slot is seen by no block (R96). -/
theorem changeClass_of_disabled {m : Station} {c : StationClass} {s : State} (off : (s.slot m).enabled = false) :
    changeClass m c s = setSlot m { s.slot m with cls := c } s := by
  have view : (setSlot m { s.slot m with cls := c } s).vehicleView = s.vehicleView := by
    have station : (setSlot m { s.slot m with cls := c } s).vehicleStation = s.vehicleStation := by
      refine congrArg (fun p => Station.all.find? p) (funext fun k => ?_)
      rw [setSlot_slot]
      split
      · next same => simp [same, off]
      · rfl
    rw [State.vehicleView, station]
    rfl
  rw [changeClass_other (.inl off), settleVehicle, if_pos view]
  rfl

theorem setSlot_changesOnly (m : Station) (t : SlotSettings) (s : State) : ChangesOnly [.settings] s (setSlot m t s) :=
  fun p hp => by cases p <;> first | rfl | exact absurd (by decide) hp

/-- A scope that takes an entry away forms the plan anew (R10, R24). -/
theorem changeScope_current {m : Station} {sc : Scope} {s : State} (enabled : (s.slot m).enabled = true)
    (uncovered : ∃ e ∈ s.table, e.station = m ∧ e.demand.within sc = false) : PlanCurrent (changeScope m sc s) := by
  obtain ⟨e, mem, station, outside⟩ := uncovered
  have fewer : (withoutUncovered m sc s.table).length < s.table.length :=
    List.length_filter_lt_length_iff_exists.mpr ⟨e, mem, by simp [station, outside]⟩
  rw [changeScope, if_pos enabled, decide_eq_true fewer]
  exact (resolve_resolved _).current

theorem changeScope_table {m : Station} {sc : Scope} {s : State} (enabled : (s.slot m).enabled = true) :
    (changeScope m sc s).table = s.table.filter fun e => decide (e.station ≠ m) || e.demand.within sc := by
  simp [changeScope, enabled, withoutUncovered]

theorem clampNat_zero_seven (x : Nat) : clampNat 0 7 x = min 7 x := by
  unfold clampNat
  split_ifs <;> omega

theorem changeScope_of_disabled {m : Station} {sc : Scope} {s : State} (off : (s.slot m).enabled = false) :
    changeScope m sc s = setSlot m { s.slot m with scope := sc } s := by
  simp [changeScope, off]

/-- A rank that moves is a trigger (R10, R24). -/
theorem writeSlotRank_current {m : Station} {value : Word} {s : State} (enabled : (s.slot m).enabled = true)
    (moves : (s.slot m).rank ≠ min 7 value.toNat) : PlanCurrent (writeSlotRank m value s).state := by
  have moves : ¬clampNat 0 7 value.toNat = (s.slot m).rank := fun same => moves (by rw [← same, clampNat_zero_seven])
  have eq : (writeSlotRank m value s).state =
      resolve (setSlot m { s.slot m with rank := clampNat 0 7 value.toNat } s) := by
    simp [writeSlotRank, clampWrite, moves, enabled, resolveIf]
  rw [eq]
  exact (resolve_resolved _).current

theorem writeSlotRank_quiet {m : Station} {value : Word} {s : State}
    (same : (s.slot m).enabled = false ∨ (s.slot m).rank = min 7 value.toNat) :
    ChangesOnly [.settings] s (writeSlotRank m value s).state := by
  have rank := clampNat_zero_seven value.toNat
  dsimp only [writeSlotRank, clampWrite]
  split
  · exact .refl _ _
  · next ne =>
    rw [same.resolve_right fun eq => ne (rank.trans eq.symm)]
    exact setSlot_changesOnly _ _ _

/-! ## The rows -/

/-- A slot cut for the frame can take no cell (R9, R163). -/
theorem receives_of_cut {s : State} {n : Station} (cut : (s.loop.lines.get n).cut = true) : s.receives n = false := by
  simp [State.receives, cut]

section rows

variable {n : Station} {s : State}

/-- The state that a row of the settings family leaves, of its write (R182). -/
def servedState (n : Station) (st : Setting) (w : Written) : State :=
  setWindow n (.taken 0x0F#8 (some ⟨clampCode w.moved, Word.ofNat st.index, w.held, 0#16⟩)) (markAll .settings w.state)

theorem servedState_slot {st : Setting} {value : Word} {w : Written} (h : SettingsInRange s.settings)
    (hw : writeSetting st value (arrive n s) = some w) (m : Station) :
    (servedState n st w).slot m = (writtenSettings s.settings st value).slots.get m := by
  have positions := ((settingsInRange_iff _).mp h).positions
  have settings : (arrive n s).settings = s.settings := by simp
  have working := (writeSetting_accepted (by rw [settings]; exact positions) hw).settings
  simp [servedState, State.slot, working]

end rows

/-- Settles O58. -/
theorem slotWritesActAtOnce : Obligations.SlotWritesActAtOnce := by
  intro n m s hr service permit sound
  have one : OneVehicle (arrive n s).settings.slots := by simpa using ((settingsInRange_iff _).mp sound).oneVehicle
  refine ⟨_, exec_idle_of_receives hr, ?_⟩
  refine ⟨?_, fun may => ?_, fun c may => ?_, fun value => ?_, fun sc => ?_⟩
  · have may : MayHold s (.slotEnabled m) 0#16 :=
      ⟨fun _ last => by cases last; exact Nat.zero_le _, fun _ _ on => absurd on (by decide), nofun⟩
    obtain ⟨w, hw, row⟩ := exec_writeRow_of_mayHold hr service permit may
    have slot := servedState_slot (n := n) sound hw m
    have state := (writeSlotEnabled_off m (arrive n s)).symm.trans hw
    cases state
    refine ⟨_, row, ?_, fun off => ?_, fun on => ?_⟩
    · exact slot.trans (by simp [writtenSettings, switchOfCode, State.slot])
    · have off : ((arrive n s).slot m).enabled = false := off
      rw [if_neg (Bool.not_eq_true _ ▸ off)]
      exact served_changesOnly (ChangesOnly.refl [] (arrive n s))
    · have on : ((arrive n s).slot m).enabled = true := on
      rw [if_pos on] at row slot ⊢
      obtain ⟨stations, table, buffers, trend, cut⟩ := disableSlot_drops m (arrive n s)
      have line : ((servedState n (.slotEnabled m) (codedWrite 0#16 (disableSlot m (arrive n s)))).loop.lines.get m).cut
          = true := by
        by_cases same : m = n
        · subst same
          simpa [servedState, codedWrite, setWindow, setLine] using cut
        · simpa [servedState, codedWrite, setWindow, setLine, same] using cut
      refine ⟨stations, table, buffers, trend, line, ?_, fun _ => ?_, fun cls => ?_⟩
      · exact receives_of_cut line
      · exact served_current (settleVehicle_current _ _ _)
      · exact disableSlot_vehicle one on cls
  · obtain ⟨w, hw, row⟩ := exec_writeRow_of_mayHold hr service permit may
    have slot := servedState_slot (n := n) sound hw m
    have state := writeSlotEnabled_on hw
    refine ⟨_, row, ?_, fun on => ?_, fun off => ?_, ?_⟩
    · exact slot.trans (by simp [writtenSettings, switchOfCode, State.slot])
    · have on : ((arrive n s).slot m).enabled = true := on
      refine served_changesOnly (ps := []) ?_
      rw [state, if_pos on]
      exact .refl _ _
    · have off : ((arrive n s).slot m).enabled = false := off
      show w.state.stations = (arrive n s).stations.set m ⟨.absent, 0⟩
      rw [state, if_neg (Bool.not_eq_true _ ▸ off)]
      simp [enableSlot, setStation]
    · show w.state.table = (arrive n s).table ∧ w.state.buffers = (arrive n s).buffers ∧
        w.state.trend = (arrive n s).trend
      rw [state]
      split <;> simp
  · obtain ⟨w, hw, row⟩ := exec_writeRow_of_mayHold hr service permit may
    have slot := servedState_slot (n := n) sound hw m
    have state := writeSlotClass_state hw
    refine ⟨_, row, ?_, ?_, ?_, fun on vehicle other => ?_, fun stays => ?_, fun on other vehicle => ?_, fun same => ?_⟩
    · refine slot.trans ?_
      have code : StationClass.ofCode (Word.ofNat c.code) = some c := by cases c <;> rfl
      simp [writtenSettings, code, State.slot]
    · show w.state.stations = (arrive n s).stations
      rw [state]
      split <;> simp
    · show w.state.buffers = (arrive n s).buffers
      rw [state]
      split <;> simp
    · subst vehicle
      rw [if_neg (show ¬_ = ((arrive n s).slot m).cls from Ne.symm other)] at state
      obtain ⟨table, trend, detached, current⟩ := changeClass_toVehicle (s := arrive n s) on
      rw [← state] at table trend detached current
      exact ⟨table, trend, detached, fun own => served_current (current own)⟩
    · show w.state.table = (arrive n s).table ∧ w.state.trend = (arrive n s).trend ∧
        w.state.detached = (arrive n s).detached
      rw [state]
      split
      · exact ⟨rfl, rfl, rfl⟩
      · next ne =>
        have other := stays.imp_right fun h => h.elim id fun vehicle eq => ne (eq.trans vehicle.symm)
        rw [changeClass_other (s := arrive n s) other]
        simp
    · rw [if_neg (show ¬_ = ((arrive n s).slot m).cls from fun eq => other (eq.trans vehicle))] at state
      show w.state.vehicle.record.verified = false
      rw [state]
      exact changeClass_vehicle one on other vehicle
    · refine (served_changesOnly (ps := [.settings]) ?_).mono (by decide)
      rw [state]
      split
      · exact .refl _ _
      · next ne =>
        rw [changeClass_of_disabled (s := arrive n s) (same.resolve_right fun eq => ne eq.symm)]
        exact setSlot_changesOnly _ _ _
  · have may : MayHold s (.slotRank m) value := ⟨nofun, nofun, nofun⟩
    obtain ⟨w, hw, row⟩ := exec_writeRow_of_mayHold hr service permit may
    have slot := servedState_slot (n := n) sound hw m
    cases hw
    refine ⟨_, row, ?_, fun on ne => ?_, fun same => ?_, ?_⟩
    · refine slot.trans ?_
      have rank : held 0 7 value = min 7 value.toNat := clampNat_zero_seven _
      simp [writtenSettings, State.slot, rank]
    · exact served_current (writeSlotRank_current on ne)
    · refine (served_changesOnly (ps := [.settings]) ?_).mono (by decide)
      exact writeSlotRank_quiet same
    · refine (served_changesOnly (ps := .settings :: .loop :: resolutionParts) ?_).mono (by decide)
      exact (writeSlotRank_accepted m value (arrive n s)).parts
  · have may : MayHold s (.slotScope m) (Word.ofNat sc.code) :=
      ⟨fun _ last => by cases last; cases sc <;> decide, nofun, nofun⟩
    obtain ⟨w, hw, row⟩ := exec_writeRow_of_mayHold hr service permit may
    have slot := servedState_slot (n := n) sound hw m
    have parts := (writeSlotScope_accepted hw).parts
    have state := (writeSlotScope_eq m sc (arrive n s)).symm.trans hw
    cases state
    refine ⟨_, row, ?_, fun on ne => ?_, fun uncovered on ne => ?_, fun same => ?_, ?_⟩
    · refine slot.trans ?_
      have code : Scope.ofCode (Word.ofNat sc.code) = some sc := by cases sc <;> rfl
      simp [writtenSettings, code, State.slot]
    · have ne : sc ≠ ((arrive n s).slot m).scope := Ne.symm ne
      rw [if_neg ne]
      exact changeScope_table (s := arrive n s) on
    · have ne : sc ≠ ((arrive n s).slot m).scope := Ne.symm ne
      rw [if_neg ne]
      exact served_current (changeScope_current (s := arrive n s) on uncovered)
    · refine (served_changesOnly (ps := [.settings]) ?_).mono (by decide)
      dsimp only [codedWrite]
      split
      · exact .refl _ _
      · next ne =>
        rw [changeScope_of_disabled (s := arrive n s) (same.resolve_right fun eq => ne eq.symm)]
        exact setSlot_changesOnly _ _ _
    · exact (served_changesOnly (ps := .settings :: .loop :: .table :: resolutionParts) parts).mono (by decide)

end Sys2Proof.Machine
end

section
/-! The end of an uplink window (O50). -/

namespace Sys2Proof.Machine

open Sys2Proof

/-- The command of a valid cell is the cell taken by its kind (R166). -/
theorem exec_commandOf (c : Cell) (turn : Turn) (s : State) :
    exec (commandOf c turn) s = .next (takeByKind c turn s) := by
  by_cases named : namesKind c.kind = true
  · have below : c.kind.toNat ≤ 17 := by simpa [namesKind] using named
    unfold commandOf takeByKind
    generalize c.kind.toNat = k at below ⊢
    interval_cases k <;> rfl
  · have unknown : namesKind c.kind = false := Bool.eq_false_iff.mpr named
    have command : commandOf c turn = .unknownKind c.station c.kind := by
      have above : 17 < c.kind.toNat := by simpa [namesKind] using unknown
      unfold commandOf
      split <;> first | rfl | omega
    rw [command, takeByKind_of_unknown unknown]
    exact congrArg (fun f => Host.Outcome.next (f s))
      (takeByKind_of_unknown (c := ⟨c.station, c.kind, 0#16, 0#16, 0#16, 0#16⟩) unknown .resolverFirst)

/-- Bytes too few, of another station, or with another check are Garbled (R165). -/
theorem judgeBytes_garbled {n : Station} {l : List Byte} (h : l.length < 11 ∨
    (∃ b, l[0]? = some b ∧ b ≠ stationByte n) ∨ l[10]? ≠ some (crc8 (l.take 10))) :
    judgeBytes n (l.take 11) = .garbled := by
  unfold judgeBytes
  split
  · next b0 b1 b2 b3 b4 b5 b6 b7 b8 b9 b10 cell =>
    have whole : 11 ≤ l.length := by
      have := congrArg List.length cell
      simp at this
      omega
    have byte (i : Nat) (hi : i < 11) : l[i]? = (l.take 11)[i]? := (List.getElem?_take_of_lt hi).symm
    have front : l.take 10 = (l.take 11).take 10 := by simp [List.take_take]
    rw [byte 0 (by decide), byte 10 (by decide), front, cell] at h
    refine if_neg fun ⟨check, station⟩ => ?_
    rcases h with short | ⟨b, first, other⟩ | wrong
    · omega
    · exact other (Option.some_inj.mp first ▸ station)
    · exact wrong (congrArg some check.symm)
  · rfl

theorem wordsWait_iff (s : State) (n : Station) :
    s.wordsWait n = true ↔ (s.buffers.get n).isSome = true ∨
      (∃ h, s.trend.hold = some h ∧ h.station = n ∧ s.trend.queue ≠ []) := by
  simp only [State.wordsWait, State.holdsStream, Bool.or_eq_true, Bool.and_eq_true, Option.any_eq_true,
    decide_eq_true_eq, Bool.not_eq_true', List.isEmpty_eq_false_iff]
  tauto

theorem chooseLine_becomes (n : Station) (s : State) :
    LineBecomes n { s.loop.lines.get n with choice := if s.receives n then s.chooseDownlink n else .none } s
      (chooseLine n s) ∧ ChangesOnly [.loop] s (chooseLine n s) :=
  ⟨rfl, setLine_changesOnly _ _ _⟩

/-- The downlink of a window in which nothing was taken: Data where words wait, else Status (R167). -/
theorem chooseDownlink_of_taken {n : Station} {s : State} {k : Byte}
    (taken : (s.loop.lines.get n).window = .taken k none) :
    s.chooseDownlink n = if s.wordsWait n then .data else .status := by
  rw [State.chooseDownlink, taken]

theorem chooseDownlink_of_answered {n : Station} {s : State} {k : Byte} {a : Answer}
    (taken : (s.loop.lines.get n).window = .taken k (some a)) : s.chooseDownlink n = .answer k a := by
  rw [State.chooseDownlink, taken]

theorem cellTaken_iff (s : State) (n : Station) :
    s.cellTaken n = true ↔ ∃ k a, (s.loop.lines.get n).window = .taken k a := by
  unfold State.cellTaken
  split <;> simp_all

/-- A window not taken and only noted: the choice of the window's end, on the line as it was (R165). -/
theorem chooseLine_setWindow {n : Station} {w : Window} {s : State} (hr : s.receives n = true) :
    LineBecomes n { s.loop.lines.get n with window := w, choice := (setWindow n w s).chooseDownlink n } s
      (chooseLine n (setWindow n w s)) ∧ ChangesOnly [.loop] s (chooseLine n (setWindow n w s)) := by
  have still : (setWindow n w s).receives n = true := by
    have cut : ((setWindow n w s).loop.lines.get n).cut = (s.loop.lines.get n).cut := by simp [setWindow, setLine]
    rw [State.receives, cut]
    exact hr
  refine ⟨?_, (setLine_changesOnly _ _ _).trans (setLine_changesOnly _ _ _)⟩
  unfold LineBecomes
  rw [(chooseLine_becomes n _).1, still]
  simp [setWindow, setLine]

theorem chooseDownlink_silent (n : Station) (s : State) :
    (setWindow n .silent s).chooseDownlink n = if s.wordsWait n then .data else .status := by
  rw [State.chooseDownlink, setWindow_window]
  rfl

theorem chooseDownlink_garbled (n : Station) (s : State) :
    (setWindow n .garbled s).chooseDownlink n = .answer 0xFF#8 ⟨.garbled, 0#16, 0#16, 0#16⟩ := by
  rw [State.chooseDownlink, setWindow_window]
  rfl

/-- Settles O50. -/
theorem windowEndJudgesAndChooses : Obligations.WindowEndJudgesAndChooses := by
  intro n rx turn s waiting chosen
  have chosen_choice (u : State) : chosen u (u.chooseDownlink n) := by
    refine ⟨fun k ans taken => ?_, fun k taken waits => ?_, fun k taken idle => ?_⟩
    · exact chooseDownlink_of_answered taken
    · rw [chooseDownlink_of_taken taken, if_pos ((wordsWait_iff u n).mpr waits)]
    · rw [chooseDownlink_of_taken taken, if_neg (mt (wordsWait_iff u n).mp idle)]
  refine ⟨fun none => ?_, fun hr taken => ?_, fun hr free => ?_⟩
  · exact congrArg Host.Outcome.next (if_neg (Bool.not_eq_true _ ▸ none))
  · have eq : exec (.uplinkWindowEnd n rx turn) s = .next (chooseLine n s) := by
      refine congrArg Host.Outcome.next ?_
      rw [uplinkWindowEnd, if_pos hr, if_pos ((cellTaken_iff s n).mpr taken)]
    obtain ⟨line, only⟩ := chooseLine_becomes n s
    rw [if_pos hr] at line
    exact ⟨_, _, eq, chosen_choice s, line, only⟩
  · have eq : exec (.uplinkWindowEnd n rx turn) s = .next (chooseLine n (hearWindow n rx turn s)) := by
      refine congrArg Host.Outcome.next ?_
      rw [uplinkWindowEnd, if_pos hr, if_neg fun t => (cellTaken_iff s n).mp t |>.elim fun k h => h.elim (free k)]
    refine ⟨fun silent => ?_, fun started bad => ?_, fun c command station heard is => ?_⟩
    · have judged : judgeWindow n rx = .silent := by simp [judgeWindow, silent]
      rw [hearWindow, judged] at eq
      obtain ⟨line, only⟩ := chooseLine_setWindow (w := .silent) hr
      rw [chooseDownlink_silent] at line
      exact ⟨_, _, eq, fun waits => if_pos ((wordsWait_iff s n).mpr waits),
        fun idle => if_neg (mt (wordsWait_iff s n).mp idle), line, only⟩
    · have judged : judgeWindow n rx = .garbled := by
        cases stops : rx.stopsValid with
        | false => simp [judgeWindow, started, stops]
        | true =>
          have bytes := judgeBytes_garbled (bad.resolve_left (by simp [stops]))
          simp [judgeWindow, started, stops, bytes]
      rw [hearWindow, judged] at eq
      obtain ⟨line, only⟩ := chooseLine_setWindow (w := .garbled) hr
      rw [chooseDownlink_garbled] at line
      exact ⟨_, eq, line, only⟩
    · have judged : judgeWindow n rx = .valid c := by
        rw [heard, ← station]
        exact (cellBytesJudgeBackToTheCell c).1
      rw [hearWindow, judged] at eq
      obtain ⟨line, only⟩ := chooseLine_becomes n (takeByKind c turn s)
      refine ⟨_, _, _, is ▸ exec_commandOf c turn s, eq, line, only, fun shut => ?_, fun receives => ?_⟩
      · rw [shut]
        rfl
      · rw [if_pos receives]
        exact chosen_choice _

end Sys2Proof.Machine
end

section
/-! Marks that stand over an event, and the vehicle's share of an event that leaves its doors as they were (R99, R179). -/

namespace Sys2Proof.Machine

open Sys2Proof

/-! ## Marks that stand -/

/-- No station's mark of the group is cleared from `s` to `t` (R179). -/
def MarkStands (g : Group) (s t : State) : Prop :=
  ∀ n, (s.marks.get n).get g = true → (t.marks.get n).get g = true

namespace MarkStands

variable {g : Group} {s t u : State}

protected theorem refl (g : Group) (s : State) : MarkStands g s s := fun _ h => h

protected theorem trans (h : MarkStands g s t) (h' : MarkStands g t u) : MarkStands g s u := fun n m => h' n (h n m)

theorem of_marks (h : t.marks = s.marks := by simp) : MarkStands g s t := fun _ m => by rwa [h]

/-- A mark of a group that no change concerns. -/
theorem of_marksChangeOnly {gs : List Group} (h : MarksChangeOnly gs s t) (apart : g ∉ gs) : MarkStands g s t :=
  fun n m => (h n g apart).trans m

protected theorem markAll (h : Group) (s : State) : MarkStands g s (markAll h s) := fun n m => by
  rw [markAll_get]
  split
  · rfl
  · exact m

protected theorem markAllIf (b : Bool) (h : Group) (s : State) : MarkStands g s (markAllIf b h s) := by
  cases b
  · exact .refl g s
  · exact .markAll h s

protected theorem setCondition (c : Condition) (v : Bool) (s : State) : MarkStands g s (setCondition c v s) :=
  fun _ m => setCondition_mark_stands m c v

protected theorem withRegulator (r : Regulator) (s : State) : MarkStands g s (withRegulator r s) := by
  have synced : MarkStands g s (syncIntake (s.setReg r)) := .of_marks
  unfold Machine.withRegulator checkShortfall
  split
  · exact synced
  · exact synced.trans ((MarkStands.of_marks).trans (.setCondition _ _ _))

protected theorem resolve (s : State) : MarkStands g s (resolve s) := by
  by_cases same : formPlan (updateHeater s) = s.plan.body
  · rw [resolve_of_same same]
    exact .of_marks
  · rw [resolve_of_changed same]
    exact fun n m => handOver_mark_stands (by simpa using m)

protected theorem resolveIf (b : Bool) (s : State) : MarkStands g s (resolveIf b s) := by
  rcases resolveIf_cases b s with ⟨-, eq⟩ | ⟨-, eq⟩ <;> rw [eq]
  · exact .resolve s
  · exact .refl g s

protected theorem putVehicle (v : Vehicle) (s : State) : MarkStands g s (putVehicle v s) :=
  ((MarkStands.of_marks (t := s.setVehicle v)).trans (.markAll _ _)).trans (.setCondition _ _ _)

protected theorem handDoors (s : State) : MarkStands g s (handDoors s) := .withRegulator _ s

end MarkStands

/-- A group's mark that every station bears, borne still after marks that stand. -/
theorem MarkedAll.stand {g : Group} {s t : State} (h : MarkedAll g s) (stands : MarkStands g s t)
    (stations : t.stations = s.stations) : MarkedAll g t := fun n on =>
  stands n (h n (by rwa [State.modeOf, stations] at on))

/-! ## Doors that stay -/

/-- The Purge Controller takes no part in an event in which no door moves (R77, R79). -/
theorem handPurge_of_doors {doors : PerDoor Bool} {s : State} (h : s.vehicle.record.doors = doors) :
    handPurge doors false s = s := by
  have still : purgeDoors doors s = s := by
    have same : s.scopeOpen = s.scopeOpenIn doors := by rw [State.scopeOpen, h]
    unfold purgeDoors
    split <;> simp [same]
  refine Eq.trans (if_pos ?_) still
  simp [still]

theorem resolveIf_changesOnly (b : Bool) (s : State) : ChangesOnly resolutionParts s (resolveIf b s) := by
  rcases resolveIf_cases b s with ⟨-, eq⟩ | ⟨-, eq⟩ <;> rw [eq]
  · exact (resolve_resolved s).parts
  · exact .refl _ _

/-- An event that leaves every door as it was changes the vehicle and what a resolution changes, and clears no mark. -/
theorem handOnVehicle_of_doors (turn : Turn) (trigger : Bool) {v : Vehicle} {s : State}
    (h : v.record.doors = s.vehicle.record.doors) (g : Group) :
    ChangesOnly (.vehicle :: resolutionParts) s (handOnVehicle turn trigger false v s) ∧
      MarkStands g s (handOnVehicle turn trigger false v s) := by
  have resolved (u : State) : ChangesOnly resolutionParts u (resolve u) := (resolve_resolved u).parts
  have put : ChangesOnly [.vehicle, .conditions, .alert, .marks] s (putVehicle v s) := fun p hp => by
    cases p <;> first | exact absurd (by decide) hp | simp [Part.same]
  have handed (u : State) : ChangesOnly resolutionParts u (handDoors u) := fun p hp => by
    cases p <;> first | exact absurd (by decide) hp | simp [Part.same]
  unfold handOnVehicle
  split
  · have set : ChangesOnly [.vehicle] s (s.setVehicle v) := fun p hp => by
      cases p <;> first | rfl | exact absurd (by decide) hp
    have stands : MarkStands g s (s.setVehicle v) := .of_marks
    exact ⟨(set.mono (by decide)).trans ((resolveIf_changesOnly _ _).mono (by decide)), stands.trans (.resolveIf _ _)⟩
  · cases turn with
    | resolverFirst =>
      have self : handPurge s.vehicle.record.doors false (handDoors (resolve (putVehicle v s))) =
          handDoors (resolve (putVehicle v s)) := handPurge_of_doors (by simpa [putVehicle] using h)
      rw [shareEvent, self]
      exact ⟨(put.mono (by decide)).trans (((resolved _).mono (by decide)).trans ((handed _).mono (by decide))),
        (MarkStands.putVehicle v s).trans ((MarkStands.resolve _).trans (.handDoors _))⟩
    | purgeFirst =>
      have self : handPurge s.vehicle.record.doors false (handDoors (putVehicle v s)) = handDoors (putVehicle v s) :=
        handPurge_of_doors (by simpa [putVehicle] using h)
      rw [shareEvent, self]
      exact ⟨(put.mono (by decide)).trans (((handed _).mono (by decide)).trans ((resolved _).mono (by decide))),
        (MarkStands.putVehicle v s).trans ((MarkStands.handDoors _).trans (.resolve _))⟩

theorem settleVehicle_of_doors (turn : Turn) (trigger : Bool) {before s : State}
    (h : (s.vehicle.follow s.vehicleView).record.doors = s.vehicle.record.doors) (g : Group) :
    ChangesOnly (.vehicle :: resolutionParts) s (settleVehicle turn trigger before s) ∧
      MarkStands g s (settleVehicle turn trigger before s) := by
  unfold settleVehicle
  split
  · exact ⟨(resolveIf_changesOnly trigger s).mono (by decide), .resolveIf trigger s⟩
  · exact handOnVehicle_of_doors turn trigger h g

/-! ## The Vehicle-class station seen after an event -/

theorem vehicleStation_congr {s t : State} (settings : t.settings = s.settings) :
    t.vehicleStation = s.vehicleStation := by
  have slots : t.slot = s.slot := by
    funext m
    simp [State.slot, settings]
  rw [State.vehicleStation, slots, State.vehicleStation]

theorem vehicleView_of_station {s t : State} (settings : t.settings = s.settings) {n : Station}
    (h : s.vehicleStation = some n) : t.vehicleView = some (t.modeOf n) := by
  rw [State.vehicleView, vehicleStation_congr settings, h, Option.map_some]

/-- Another station's change of state is not seen by Vehicle State (R96). -/
theorem vehicleView_congr {s t : State} (settings : t.settings = s.settings)
    (modes : ∀ n, s.vehicleStation = some n → t.modeOf n = s.modeOf n) : t.vehicleView = s.vehicleView := by
  rw [State.vehicleView, vehicleStation_congr settings, State.vehicleView]
  cases h : s.vehicleStation with
  | none => rfl
  | some n => rw [Option.map_some, Option.map_some, modes n h]

end Sys2Proof.Machine
end

section
/-! Stations heard, silent and restarted (O9, O13, O14). -/

namespace Sys2Proof.Machine

open Sys2Proof

/-! ## The refresh -/

/-- A refresh makes the entries of a Quiet station Active, in their places (R4). -/
theorem refresh_table (n : Station) (s : State) : (refresh n s).table =
    s.table.map fun e => if e.station = n ∧ s.modeOf n = .quiet then { e with held := false } else e := by
  unfold refresh
  cases s.modeOf n <;> simp [holdEntries, setStation, markStation]

theorem refresh_parts (n : Station) (s : State) :
    ChangesOnly [.stations, .table, .marks] s (refresh n s) ∧
      (∀ m, m ≠ n → (refresh n s).marks.get m = s.marks.get m) ∧
      (s.modeOf n = .absent ∨ s.modeOf n = .lost → (refresh n s).marks.get n = Marks.all) := by
  refine ⟨fun p hp => ?_, fun m ne => ?_, fun gone => ?_⟩
  · cases p <;> first | exact absurd (by decide) hp | simp [Part.same]
  · unfold refresh
    cases s.modeOf n <;> simp [holdEntries, setStation, markStation, ne]
  · unfold refresh
    rcases gone with gone | gone <;> simp [gone, setStation, markStation]

/-- The vehicle is brought up to date by the arrival of a cell of its own station alone, where that was not Live
(R96). -/
theorem refresh_vehicleView_eq_iff {n : Station} {s : State} (h : s.modeOf n ≠ .disabled) :
    (refresh n s).vehicleView = s.vehicleView ↔ s.vehicleStation ≠ some n ∨ s.modeOf n = .live := by
  have mode : (refresh n s).modeOf n = .live := by simp [State.modeOf, refresh_stations h]
  constructor
  · intro same
    by_contra other
    push Not at other
    obtain ⟨station, notLive⟩ := other
    rw [vehicleView_of_station (t := refresh n s) (by simp) station, mode,
      vehicleView_of_station (t := s) rfl station] at same
    exact notLive (Option.some_inj.mp same).symm
  · intro stays
    refine vehicleView_congr (by simp) fun m station => ?_
    by_cases same : m = n
    · subst same
      rw [mode, stays.resolve_left (not_not.mpr station)]
    · exact refresh_modeOf_of_ne same s

theorem arrive_of_same {n : Station} {s : State} (h : (refresh n s).vehicleView = s.vehicleView) :
    arrive n s = resolveIf (decide (s.modeOf n = .quiet)) (refresh n s) := if_pos h

/-- Verified or not, the vehicle's doors stand with the arrival of a cell (R96). -/
theorem arrive_parts {n : Station} {s : State} (h : s.modeOf n ≠ .disabled) (g : Group) :
    ChangesOnly (.vehicle :: resolutionParts) (refresh n s) (arrive n s) ∧ MarkStands g (refresh n s) (arrive n s) := by
  by_cases same : (refresh n s).vehicleView = s.vehicleView
  · rw [arrive_of_same same]
    exact ⟨(resolveIf_changesOnly _ _).mono (by decide), .resolveIf _ _⟩
  · have station : s.vehicleStation = some n := by
      by_contra other
      exact same ((refresh_vehicleView_eq_iff h).mpr (.inl other))
    have live : (refresh n s).vehicleView = some .live := by
      rw [vehicleView_of_station (t := refresh n s) (by simp) station]
      simp [State.modeOf, refresh_stations h]
    exact settleVehicle_of_doors _ _ (by rw [live]; rfl) g

theorem resolveIf_marks (b : Bool) (s : State) : MarksChangeOnly [.plan, .conditions] s (resolveIf b s) := by
  rcases resolveIf_cases b s with ⟨-, eq⟩ | ⟨-, eq⟩ <;> rw [eq]
  · exact (resolve_resolved s).marks
  · exact fun _ _ _ => rfl

/-- Settles O9. -/
theorem idleCellRefreshesItsStation : Obligations.IdleCellRefreshesItsStation := by
  intro n s hr
  have on := modeOf_ne_disabled_of_receives hr
  obtain ⟨refreshed, others, all⟩ := refresh_parts n s
  have stations : (arrive n s).stations = s.stations.set n ⟨.live, 0⟩ := by rw [arrive_stations, refresh_stations on]
  have heard : ChangesOnly [.loop] (arrive n s) (setWindow n (.taken 0x00#8 none) (arrive n s)) :=
    setLine_changesOnly _ _ _
  refine ⟨_, exec_idle_of_receives hr, stations, ?_, ?_, fun gone => ?_, fun station quiet => ?_, fun same => ?_,
    fun other quiet => ?_, fun live => ?_, ?_⟩
  · show (arrive n s).table = _
    rw [← refresh_table]
    simp [arrive]
  · simp [LineBecomes, setWindow, setLine]
  · refine Marks.eq_all fun g => (arrive_parts on g).2 n ?_
    rw [all gone]
    cases g <;> rfl
  · have view : ¬(refresh n s).vehicleView = s.vehicleView := fun same =>
      ((refresh_vehicleView_eq_iff on).mp same).elim (fun other => other station) fun live => quiet live
    show (arrive n s).vehicle = _
    rw [arrive, settleVehicle_vehicle, if_neg view, vehicleView_of_station (t := refresh n s) (by simp) station]
    simp [State.modeOf, refresh_stations on, Vehicle.follow, Vehicle.verify]
  · have eq := arrive_of_same ((refresh_vehicleView_eq_iff on).mpr same)
    refine ⟨?_, fun m g apart => ?_⟩
    · show (arrive n s).vehicle = _
      rw [eq]
      simp
    · show ((arrive n s).marks.get m).get g = _
      by_cases own : m = n
      · subst own
        simp
      · have kept : ((arrive n s).marks.get m).get g = ((refresh n s).marks.get m).get g := by
          rw [eq]
          exact resolveIf_marks _ _ m g apart
        rw [kept, others m own]
        simp [own]
  · have eq := arrive_of_same ((refresh_vehicleView_eq_iff on).mpr (.inl other))
    rw [decide_eq_true quiet] at eq
    have placed : refresh n s = (s.setStations (arrive n s).stations).setTable (arrive n s).table := by
      simp [refresh, quiet, eq, resolveIf, holdEntries, setStation]
    have resolved : Resolved (refresh n s) (arrive n s) := by
      rw [eq]
      exact resolve_resolved _
    rw [placed] at resolved
    exact resolved.setLoop _
  · have eq := arrive_of_same ((refresh_vehicleView_eq_iff on).mpr (.inr live))
    have placed : arrive n s = setStation n ⟨.live, 0⟩ s := by simp [eq, live, resolveIf, refresh]
    rw [placed] at heard ⊢
    refine ChangesOnly.trans (fun p hp => ?_) (heard.mono (by decide))
    cases p <;> first | rfl | exact absurd (by decide) hp
  · have settled := (arrive_parts on .plan).1
    exact (refreshed.mono (by decide)).trans ((settled.mono (by decide)).trans (heard.mono (by decide)))

/-! ## Quiet and Lost -/

theorem quietDue_iff (s : State) (n : Station) : s.quietDue n = true ↔
    s.modeOf n = .live ∧ s.settings.quietWindow ≤ (s.stations.get n).silence := by
  simp [State.quietDue]

theorem lostDue_iff (s : State) (n : Station) : s.lostDue n = true ↔
    s.modeOf n = .quiet ∧ s.settings.lostWindow ≤ (s.stations.get n).silence := by
  simp [State.lostDue]

theorem settleVehicle_self (turn : Turn) (s : State) : settleVehicle turn false s s = s := if_pos rfl

theorem enterQuiet_eq (n : Station) (s : State) : enterQuiet n s =
    (s.setStations (s.stations.set n ⟨.quiet, (s.stations.get n).silence⟩)).setTable
      (s.table.map fun e => if e.station = n then { e with held := true } else e) := rfl

/-- The mode of a station at its own change of state, and of the others. -/
theorem modeOf_of_stations {s t : State} {n : Station} {r : StationState} (h : t.stations = s.stations.set n r)
    (m : Station) : t.modeOf m = if m = n then r.mode else s.modeOf m := by
  rw [State.modeOf, h, PerStation.get_set]
  split <;> rfl

/-- An entry to Quiet as it leaves the part (R5, R96). -/
theorem enterQuiet_settled (turn : Turn) {n : Station} {s : State} (live : s.modeOf n = .live) :
    let t := settleVehicle turn true s (enterQuiet n s)
    (s.vehicleStation = some n → t.vehicle = s.vehicle.verify false) ∧
    (s.vehicleStation ≠ some n → Resolved (enterQuiet n s) t) ∧
    ChangesOnly (.vehicle :: resolutionParts) (enterQuiet n s) t := by
  intro t
  have modes := modeOf_of_stations (t := enterQuiet n s) (n := n) rfl
  have settings : (enterQuiet n s).settings = s.settings := by simp
  have own (station : s.vehicleStation = some n) : (enterQuiet n s).vehicleView = some .quiet := by
    rw [vehicleView_of_station settings station, modes, if_pos rfl]
  have other (station : s.vehicleStation ≠ some n) : (enterQuiet n s).vehicleView = s.vehicleView := by
    refine vehicleView_congr settings fun m hm => ?_
    rw [modes, if_neg fun same : m = n => station (same ▸ hm)]
  refine ⟨fun station => ?_, fun station => ?_, ?_⟩
  · have moved : ¬(enterQuiet n s).vehicleView = s.vehicleView := by
      rw [own station, vehicleView_of_station (t := s) rfl station, live]
      simp
    show (settleVehicle turn true s (enterQuiet n s)).vehicle = _
    rw [settleVehicle_vehicle, if_neg moved, own station]
    simp [Vehicle.follow]
  · have eq : t = resolve (enterQuiet n s) := if_pos (other station)
    rw [eq]
    exact resolve_resolved _
  · by_cases station : s.vehicleStation = some n
    · exact (settleVehicle_of_doors turn true (by rw [own station]; rfl) .plan).1
    · have eq : t = resolve (enterQuiet n s) := if_pos (other station)
      rw [eq]
      exact (resolve_resolved _).parts.mono (by decide)

theorem settleVehicle_parts (turn : Turn) (trigger : Bool) (before s : State) :
    ChangesOnly (.vehicle :: .purge :: resolutionParts) s (settleVehicle turn trigger before s) := fun p hp => by
  cases p <;> first | exact absurd (by decide) hp | simp [Part.same]

theorem dropStation_parts (n : Station) (s : State) :
    ChangesOnly [.table, .buffers, .trend, .loop] s (dropStation n s) := fun p hp => by
  cases p <;> first | exact absurd (by decide) hp | simp [Part.same]

/-- What an entry to Lost takes from its station (R6). -/
theorem enterLost_drops (n : Station) (s : State) :
    (enterLost n s).stations = s.stations.set n ⟨.lost, 0⟩ ∧
    (enterLost n s).table = s.table.filter (fun e => decide (e.station ≠ n)) ∧
    (enterLost n s).buffers = s.buffers.set n none ∧ (enterLost n s).trend = s.trend.without n ∧
    ChangesOnly [.stations, .table, .buffers, .trend, .loop] s (enterLost n s) := by
  have set : ChangesOnly [.stations] s (setStation n ⟨.lost, 0⟩ s) := fun p hp => by
    cases p <;> first | rfl | exact absurd (by decide) hp
  exact ⟨by simp [enterLost, setStation], dropStation_table n _, dropStation_buffers n _, dropStation_trend n _,
    (set.mono (by decide)).trans ((dropStation_parts n _).mono (by decide))⟩

/-- The vehicle of a state after an entry to Lost (R96, R97). -/
theorem enterLost_settled (turn : Turn) {n : Station} {s : State} (quiet : s.modeOf n = .quiet) :
    let t := settleVehicle turn true s (enterLost n s)
    (s.vehicleStation = some n → t.vehicle = (s.vehicle.verify false).forceClose) ∧
    (s.vehicleStation ≠ some n → t = resolve (enterLost n s)) := by
  intro t
  have modes := modeOf_of_stations (enterLost_drops n s).1
  have settings : (enterLost n s).settings = s.settings := by simp
  refine ⟨fun station => ?_, fun station => if_pos (vehicleView_congr settings fun m hm => ?_)⟩
  · have view : (enterLost n s).vehicleView = some .lost := by
      rw [vehicleView_of_station settings station, modes, if_pos rfl]
    have moved : ¬(enterLost n s).vehicleView = s.vehicleView := by
      rw [view, vehicleView_of_station (t := s) rfl station, quiet]
      simp
    show (settleVehicle turn true s (enterLost n s)).vehicle = _
    rw [settleVehicle_vehicle, if_neg moved, view]
    simp [Vehicle.follow]
  · rw [modes, if_neg fun same : m = n => station (same ▸ hm)]

/-- Settles O13. -/
theorem silentStationGoesQuietThenLost : Obligations.SilentStationGoesQuietThenLost := by
  intro n turn s
  refine ⟨⟨_, rfl, fun short => ?_, fun live due => ?_⟩, ⟨_, rfl, fun short => ?_, fun quiet due => ?_⟩⟩
  · have no : s.quietDue n = false := Bool.eq_false_iff.mpr (mt (quietDue_iff s n).mp short)
    rw [quietStep, no]
    exact settleVehicle_self _ _
  · have yes := (quietDue_iff s n).mpr ⟨live, due⟩
    rw [quietStep, yes, if_pos rfl]
    obtain ⟨own, other, parts⟩ := enterQuiet_settled .resolverFirst live
    have stations : (settleVehicle .resolverFirst true s (enterQuiet n s)).stations = (enterQuiet n s).stations := by simp
    have table : (settleVehicle .resolverFirst true s (enterQuiet n s)).table = (enterQuiet n s).table := by simp
    have entered : ChangesOnly [.stations, .table] s (enterQuiet n s) := fun p hp => by
      cases p <;> first | exact absurd (by decide) hp | rfl
    refine ⟨stations, table, own, fun station => ?_, (entered.mono (by decide)).trans (parts.mono (by decide))⟩
    rw [stations, table]
    exact other station
  · have no : s.lostDue n = false := Bool.eq_false_iff.mpr (mt (lostDue_iff s n).mp short)
    rw [lostOne, lostStep, no]
    exact settleVehicle_self _ _
  · have yes := (lostDue_iff s n).mpr ⟨quiet, due⟩
    rw [lostOne, lostStep, yes, if_pos rfl]
    obtain ⟨own, other⟩ := enterLost_settled turn quiet
    obtain ⟨stations, table, buffers, trend, parts⟩ := enterLost_drops n s
    have settled := settleVehicle_parts turn true s (enterLost n s)
    refine ⟨(settled .stations (by decide)).trans stations, (settled .table (by decide)).trans table,
      (settled .buffers (by decide)).trans buffers, (settled .trend (by decide)).trans trend, fun station => ?_,
      fun station => ?_, (parts.mono (by decide)).trans (settled.mono (by decide))⟩
    · rw [own station]
      exact ⟨rfl, fun d => by simp [Vehicle.forceClose]⟩
    · rw [other station]
      simp

/-! ## Station Restart -/

/-- A request served changes what its rules change, and the window that it was heard in. -/
theorem windowed_changesOnly {ps : List Part} {n : Station} {s u : State} {w0 w1 : Window} (h : ChangesOnly ps s u) :
    ChangesOnly (.loop :: ps) (setWindow n w0 s) (setWindow n w1 u) := by
  have before : ChangesOnly [.loop] (setWindow n w0 s) s := fun p hp => by
    cases p <;> first | rfl | exact absurd (by decide) hp
  refine (before.mono ?_).trans ((h.mono ?_).trans ((setLine_changesOnly _ _ u).mono ?_)) <;> simp +contextual

theorem windowed_current {n : Station} {w : Window} {u : State} (h : PlanCurrent u) : PlanCurrent (setWindow n w u) :=
  h.follow .of_kept

/-- Settles O14. -/
theorem restartClearsItsStation : Obligations.RestartClearsItsStation := by
  intro n s hr
  have row := exec_of_takeCell (c := .stationRestart n) (serve := serveRestart n) rfl hr (anyClass_allows _)
  set u := markStation n (setDetached n false (dropStation n (arrive n s))) with hu
  have served : (serveRestart n (arrive n s)).state = resolveIf (decide (0 < (arrive n s).entriesOf n)) u := rfl
  have dropped := dropStation_parts n (arrive n s)
  have cleared : ChangesOnly [.marks, .detached] (dropStation n (arrive n s)) u := fun p hp => by
    cases p <;> first | rfl | exact absurd (by decide) hp
  have parts := (dropped.mono (qs := [.table, .buffers, .trend, .loop, .marks, .detached]) (by decide)).trans
    (cleared.mono (by decide))
  have station : (arrive n s).stations.get n = ⟨.live, 0⟩ := by
    simp [refresh_stations (modeOf_ne_disabled_of_receives hr)]
  have reset : ChangesOnly resolutionParts u (serveRestart n (arrive n s)).state := resolveIf_changesOnly _ _
  refine ⟨_, _, exec_idle_of_receives hr, row, setWindow_window _ _ _, ?_, ?_, ?_, ?_, ?_, ?_, fun none => ?_,
    fun own => ?_, ?_⟩
  · have same : (serveRestart n (arrive n s)).state.stations = (arrive n s).stations :=
      (reset .stations (by decide)).trans (parts .stations (by decide))
    show ((serveRestart n (arrive n s)).state.stations.get n).mode = _ ∧
      ((serveRestart n (arrive n s)).state.stations.get n).silence = _
    rw [same, station]
    exact ⟨rfl, rfl⟩
  · exact (reset .table (by decide)).trans (dropStation_table n _)
  · exact (reset .buffers (by decide)).trans (dropStation_buffers n _)
  · exact (reset .trend (by decide)).trans (dropStation_trend n _)
  · refine (reset .detached (by decide)).trans ?_
    simp [hu, markStation, setDetached]
  · refine Marks.eq_all fun g => (MarkStands.resolveIf _ u : MarkStands g u _) n ?_
    simp only [hu, markStation, State.setMarks_marks, PerStation.get_set, if_pos]
    cases g <;> rfl
  · have empty : ¬0 < (arrive n s).entriesOf n := fun some =>
      have ⟨e, mem, station⟩ := entriesOf_pos_iff.mp some
      none e mem station
    have table : u.table = (arrive n s).table :=
      (dropStation_table n _).trans (List.filter_eq_self.mpr fun e mem => decide_eq_true (none e mem))
    have unchanged : ChangesOnly [.buffers, .trend, .loop, .marks, .detached] (arrive n s) u := fun p hp => by
      by_cases moved : p = .table
      · rw [moved]
        exact table
      · exact parts p (by simp_all)
    rw [served, decide_eq_false empty]
    exact (windowed_changesOnly unchanged).mono (by decide)
  · rw [served, decide_eq_true (entriesOf_pos_iff.mpr own : 0 < (arrive n s).entriesOf n)]
    exact windowed_current (resolve_resolved u).current
  · have all : ChangesOnly (.table :: .loop :: .buffers :: .trend :: .detached :: resolutionParts) (arrive n s)
        (serveRestart n (arrive n s)).state := (parts.mono (by decide)).trans (reset.mono (by decide))
    exact (windowed_changesOnly all).mono (by decide)

end Sys2Proof.Machine
end

section
/-! Events at the drives: the condition that follows them with its one trigger, and the rows of the blowers (O43, O44). -/

namespace Sys2Proof.Machine

open Sys2Proof

/-! ## What other blocks hand to the drives -/

protected theorem Retargeted.refl (a : ActuatorState) : Retargeted a a := ⟨[], rfl⟩

protected theorem Retargeted.trans {a b c : ActuatorState} : Retargeted a b → Retargeted b c → Retargeted a c
  | ⟨ts, hb⟩, ⟨us, hc⟩ => ⟨ts ++ us, by rw [List.foldl_append, ← hb, hc]⟩

/-- From `s` to `t` the drives are handed targets and no more: the blowers keep all but their targets and the actuators
take new ones (R26, R136, R151). Only the conditions `cs` change, and no mark but a Conditions mark is cleared (R179). -/
structure Handed (cs : List Condition) (s t : State) : Prop where
  blowers : BlowersKeepAllButTargets s t
  actuators : ∀ a, Retargeted (s.actuators.get a) (t.actuators.get a)
  conditions : ConditionsChangeOnly cs s t
  marks : ∀ g, g ≠ .conditions → MarkStands g s t

namespace Handed

variable {cs : List Condition} {s t u : State}

protected theorem refl (cs : List Condition) (s : State) : Handed cs s s :=
  ⟨fun _ => rfl, fun _ => .refl _, fun _ _ => rfl, fun g _ => .refl g s⟩

protected theorem trans (h : Handed cs s t) (h' : Handed cs t u) : Handed cs s u where
  blowers b := by rw [h'.blowers b, h.blowers b]
  actuators a := (h.actuators a).trans (h'.actuators a)
  conditions := h.conditions.trans h'.conditions
  marks g hg := (h.marks g hg).trans (h'.marks g hg)

theorem of_kept (blowers : t.blowers = s.blowers := by simp) (actuators : t.actuators = s.actuators := by simp)
    (conditions : ConditionsChangeOnly cs s t := by exact fun _ _ => rfl)
    (marks : ∀ g, g ≠ .conditions → MarkStands g s t := by exact fun _ _ => .of_marks) : Handed cs s t where
  blowers b := by rw [blowers]
  actuators a := by rw [actuators]; exact .refl _
  conditions := conditions
  marks := marks

protected theorem setCondition {c : Condition} (hc : c ∈ cs) (v : Bool) (s : State) :
    Handed cs s (setCondition c v s) :=
  of_kept (conditions := fun d hd => by rw [setCondition_get, if_neg fun eq : d = c => hd (eq ▸ hc)])
    (marks := fun _ _ => .setCondition c v s)

protected theorem markAll (g : Group) (s : State) : Handed cs s (markAll g s) :=
  of_kept (conditions := fun _ _ => by simp) (marks := fun _ _ => .markAll g s)

protected theorem withRegulator (r : Regulator) (s : State)
    (hcs : ∀ c ∈ [.holdShortfall, .coUnderSeal], c ∈ cs := by decide) : Handed cs s (withRegulator r s) where
  blowers b := by
    rw [withRegulator_blowers]
    cases b <;> rfl
  actuators a := by
    simp only [withRegulator_kept]
    exact .refl _
  conditions := (withRegulator_handedOn r s).conditions.mono hcs
  marks _ _ := .withRegulator r s

protected theorem resolve (s : State) (hcs : ∀ c ∈ [.holdShortfall, .coUnderSeal], c ∈ cs := by decide) :
    Handed cs s (resolve s) where
  blowers := (resolve_resolved s).blowers
  actuators a := by
    rcases resolve_cases s with ⟨-, eq⟩ | ⟨-, eq⟩ <;> rw [eq]
    · simpa using Retargeted.refl _
    · refine ⟨[(formPlan (updateHeater s)).actuatorTargets.get a], ?_⟩
      simp [handOver_actuators, install]
  conditions := (resolve_resolved s).conditions.mono hcs
  marks _ _ := .resolve s

protected theorem resolveIf (b : Bool) (s : State) (hcs : ∀ c ∈ [.holdShortfall, .coUnderSeal], c ∈ cs := by decide) :
    Handed cs s (resolveIf b s) := by
  rcases resolveIf_cases b s with ⟨-, eq⟩ | ⟨-, eq⟩ <;> rw [eq]
  · exact .resolve s hcs
  · exact .refl cs s

end Handed

/-- A step of the Purge Controller hands the drives nothing (R82). -/
theorem PurgeStep.handed {cs : List Condition} {s t : State} (h : PurgeStep s t)
    (hcs : .purgeIncomplete ∈ cs := by decide) : Handed cs s t :=
  .of_kept (h.parts .blowers (by decide)) (h.parts .actuators (by decide))
    (h.conditions.mono fun c hc => by
      rw [List.mem_singleton.mp hc]
      exact hcs)
    fun _ apart => .of_marksChangeOnly h.marks (by simpa using apart)

/-- The conditions that the vehicle and the purge share out (R84, R98), and those of a resolution. -/
def sharedConditions : List Condition := [.vehicleUnverified, .purgeIncomplete, .holdShortfall, .coUnderSeal]

namespace Handed

variable {s t u : State}

protected theorem purgeEvent {f : State → State} (h : PurgeStep s (f s)) :
    Handed sharedConditions s (purgeEvent f s) := by
  rcases purgeEvent_cases h with ⟨step, -⟩ | eq
  · exact step.handed
  · rw [eq]
    exact (h.handed.trans (.markAll _ _)).trans (.resolve _)

protected theorem putVehicle (v : Vehicle) (s : State) : Handed sharedConditions s (putVehicle v s) :=
  (of_kept (t := markAll .vehicle (s.setVehicle v)) (conditions := fun _ _ => by simp)
    (marks := fun _ _ => (MarkStands.of_marks (t := s.setVehicle v)).trans (.markAll _ _))).trans
    (.setCondition (by decide) _ _)

protected theorem handPurge (before : PerDoor Bool) (crew : Bool) (s : State) :
    Handed sharedConditions s (handPurge before crew s) := by
  refine .purgeEvent (PurgeStep.trans ?_ (.purgeDoors _ _))
  cases crew
  · exact .refl s
  · exact .crewReturn s

protected theorem handOnVehicle (turn : Turn) (trigger crew : Bool) (v : Vehicle) (s : State) :
    Handed sharedConditions s (handOnVehicle turn trigger crew v s) := by
  unfold Machine.handOnVehicle
  split
  · exact (of_kept (t := s.setVehicle v)).trans (.resolveIf _ _)
  · have put := Handed.putVehicle v s
    cases turn with
    | resolverFirst => exact ((put.trans (.resolve _)).trans (.withRegulator _ _)).trans (.handPurge _ _ _)
    | purgeFirst => exact ((put.trans (.withRegulator _ _)).trans (.handPurge _ _ _)).trans (.resolve _)

protected theorem settleVehicle (turn : Turn) (trigger : Bool) (before s : State) :
    Handed sharedConditions s (settleVehicle turn trigger before s) := by
  unfold Machine.settleVehicle
  split
  · exact .resolveIf _ _
  · exact .handOnVehicle _ _ _ _ _

end Handed

/-! ## A condition settled with its trigger -/

/-- From `u` to `t` a condition is brought to `v`, with the one trigger where that changed it (R124, R144, R156). -/
structure ConditionSettled (c : Condition) (v : Bool) (u t : State) : Prop where
  parts : ChangesOnly resolutionParts u t
  holds : t.conditions.get c = v
  marks : MarksChangeOnly [.plan, .conditions] u t
  handed : Handed [c, .holdShortfall, .coUnderSeal] u t
  same : u.conditions.get c = v → t = u
  calm : PlanCurrent u → c ∉ planConditions → ChangesOnly [.resolver, .conditions, .alert, .marks] u t

/-- A resolution under a current plan installs none (R23, R45). -/
theorem resolve_of_current {s : State} (h : PlanCurrent s) : resolve s = updateHeater s := by
  refine resolve_of_same ?_
  rw [(SeesSame.updateHeater s).formPlan]
  exact h.symm

theorem conditionSettled {c : Condition} (hc : c ∉ [Condition.holdShortfall, .coUnderSeal]) (v : Bool) {g : Conditions}
    {u : State} (before : u.conditions = g) :
    ConditionSettled c v u (resolveIf (decide ((setCondition c v u).conditions ≠ g)) (setCondition c v u)) := by
  obtain ⟨get, kept, -, marks, parts⟩ := setCondition_spec c v u
  subst before
  by_cases same : u.conditions.get c = v
  · have eq : resolveIf (decide ((setCondition c v u).conditions ≠ u.conditions)) (setCondition c v u) = u := by
      rw [kept same]
      simp [resolveIf]
    rw [eq]
    exact ⟨.refl _ _, same, fun _ _ _ => rfl, .refl _ _, fun _ => rfl, fun _ _ => .refl _ _⟩
  · have moved : (setCondition c v u).conditions ≠ u.conditions := fun eq =>
      same (((get c).symm.trans (by rw [eq])).symm.trans (if_pos rfl))
    have eq : resolveIf (decide ((setCondition c v u).conditions ≠ u.conditions)) (setCondition c v u) =
        resolve (setCondition c v u) := by
      rw [decide_eq_true moved]
      rfl
    have resolved := resolve_resolved (setCondition c v u)
    rw [eq]
    refine ⟨(parts.mono (by decide)).trans resolved.parts, ?_, (marks.mono (by decide)).trans resolved.marks,
      (Handed.setCondition List.mem_cons_self v u).trans (.resolve _ fun d hd => List.mem_cons_of_mem c hd),
      fun eq => absurd eq same, fun current apart => ?_⟩
    · rw [resolved.conditions c hc, get, if_pos rfl]
    · rw [resolve_of_current (current.follow (.setCondition apart v u))]
      exact (parts.mono (by decide)).trans ((updateHeater_changesOnly _).mono (by decide))

/-! ## An event at the blowers -/

theorem anyLatched_congr {s t : State} (h : ∀ b, (t.blowers.get b).protection = (s.blowers.get b).protection) :
    t.anyLatched = s.anyLatched := by
  simp [State.anyLatched, h]

/-- What an event at the blowers does (R144, R147). -/
structure BlowersMoved (bs : PerBlower BlowerState) (s t : State) : Prop where
  blowers : ∀ b, t.blowers.get b = { bs.get b with target := (t.blowers.get b).target }
  fault : t.conditions.motorFault = true ↔ ∃ b, (t.blowers.get b).protection = .latched
  marked : (∃ b, BlowerState.reported (s.blowers.get b) (bs.get b) = true) → MarkedAll .movers t
  stands : ∀ g, g ≠ .conditions → MarkStands g s t
  actuators : ∀ a, Retargeted (s.actuators.get a) (t.actuators.get a)
  parts : ChangesOnly resolutionParts s t
  conditions : ConditionsChangeOnly [.motorFault, .holdShortfall, .coUnderSeal] s t
  marks : MarksChangeOnly [.movers, .plan, .conditions] s t
  quiet : t.conditions.motorFault = s.conditions.motorFault →
    ChangesOnly [.blowers, .marks] s t ∧ t.blowers = bs ∧ MarksChangeOnly [.movers] s t
  still : t.conditions.motorFault = s.conditions.motorFault →
    (∀ b, BlowerState.reported (s.blowers.get b) (bs.get b) = false) → t = s.setBlowers bs
  calm : PlanCurrent s → t.blowers = bs ∧ ChangesOnly [.blowers, .resolver, .conditions, .alert, .marks] s t

theorem blowerEvent_moved (bs : PerBlower BlowerState) (s : State) : BlowersMoved bs s (blowerEvent bs s) := by
  set reported := Blower.all.any fun b => BlowerState.reported (s.blowers.get b) (bs.get b) with hr
  set u := markAllIf reported .movers (s.setBlowers bs) with hu
  have before : u.conditions = s.conditions := by simp [hu]
  have settled : ConditionSettled .motorFault u.anyLatched u (blowerEvent bs s) :=
    conditionSettled (by decide) u.anyLatched before
  have moved : ChangesOnly [.blowers, .marks] s u := fun p hp => by
    cases p <;> first | exact absurd (by decide) hp | simp [hu, Part.same]
  have stands (g : Group) : MarkStands g s u :=
    (MarkStands.of_marks (t := s.setBlowers bs)).trans (.markAllIf reported .movers _)
  have marks : MarksChangeOnly [.movers] s u := by
    cases h : reported
    · simp only [hu, h]
      exact fun _ _ _ => rfl
    · simp only [hu, h]
      exact (markAll_spec .movers (s.setBlowers bs)).2.1
  have blowers : u.blowers = bs := by simp [hu]
  have motor (t : State) : t.conditions.motorFault = t.conditions.get .motorFault := rfl
  have unmoved : (blowerEvent bs s).conditions.motorFault = s.conditions.motorFault → blowerEvent bs s = u := fun same => by
    refine settled.same ?_
    rw [before, ← settled.holds]
    exact same.symm
  refine ⟨fun b => ?_, ?_, fun some => ?_, fun g apart => (stands g).trans (settled.handed.marks g apart), fun a => ?_,
    (moved.mono (by decide)).trans settled.parts, fun c hc => ?_, (marks.mono (by decide)).trans
    (settled.marks.mono (by decide)), fun same => ?_, fun same none => ?_,
    fun current => ?_⟩
  · have kept := settled.handed.blowers b
    rwa [blowers] at kept
  · rw [motor, settled.holds, ← anyLatched_iff]
    rw [← anyLatched_congr fun b => by rw [settled.handed.blowers b]]
  · obtain ⟨b, hb⟩ := some
    have yes : reported = true := List.any_eq_true.mpr ⟨b, Blower.mem_all b, hb⟩
    refine MarkedAll.stand (s := u) ?_ (settled.handed.marks .movers (by decide)) (settled.parts .stations (by decide))
    simp only [hu, yes]
    exact (markAll_spec .movers _).1
  · have kept : u.actuators = s.actuators := by simp [hu]
    rw [← kept]
    exact settled.handed.actuators a
  · rw [settled.handed.conditions c hc, before]
  · rw [unmoved same]
    exact ⟨moved, blowers, marks⟩
  · have no : reported = false := by simpa [hr] using fun b _ => none b
    rw [unmoved same]
    simp [hu, no, markAllIf]
  · have calm := settled.calm (current.follow (Follows.of_kept (t := markAllIf reported .movers (s.setBlowers bs)))) (by decide)
    exact ⟨(calm .blowers (by decide)).trans blowers, (moved.mono (by decide)).trans (calm.mono (by decide))⟩

/-- An event at one blower (R144, R147). -/
theorem oneBlower_becomes {b : Blower} {r : BlowerState} {s : State} {marked : Prop}
    (reports : marked → BlowerState.reported (s.blowers.get b) r = true) :
    BlowerBecomes b r marked s (oneBlower b r s) := by
  have moved := blowerEvent_moved (s.blowers.set b r) s
  refine ⟨?_, fun b' ne => ?_, moved.fault, fun yes => moved.marked ⟨b, ?_⟩, moved.parts, moved.conditions, moved.marks,
    fun same => ?_⟩
  · have own := moved.blowers b
    rwa [PerBlower.get_set, if_pos rfl] at own
  · have other := moved.blowers b'
    rwa [PerBlower.get_set, if_neg ne] at other
  · simpa using reports yes
  · obtain ⟨parts, blowers, -⟩ := moved.quiet same
    refine ⟨parts, ?_⟩
    show ((blowerEvent (s.blowers.set b r) s).blowers.get b).target = _
    rw [blowers]
    simp

/-- Motor Fault stands as the Latched blowers have it (R144). -/
def MotorOwned (s : State) : Prop := s.conditions.motorFault = true ↔ ∃ b, (s.blowers.get b).protection = .latched

/-- An event that latches and clears no blower leaves Motor Fault, and with it the plan (R144). -/
theorem BlowersMoved.unlatched {bs : PerBlower BlowerState} {s t : State} (h : BlowersMoved bs s t) (owned : MotorOwned s)
    (latches : ∀ b, (bs.get b).protection = .latched ↔ (s.blowers.get b).protection = .latched) :
    t.conditions.motorFault = s.conditions.motorFault := by
  unfold MotorOwned at owned
  rw [Bool.eq_iff_iff, h.fault, owned]
  refine exists_congr fun b => ?_
  rw [h.blowers b]
  exact latches b

theorem reported_self (r : BlowerState) : BlowerState.reported r r = false := by
  cases h : r.window <;> simp [BlowerState.reported, h]

/-- An event that changes no blower changes nothing. -/
theorem oneBlower_self {s : State} (owned : MotorOwned s) (b : Blower) : oneBlower b (s.blowers.get b) s = s := by
  have moved := blowerEvent_moved s.blowers s
  have same := moved.unlatched owned fun _ => Iff.rfl
  rw [oneBlower, PerBlower.set_get_self, moved.still same fun b => reported_self _]
  rfl

theorem trip_eq_tripped (r : BlowerState) (k : TripKind) : r.trip k = tripped r k := by
  unfold BlowerState.trip tripped
  by_cases four : 3 ≤ r.trips
  · simp [four]
  · simp [four]

theorem tripped_reported {r : BlowerState} (running : r.protection = .running) (k : TripKind) :
    BlowerState.reported r (tripped r k) = true := by
  have stops : r.protection ≠ (tripped r k).protection := by
    rw [running, tripped]
    split <;> simp
  simp [BlowerState.reported, stops]

/-- SHORT_TRIP at a blower with a running short timer (R138). -/
theorem shortTrip_eq {b : Blower} {s : State} {k : Nat} (running : (s.blowers.get b).protection = .running)
    (timer : (s.blowers.get b).shortTimer = some k) :
    shortTrip b s = oneBlower b (tripped ((elapse (s.settings.shortTime - k) s).blowers.get b) .short)
      (elapse (s.settings.shortTime - k) s) := by
  have left : (s.blowers.get b).shortLeft s.settings.shortTime = s.settings.shortTime - k := by
    rw [BlowerState.shortLeft, timer]
  have blower := (elapse_spec (s.settings.shortTime - k) s).2.1 b
  have due : (((elapse (s.settings.shortTime - k) s).blowers.get b).protection = .running ∧
      ((elapse (s.settings.shortTime - k) s).blowers.get b).shortTimer.any
        fun t => decide (s.settings.shortTime ≤ t)) := by
    rw [blower]
    refine ⟨running, ?_⟩
    simp only [timer, Option.map_some, Option.any_some, decide_eq_true_eq]
    omega
  dsimp only [shortTrip]
  rw [left, BlowerState.shortStep, if_pos due, trip_eq_tripped]

theorem overloadDue_iff (r : BlowerState) (time : Nat) : r.overloadDue time = true ↔
    r.protection = .running ∧ ∃ k, r.overloadTimer = some k ∧ 10 * time ≤ k := by
  simp [BlowerState.overloadDue, Option.any_eq_true]

/-- Settles O43. -/
theorem tripsStopTheBlower : Obligations.TripsStopTheBlower := by
  intro b s owned
  obtain ⟨-, -, -, motor, -⟩ := owned
  refine ⟨fun k running timer => ?_, fun idle => if_neg ?_, fun k running timer due => ?_, fun idle => ?_⟩
  · have row : exec (.shortTrip b) s = .next (shortTrip b s) := if_pos ⟨running, by rw [timer]; rfl⟩
    obtain ⟨clock, blowers, parts⟩ := elapse_spec (s.settings.shortTime - k) s
    rw [shortTrip_eq running timer] at row
    refine ⟨_, row, _, parts, clock, blowers, oneBlower_becomes fun _ => tripped_reported ?_ _⟩
    rw [blowers]
    exact running
  · rintro ⟨running, timer⟩
    rcases idle with stopped | none
    · exact stopped running
    · simp [none] at timer
  · refine ⟨_, rfl, ?_⟩
    rw [BlowerState.overloadStep, if_pos ((overloadDue_iff _ _).mpr ⟨running, k, timer, due⟩), trip_eq_tripped]
    exact oneBlower_becomes fun _ => tripped_reported running _
  · have short : ¬(s.blowers.get b).overloadDue s.settings.overloadTime = true := by
      rw [overloadDue_iff]
      rintro ⟨running, k, timer, due⟩
      rcases idle with stopped | none | ⟨k', timer', early⟩
      · exact stopped running
      · simp [none] at timer
      · simp only [timer, Option.some.injEq] at timer'
        omega
    refine congrArg Host.Outcome.next ?_
    rw [BlowerState.overloadStep, if_neg short]
    exact oneBlower_self motor b

/-! ## The cooldown and the trip window -/

theorem cooldownDue_iff (r : BlowerState) : r.cooldownDue = true ↔
    r.protection = .tripped ∧ ∃ k, r.cooldown = some k ∧ 200 ≤ k := by
  simp [BlowerState.cooldownDue, Option.any_eq_true]

theorem windowDue_iff (r : BlowerState) : r.windowDue = true ↔ ∃ k, r.window = some k ∧ 6000 ≤ k := by
  simp [BlowerState.windowDue, Option.any_eq_true]

/-- A return to Running, its detectors judged afresh (R141, R143). -/
theorem resume_eq (r : BlowerState) (short overload : Nat) : r.resume short overload =
    { r with
      protection := .running, cooldown := none, shortTimer := freshTimer r.current short,
      overloadTimer := freshTimer r.current overload } := rfl

/-- An event at one blower that latches and clears none: the blower alone changes, and the Movers marks (R147). -/
theorem oneBlower_quiet {b : Blower} {r : BlowerState} {s : State} (owned : MotorOwned s)
    (latches : r.protection = .latched ↔ (s.blowers.get b).protection = .latched)
    (reports : BlowerState.reported (s.blowers.get b) r = true) :
    (oneBlower b r s).blowers.get b = r ∧ (∀ b', b' ≠ b → (oneBlower b r s).blowers.get b' = s.blowers.get b') ∧
      MarkedAll .movers (oneBlower b r s) ∧ MarksChangeOnly [.movers] s (oneBlower b r s) ∧
      ChangesOnly [.blowers, .marks] s (oneBlower b r s) := by
  have moved : BlowersMoved (s.blowers.set b r) s (oneBlower b r s) := blowerEvent_moved (s.blowers.set b r) s
  have same := moved.unlatched owned fun b' => by
    rw [PerBlower.get_set]
    split
    · next eq => rw [eq]; exact latches
    · exact Iff.rfl
  obtain ⟨parts, blowers, marks⟩ := moved.quiet same
  refine ⟨by simp [blowers], fun b' ne => by simp [blowers, ne], moved.marked ⟨b, by simpa using reports⟩, marks, parts⟩

/-- Settles O44. -/
theorem cooldownAndWindowRunOut : Obligations.CooldownAndWindowRunOut := by
  intro b s owned
  obtain ⟨-, -, -, motor, -⟩ := owned
  refine ⟨fun k tripped timer due => ⟨_, rfl, ?_⟩, fun idle => congrArg Host.Outcome.next ?_,
    fun k timer due => ⟨_, rfl, ?_⟩, fun idle => congrArg Host.Outcome.next ?_⟩
  · rw [BlowerState.cooldownStep, if_pos ((cooldownDue_iff _).mpr ⟨tripped, k, timer, due⟩), resume_eq]
    refine oneBlower_quiet motor ?_ ?_ <;> simp [tripped, BlowerState.reported]
  · have short : ¬(s.blowers.get b).cooldownDue = true := by
      rw [cooldownDue_iff]
      rintro ⟨tripped, k, timer, due⟩
      rcases idle with other | none | ⟨k', timer', early⟩
      · exact other tripped
      · simp [none] at timer
      · simp only [timer, Option.some.injEq] at timer'
        omega
    rw [BlowerState.cooldownStep, if_neg short]
    exact oneBlower_self motor b
  · rw [BlowerState.windowStep, if_pos ((windowDue_iff _).mpr ⟨k, timer, due⟩)]
    exact oneBlower_quiet motor Iff.rfl (by simp [timer, BlowerState.reported])
  · have short : ¬(s.blowers.get b).windowDue = true := by
      rw [windowDue_iff]
      rintro ⟨k, timer, due⟩
      rcases idle with none | ⟨k', timer', early⟩
      · simp [none] at timer
      · simp only [timer, Option.some.injEq] at timer'
        omega
    rw [BlowerState.windowStep, if_neg short]
    exact oneBlower_self motor b

end Sys2Proof.Machine
end

section
/-! Events at the actuators, their rows, and CLEAR_LATCHES (O46, and the rows of O47). -/

namespace Sys2Proof.Machine

open Sys2Proof

/-! ## Actuators handed targets -/

/-- A Stuck actuator only notes a target (R151). -/
theorem ActuatorState.takeTarget_of_stuck {a : ActuatorState} (h : a.motion = .stuck) (t : Nat) :
    a.takeTarget t = { a with target := t } := by
  unfold takeTarget
  split
  · next same => rw [← same]
  · split
    · rfl
    · rw [h]

theorem Retargeted.stuck_iff {a b : ActuatorState} (h : Retargeted a b) : b.motion = .stuck ↔ a.motion = .stuck := by
  obtain ⟨ts, rfl⟩ := h
  induction ts generalizing a with
  | nil => rfl
  | cons t ts ih => exact ih.trans (a.takeTarget_stuck t)

theorem Retargeted.of_stuck {a b : ActuatorState} (h : Retargeted a b) (stuck : a.motion = .stuck) :
    b = { a with target := b.target } := by
  obtain ⟨ts, rfl⟩ := h
  induction ts generalizing a with
  | nil => rfl
  | cons t ts ih =>
    rw [List.foldl_cons, a.takeTarget_of_stuck stuck]
    exact ih stuck

/-! ## An event at the actuators -/

/-- What an event at the actuators does (R156, R159). -/
structure ActuatorsMoved (as : PerActuator ActuatorState) (s t : State) : Prop where
  actuators : ∀ a, Retargeted (as.get a) (t.actuators.get a)
  stuck : t.conditions.actuatorStuck = true ↔ ∃ a, (t.actuators.get a).motion = .stuck
  marked : (∃ a, ActuatorState.reported (s.actuators.get a) (as.get a) = true) → MarkedAll .movers t
  stands : ∀ g, g ≠ .conditions → MarkStands g s t
  blowers : BlowersKeepAllButTargets s t
  parts : ChangesOnly resolutionParts s t
  conditions : ConditionsChangeOnly [.actuatorStuck, .holdShortfall, .coUnderSeal] s t
  quiet : t.conditions.actuatorStuck = s.conditions.actuatorStuck →
    ChangesOnly [.actuators, .marks] s t ∧ t.actuators = as ∧ MarksChangeOnly [.movers] s t
  still : t.conditions.actuatorStuck = s.conditions.actuatorStuck →
    (∀ a, ActuatorState.reported (s.actuators.get a) (as.get a) = false) → t = s.setActuators as
  calm : PlanCurrent s → t.actuators = as ∧ ChangesOnly [.actuators, .resolver, .conditions, .alert, .marks] s t

theorem actuatorEvent_moved (as : PerActuator ActuatorState) (s : State) :
    ActuatorsMoved as s (actuatorEvent as s) := by
  set reported := ActuatorId.all.any fun a => ActuatorState.reported (s.actuators.get a) (as.get a) with hr
  set u := markAllIf reported .movers (s.setActuators as) with hu
  have before : u.conditions = s.conditions := by simp [hu]
  have settled : ConditionSettled .actuatorStuck u.anyStuck u (actuatorEvent as s) :=
    conditionSettled (by decide) u.anyStuck before
  have moved : ChangesOnly [.actuators, .marks] s u := fun p hp => by
    cases p <;> first | exact absurd (by decide) hp | simp [hu, Part.same]
  have stands (g : Group) : MarkStands g s u :=
    (MarkStands.of_marks (t := s.setActuators as)).trans (.markAllIf reported .movers _)
  have marks : MarksChangeOnly [.movers] s u := by
    cases h : reported
    · simp only [hu, h]
      exact fun _ _ _ => rfl
    · simp only [hu, h]
      exact (markAll_spec .movers (s.setActuators as)).2.1
  have actuators : u.actuators = as := by simp [hu]
  have stuck (t : State) : t.conditions.actuatorStuck = t.conditions.get .actuatorStuck := rfl
  have unmoved (same : (actuatorEvent as s).conditions.actuatorStuck = s.conditions.actuatorStuck) :
      actuatorEvent as s = u := by
    refine settled.same ?_
    rw [before, ← settled.holds]
    exact same.symm
  have followed (a : ActuatorId) := settled.handed.actuators a
  refine ⟨fun a => ?_, ?_, fun some => ?_, fun g apart => (stands g).trans (settled.handed.marks g apart), fun b => ?_,
    (moved.mono (by decide)).trans settled.parts, fun c hc => ?_, fun same => ?_, fun same none => ?_,
    fun current => ?_⟩
  · have kept := followed a
    rwa [actuators] at kept
  · rw [stuck, settled.holds, anyStuck_iff]
    exact exists_congr fun a => (followed a).stuck_iff.symm
  · obtain ⟨a, ha⟩ := some
    have yes : reported = true := List.any_eq_true.mpr ⟨a, ActuatorId.mem_all a, ha⟩
    refine MarkedAll.stand (s := u) ?_ (settled.handed.marks .movers (by decide)) (settled.parts .stations (by decide))
    simp only [hu, yes]
    exact (markAll_spec .movers _).1
  · have kept : u.blowers = s.blowers := by simp [hu]
    rw [← kept]
    exact settled.handed.blowers b
  · rw [settled.handed.conditions c hc, before]
  · rw [unmoved same]
    exact ⟨moved, actuators, marks⟩
  · have no : reported = false := by simpa [hr] using fun a _ => none a
    rw [unmoved same]
    simp [hu, no, markAllIf]
  · have calm := settled.calm
      (current.follow (Follows.of_kept (t := markAllIf reported .movers (s.setActuators as)))) (by decide)
    exact ⟨(calm .actuators (by decide)).trans actuators, (moved.mono (by decide)).trans (calm.mono (by decide))⟩

/-- Actuator Stuck stands as the Stuck actuators have it (R156). -/
def StuckOwned (s : State) : Prop := s.conditions.actuatorStuck = true ↔ ∃ a, (s.actuators.get a).motion = .stuck

/-- An event that makes no actuator Stuck and frees none leaves Actuator Stuck, and with it the plan (R156). -/
theorem ActuatorsMoved.unstuck {as : PerActuator ActuatorState} {s t : State} (h : ActuatorsMoved as s t)
    (owned : StuckOwned s) (sticks : ∀ a, (as.get a).motion = .stuck ↔ (s.actuators.get a).motion = .stuck) :
    t.conditions.actuatorStuck = s.conditions.actuatorStuck := by
  unfold StuckOwned at owned
  rw [Bool.eq_iff_iff, h.stuck, owned]
  exact exists_congr fun a => (h.actuators a).stuck_iff.trans (sticks a)

theorem ActuatorState.reported_self (a : ActuatorState) : a.reported a = false := by
  cases h : a.motion <;> simp [ActuatorState.reported, h]

theorem oneActuator_self {s : State} (owned : StuckOwned s) (x : ActuatorId) :
    oneActuator x (s.actuators.get x) s = s := by
  have moved := actuatorEvent_moved s.actuators s
  have same := moved.unstuck owned fun _ => Iff.rfl
  rw [oneActuator, PerActuator.set_get_self, moved.still same fun a => ActuatorState.reported_self _]
  rfl

/-- An event at one actuator that makes none Stuck and frees none: the actuator alone changes, and the Movers marks where
it reports (R159). -/
theorem oneActuator_quiet {x : ActuatorId} {r : ActuatorState} {s : State} (owned : StuckOwned s)
    (sticks : r.motion = .stuck ↔ (s.actuators.get x).motion = .stuck) :
    (oneActuator x r s).actuators.get x = r ∧
      (∀ y, y ≠ x → (oneActuator x r s).actuators.get y = s.actuators.get y) ∧
      (ActuatorState.reported (s.actuators.get x) r = true → MarkedAll .movers (oneActuator x r s)) ∧
      MarksChangeOnly [.movers] s (oneActuator x r s) ∧ ChangesOnly [.actuators, .marks] s (oneActuator x r s) ∧
      (ActuatorState.reported (s.actuators.get x) r = false → ChangesOnly [.actuators] s (oneActuator x r s)) := by
  have moved : ActuatorsMoved (s.actuators.set x r) s (oneActuator x r s) :=
    actuatorEvent_moved (s.actuators.set x r) s
  have same := moved.unstuck owned fun y => by
    rw [PerActuator.get_set]
    split
    · next eq => rw [eq]; exact sticks
    · exact Iff.rfl
  obtain ⟨parts, actuators, marks⟩ := moved.quiet same
  refine ⟨by simp [actuators], fun y ne => by simp [actuators, ne], fun reports => moved.marked ⟨x, by simpa using reports⟩,
    marks, parts, fun silent => ?_⟩
  rw [moved.still same fun y => ?_]
  · intro p hp
    cases p <;> first | rfl | exact absurd (by decide) hp
  · rw [PerActuator.get_set]
    split
    · next eq => rw [eq]; exact silent
    · exact ActuatorState.reported_self _

/-! ## The rows of the actuators -/

theorem stallDue_iff (a : ActuatorState) : a.stallDue = true ↔ a.motion = .moving ∧ 150 ≤ a.stallTimer := by
  simp [ActuatorState.stallDue]

theorem driveToward_eq (target position : Nat) :
    driveToward target position = if position < target then .opening else .closing := rfl

theorem reversalDue_iff (a : ActuatorState) :
    (a.motion = .reversing ∧ (a.reversal.any fun t => decide (10 ≤ t)) = true) ↔
      a.motion = .reversing ∧ ∃ k, a.reversal = some k ∧ 10 ≤ k := by
  simp [Option.any_eq_true]

theorem waitDue_iff (a : ActuatorState) :
    (a.motion = .stalled ∧ (a.stallWait.any fun t => decide (500 ≤ t)) = true) ↔
      a.motion = .stalled ∧ ∃ k, a.stallWait = some k ∧ 500 ≤ k := by
  simp [Option.any_eq_true]

/-- The end of a reversal: rest within the band, else a new move with the retry as it was (R153). -/
theorem reversalStep_of_due {a : ActuatorState} (h : a.motion = .reversing ∧ ∃ k, a.reversal = some k ∧ 10 ≤ k) :
    (a.AtTarget → a.reversalStep = a.restsAt) ∧ (¬a.AtTarget → a.reversalStep = a.movesOff a.retryUsed) := by
  rw [ActuatorState.reversalStep, if_pos ((reversalDue_iff a).mpr h)]
  exact ⟨fun near => if_pos ((nearTarget_iff _ _).mpr near), fun far => if_neg (mt (nearTarget_iff _ _).mp far)⟩

theorem reversalStep_of_not_due {a : ActuatorState}
    (h : ¬(a.motion = .reversing ∧ ∃ k, a.reversal = some k ∧ 10 ≤ k)) : a.reversalStep = a :=
  if_neg (mt (reversalDue_iff a).mp h)

/-- The end of a stall wait: rest within the band, else the retry (R154). -/
theorem waitStep_of_due {a : ActuatorState} (h : a.motion = .stalled ∧ ∃ k, a.stallWait = some k ∧ 500 ≤ k) :
    (a.AtTarget → a.waitStep = a.restsAt) ∧ (¬a.AtTarget → a.waitStep = a.movesOff true) := by
  rw [ActuatorState.waitStep, if_pos ((waitDue_iff a).mpr h)]
  exact ⟨fun near => if_pos ((nearTarget_iff _ _).mpr near), fun far => if_neg (mt (nearTarget_iff _ _).mp far)⟩

theorem waitStep_of_not_due {a : ActuatorState}
    (h : ¬(a.motion = .stalled ∧ ∃ k, a.stallWait = some k ∧ 500 ≤ k)) : a.waitStep = a :=
  if_neg (mt (waitDue_iff a).mp h)

/-- ACTUATOR_STALL (R152, R156, R159). -/
theorem actuatorStall_row (x : ActuatorId) {s : State} (owned : StuckOwned s) :
    let a := s.actuators.get x
    (a.motion = .moving → 150 ≤ a.stallTimer → a.retryUsed = false →
      ∃ t, exec (.actuatorStall x) s = .next t ∧ t.actuators.get x = a.stalls ∧
        (∀ y, y ≠ x → t.actuators.get y = s.actuators.get y) ∧
        MarkedAll .movers t ∧ MarksChangeOnly [.movers] s t ∧ ChangesOnly [.actuators, .marks] s t) ∧
    (a.motion = .moving → 150 ≤ a.stallTimer → a.retryUsed = true →
      ∃ t, exec (.actuatorStall x) s = .next t ∧
        t.actuators.get x = { a.sticks .stall with target := (t.actuators.get x).target } ∧
        t.conditions.actuatorStuck = true ∧ MarkedAll .movers t ∧ ChangesOnly resolutionParts s t) ∧
    (¬(a.motion = .moving ∧ 150 ≤ a.stallTimer) → exec (.actuatorStall x) s = .next s) := by
  intro a
  refine ⟨fun moving due fresh => ⟨_, rfl, ?_⟩, fun moving due used => ⟨_, rfl, ?_⟩, fun short => ?_⟩
  · have step : a.stallStep = a.stalls := by
      rw [ActuatorState.stallStep, if_pos ((stallDue_iff a).mpr ⟨moving, due⟩), if_neg (by simp [fresh])]
      rfl
    obtain ⟨own, others, marked, marks, parts, -⟩ := oneActuator_quiet (r := a.stalls) owned
      (iff_of_false (by simp [ActuatorState.stalls]) (by rw [show (s.actuators.get x).motion = _ from moving]; simp))
    rw [step]
    refine ⟨own, others, marked ?_, marks, parts⟩
    simp [ActuatorState.reported, ActuatorState.stalls, show (s.actuators.get x).motion = _ from moving]
  · have step : a.stallStep = a.sticks .stall := by
      rw [ActuatorState.stallStep, if_pos ((stallDue_iff a).mpr ⟨moving, due⟩), used]
      rfl
    have moved := actuatorEvent_moved (s.actuators.set x (a.sticks .stall)) s
    have own := moved.actuators x
    rw [PerActuator.get_set, if_pos rfl] at own
    rw [step]
    refine ⟨own.of_stuck rfl, moved.stuck.mpr ⟨x, own.stuck_iff.mpr rfl⟩, moved.marked ⟨x, ?_⟩, moved.parts⟩
    rw [PerActuator.get_set, if_pos rfl]
    simp [ActuatorState.reported, ActuatorState.sticks, show (s.actuators.get x).motion = _ from moving]
  · refine congrArg Host.Outcome.next ?_
    rw [ActuatorState.stallStep, if_neg (mt (stallDue_iff _).mp short)]
    exact oneActuator_self owned x

/-- REVERSAL_END (R153). -/
theorem reversalEnd_row (x : ActuatorId) {s : State} (owned : StuckOwned s) :
    let a := s.actuators.get x
    (∀ k, a.motion = .reversing → a.reversal = some k → 10 ≤ k →
      ∃ t, exec (.reversalEnd x) s = .next t ∧ (a.AtTarget → t.actuators.get x = a.restsAt) ∧
        (¬a.AtTarget → t.actuators.get x = a.movesOff a.retryUsed) ∧
        (∀ y, y ≠ x → t.actuators.get y = s.actuators.get y) ∧ ChangesOnly [.actuators] s t) ∧
    (¬(a.motion = .reversing ∧ ∃ k, a.reversal = some k ∧ 10 ≤ k) → exec (.reversalEnd x) s = .next s) := by
  intro a
  refine ⟨fun k reversing timer due => ⟨_, rfl, ?_⟩, fun short => congrArg Host.Outcome.next ?_⟩
  · obtain ⟨near, far⟩ := reversalStep_of_due (a := a) ⟨reversing, k, timer, due⟩
    have motion : (s.actuators.get x).motion = .reversing := reversing
    have ends : (a.reversalStep.motion = .still ∨ a.reversalStep.motion = .moving) := by
      by_cases band : a.AtTarget
      · exact .inl (by rw [near band]; rfl)
      · exact .inr (by rw [far band]; rfl)
    obtain ⟨own, others, -, -, -, parts⟩ := oneActuator_quiet (r := a.reversalStep) (x := x) owned (by
      rw [motion]
      rcases ends with ends | ends <;> simp [ends])
    refine ⟨fun band => own.trans (near band), fun band => own.trans (far band), others, parts ?_⟩
    rcases ends with ends | ends <;> simp [ActuatorState.reported, motion, ends]
  · rw [show (s.actuators.get x).reversalStep = _ from reversalStep_of_not_due short]
    exact oneActuator_self owned x

/-- STALL_WAIT_END (R154, R159). -/
theorem stallWaitEnd_row (x : ActuatorId) {s : State} (owned : StuckOwned s) :
    let a := s.actuators.get x
    (∀ k, a.motion = .stalled → a.stallWait = some k → 500 ≤ k →
      ∃ t, exec (.stallWaitEnd x) s = .next t ∧
        (a.AtTarget → t.actuators.get x = a.restsAt ∧ ChangesOnly [.actuators] s t) ∧
        (¬a.AtTarget → t.actuators.get x = a.movesOff true ∧ MarkedAll .movers t) ∧
        (∀ y, y ≠ x → t.actuators.get y = s.actuators.get y) ∧
        MarksChangeOnly [.movers] s t ∧ ChangesOnly [.actuators, .marks] s t) ∧
    (¬(a.motion = .stalled ∧ ∃ k, a.stallWait = some k ∧ 500 ≤ k) → exec (.stallWaitEnd x) s = .next s) := by
  intro a
  refine ⟨fun k stalled timer due => ⟨_, rfl, ?_⟩, fun short => congrArg Host.Outcome.next ?_⟩
  · obtain ⟨near, far⟩ := waitStep_of_due (a := a) ⟨stalled, k, timer, due⟩
    have motion : (s.actuators.get x).motion = .stalled := stalled
    have ends : (a.waitStep.motion = .still ∨ a.waitStep.motion = .moving) := by
      by_cases band : a.AtTarget
      · exact .inl (by rw [near band]; rfl)
      · exact .inr (by rw [far band]; rfl)
    obtain ⟨own, others, marked, marks, moved, parts⟩ := oneActuator_quiet (r := a.waitStep) (x := x) owned (by
      rw [motion]
      rcases ends with ends | ends <;> simp [ends])
    refine ⟨fun band => ⟨own.trans (near band), parts ?_⟩, fun band => ⟨own.trans (far band), marked ?_⟩, others, marks,
      moved⟩
    · rw [near band]
      simp [ActuatorState.reported, motion, ActuatorState.restsAt]
    · rw [far band]
      simp [ActuatorState.reported, motion, ActuatorState.movesOff]
  · rw [show (s.actuators.get x).waitStep = _ from waitStep_of_not_due short]
    exact oneActuator_self owned x

/-! ## Clear Latches -/

/-- A Latched blower cleared and every other as it was (R143). -/
theorem clearLatch_of_latched {r : BlowerState} (h : r.protection = .latched) (short overload : Nat) :
    r.clearLatch short overload = { r with
      protection := .running, cooldown := none, trips := 0, window := none,
      shortTimer := freshTimer r.current short, overloadTimer := freshTimer r.current overload } := if_pos h

theorem clearLatch_of_not_latched {r : BlowerState} (h : r.protection ≠ .latched) (short overload : Nat) :
    r.clearLatch short overload = r := if_neg h

theorem clearLatch_protection (r : BlowerState) (short overload : Nat) :
    (r.clearLatch short overload).protection ≠ .latched := by
  by_cases h : r.protection = .latched
  · rw [clearLatch_of_latched h]
    simp
  · rwa [clearLatch_of_not_latched h]

theorem clearStuck_motion (a : ActuatorState) : a.clearStuck.motion ≠ .stuck := by
  unfold ActuatorState.clearStuck
  split
  · unfold ActuatorState.fromStill
    split <;> simp [ActuatorState.start]
  · assumption

/-- A Stuck actuator cleared: Still with its retry back, or off to its target (R151, R155). -/
theorem clearStuck_of_stuck {a : ActuatorState} (h : a.motion = .stuck) :
    let r := a.clearStuck
    r.target = a.target ∧ r.position = a.position ∧ r.lastFault = a.lastFault ∧ r.retryUsed = false ∧
    r.stallRef = r.position ∧ r.stallTimer = 0 ∧ r.reversal = none ∧ r.stallWait = none ∧
    (r.target ≤ r.position + 2 ∧ r.position ≤ r.target + 2 → r.motion = .still ∧ r.drive = .off) ∧
    (r.position + 2 < r.target → r.motion = .moving ∧ r.drive = .opening) ∧
    (r.target + 2 < r.position → r.motion = .moving ∧ r.drive = .closing) := by
  rw [ActuatorState.clearStuck, if_pos h, ActuatorState.fromStill]
  split
  · next near =>
    have band := (nearTarget_iff _ _).mp near
    dsimp only at band ⊢
    refine ⟨rfl, rfl, rfl, rfl, rfl, rfl, rfl, rfl, fun _ => ⟨rfl, rfl⟩, fun above => ?_, fun below => ?_⟩ <;> omega
  · next far =>
    have outside := mt (nearTarget_iff _ _).mpr far
    dsimp only [ActuatorState.start] at outside ⊢
    refine ⟨rfl, rfl, rfl, rfl, rfl, rfl, rfl, rfl, fun near => absurd near outside, fun above => ⟨rfl, ?_⟩,
      fun below => ⟨rfl, ?_⟩⟩
    · exact if_pos (by omega)
    · exact if_neg (by omega)

/-- The clearing as it leaves the part (R143, R144, R155, R156). -/
structure LatchesCleared (s t : State) : Prop where
  blowers : ∀ b, t.blowers.get b = { (s.blowers.get b).clearLatch s.settings.shortLevel (s.settings.overloadLevel.get b)
    with target := (t.blowers.get b).target }
  actuators : t.plan = s.plan → ∀ x, t.actuators.get x = (s.actuators.get x).clearStuck
  motor : t.conditions.motorFault = false
  stuck : t.conditions.actuatorStuck = false
  marked : 0 < s.latchedCount + s.stuckCount → MarkedAll .movers t
  parts : ChangesOnly resolutionParts s t
  conditions : ConditionsChangeOnly [.motorFault, .actuatorStuck, .holdShortfall, .coUnderSeal] s t

theorem clearLatches_cleared (s : State) : LatchesCleared s (clearLatches s) := by
  set m := decide (0 < s.latchedCount + s.stuckCount) with hm
  set u := markAllIf m .movers (clearMovers s) with hu
  set v := updateActuatorStuck (updateMotorFault u) with hv
  have eq : clearLatches s = resolveIf (decide (v.conditions ≠ s.conditions)) v := rfl
  have blowers (b : Blower) : v.blowers.get b =
      (s.blowers.get b).clearLatch s.settings.shortLevel (s.settings.overloadLevel.get b) := by
    simp [hv, hu, updateActuatorStuck, updateMotorFault, clearMovers]
  have actuators (x : ActuatorId) : v.actuators.get x = (s.actuators.get x).clearStuck := by
    simp [hv, hu, updateActuatorStuck, updateMotorFault, clearMovers]
  have before : u.conditions = s.conditions := by simp [hu, clearMovers]
  have latched : u.anyLatched = false := Bool.eq_false_iff.mpr fun some => by
    obtain ⟨b, hb⟩ := (anyLatched_iff u).mp some
    refine clearLatch_protection _ _ _ ((congrArg BlowerState.protection (blowers b)).symm.trans ?_)
    simpa [hv, updateActuatorStuck, updateMotorFault] using hb
  have stuck : (updateMotorFault u).anyStuck = false := Bool.eq_false_iff.mpr fun some => by
    obtain ⟨x, hx⟩ := (anyStuck_iff _).mp some
    refine clearStuck_motion _ ((congrArg ActuatorState.motion (actuators x)).symm.trans ?_)
    simpa [hv, updateActuatorStuck] using hx
  have conditions (c : Condition) : v.conditions.get c =
      if c = .actuatorStuck ∨ c = .motorFault then false else s.conditions.get c := by
    rw [hv, updateActuatorStuck, setCondition_get, stuck, updateMotorFault, setCondition_get, latched, before]
    split_ifs <;> simp_all
  have settled := resolveIf_changesOnly (decide (v.conditions ≠ s.conditions)) v
  have handed : Handed [.holdShortfall, .coUnderSeal] v (clearLatches s) := .resolveIf _ v
  have late := handed.conditions
  have parts : ChangesOnly [.blowers, .actuators, .conditions, .alert, .marks] s v := fun p hp => by
    cases p <;> first
      | exact absurd (by decide) hp
      | simp [hv, hu, Part.same, updateActuatorStuck, updateMotorFault, clearMovers]
  refine ⟨fun b => ?_, fun same x => ?_, ?_, ?_, fun some => ?_, (parts.mono (by decide)).trans settled, fun c hc => ?_⟩
  · rw [← blowers]
    exact handed.blowers b
  · rw [← actuators]
    have kept : (clearLatches s).actuators = v.actuators := by
      rcases resolveIf_cases (decide (v.conditions ≠ s.conditions)) v with ⟨-, resolved⟩ | ⟨-, resolved⟩
      · rw [eq, resolved] at same ⊢
        refine (resolve_resolved v).quiet ?_ .actuators (by decide)
        rw [same, parts .plan (by decide)]
      · rw [eq, resolved]
    rw [kept]
  · show (clearLatches s).conditions.get .motorFault = false
    rw [late _ (by decide), conditions, if_pos (.inr rfl)]
  · show (clearLatches s).conditions.get .actuatorStuck = false
    rw [late _ (by decide), conditions, if_pos (.inl rfl)]
  · have marked : MarkedAll .movers u := by
      rw [hu, hm, decide_eq_true some]
      exact (markAll_spec .movers _).1
    refine MarkedAll.stand (s := v) (marked.stand ?_ (by simp [hv, updateActuatorStuck, updateMotorFault]))
      (handed.marks .movers (by decide))
      (settled .stations (by decide))
    exact (MarkStands.setCondition _ _ _).trans (.setCondition _ _ _)
  · rw [late c (by simp_all), conditions, if_neg (by simp_all)]

/-- Settles O46. -/
theorem clearLatchesRestartsTheMovers : Obligations.ClearLatchesRestartsTheMovers := by
  intro n s hr may
  have row : exec (.clearLatches n) s = .next (takeCell n 0x0A#8 .panelOrService (serveClearLatches n) s) := rfl
  have allowed : Permission.panelOrService.allows (s.slot n).cls = true := (panelOrService_allows _).trans may
  have rank : ((arrive n s).slot n).rank = (s.slot n).rank := by rw [arrive_slot]
  refine ⟨fun low => refused_of_takeCell row hr allowed ?_, fun high => ?_⟩
  · rw [serveClearLatches, rank, if_pos low]
  · have served : serveClearLatches n (arrive n s) = ⟨clearLatches (arrive n s),
        ⟨.done, Word.ofNat (arrive n s).latchedCount, Word.ofNat (arrive n s).stuckCount, 0#16⟩⟩ := by
      rw [serveClearLatches, rank, if_neg (Nat.not_lt_of_le high)]
    have cleared := clearLatches_cleared (arrive n s)
    have loop : (clearLatches (arrive n s)).loop = (arrive n s).loop := cleared.parts .loop (by decide)
    refine handled_of_takeCell row hr allowed (by rw [served]; exact loop) fun l => ?_
    rw [served]
    refine ⟨fun b latched => ?_, fun b other => ?_, fun same x stuck => ?_, fun same x free => ?_, cleared.motor,
      cleared.stuck, ⟨_, _, rfl, rfl, rfl, cleared.marked⟩, fun p hp => ?_, cleared.conditions⟩
    · have latched : ((arrive n s).blowers.get b).protection = .latched := latched
      have blower := cleared.blowers b
      rw [clearLatch_of_latched latched] at blower
      exact blower
    · have other : ((arrive n s).blowers.get b).protection ≠ .latched := other
      have blower := cleared.blowers b
      rw [clearLatch_of_not_latched other] at blower
      exact blower
    · have stuck : ((arrive n s).actuators.get x).motion = .stuck := stuck
      have actuator : (clearLatches (arrive n s)).actuators.get x = ((arrive n s).actuators.get x).clearStuck :=
        cleared.actuators same x
      simp only [State.setLoop_actuators, actuator]
      exact clearStuck_of_stuck stuck
    · exact (cleared.actuators same x).trans (if_neg free)
    · exact cleared.parts.setLoop l p hp

end Sys2Proof.Machine
end

section
/-! Purge requests (O28). -/

namespace Sys2Proof.Machine

open Sys2Proof

/-! ## A change of phase or scope -/

/-- From `u`, a purge whose phase or scope has moved, to `t`, with its mark and its one trigger (R32, R79, R90). -/
structure PurgeMoved (u t : State) : Prop where
  purge : t.purge = u.purge
  current : PlanCurrent t
  marked : MarkedAll .purge t
  parts : ChangesOnly resolutionParts u t
  conditions : ConditionsChangeOnly [.holdShortfall, .coUnderSeal] u t
  marks : MarksChangeOnly [.purge, .plan, .conditions] u t
  version : t.plan.version = if t.plan.body = u.plan.body then u.plan.version else u.plan.version + 1#16

theorem purgeMoved (u : State) : PurgeMoved u (resolve (markAll .purge u)) := by
  obtain ⟨marked, marks, parts⟩ := markAll_spec .purge u
  have on := resolve_resolved (markAll .purge u)
  have conditions : (markAll .purge u).conditions = u.conditions := by simp
  exact
    { purge := by simp
      current := on.current
      marked := marked.of_marksChangeOnly on.marks (by decide) (by simp)
      parts := (parts.mono (by decide)).trans on.parts
      conditions := fun c hc => by rw [on.conditions c hc, conditions]
      marks := (marks.mono (by decide)).trans (on.marks.mono (by decide))
      version := on.version }

theorem purgeEvent_of_moved {f : State → State} {s : State}
    (h : (f s).purge.phase ≠ s.purge.phase ∨ (f s).purge.scope ≠ s.purge.scope) :
    PurgeMoved (f s) (purgeEvent f s) := by
  have eq : purgeEvent f s = resolve (markAll .purge (f s)) :=
    if_neg fun same => h.elim (fun phase => phase same.1) fun scope => scope same.2
  rw [eq]
  exact purgeMoved (f s)

theorem purgeEvent_of_unmoved {f : State → State} {s : State} (phase : (f s).purge.phase = s.purge.phase)
    (scope : (f s).purge.scope = s.purge.scope) : purgeEvent f s = f s := if_pos ⟨phase, scope⟩

/-! ## A start -/

theorem scopeOpen_iff {s : State} {sc : PurgeScope} (h : s.purge.scope = some sc) :
    s.scopeOpen = true ↔ DoorOpenIn sc s := by
  have covers (z : DoorZone) : sc.coversDoor z = true ↔ z = .rear ∨ (sc = .whole ∧ z = .front) := by
    cases sc <;> cases z <;> decide
  simp only [State.scopeOpen, State.scopeOpenIn, h, Option.any_some, List.any_eq_true, Bool.and_eq_true, covers]
  exact ⟨fun ⟨d, _, hd⟩ => ⟨d, hd⟩, fun ⟨d, hd⟩ => ⟨d, Door.mem_all d, hd⟩⟩

/-- The fallback ends no purge whose flushing time is below the Fallback Flush (R88). -/
theorem fallbackTest_of_early {s : State} (h : s.purge.flushing < 100 * s.settings.fallbackFlush) :
    fallbackTest s = s := if_neg fun ⟨_, _, due⟩ => Nat.not_le_of_lt h due

/-- The purge right after a start in a phase (R74). -/
def startedPurge (sc : PurgeScope) (o : Originator) (p : PurgePhase) (s : State) : Purge :=
  ⟨p, some sc, some o, some (purgeTarget s.settings sc), 0, 0, 0, 0, 0, s.purge.last⟩

/-- A purge starts in the phase that the smoke and the doors give, with Purge Incomplete cleared (R74, R84). -/
theorem startPurge_eq (sc : PurgeScope) (o : Originator) {s : State} (h : 0 < s.settings.fallbackFlush) :
    ∃ p, startPurge sc o s = (setCondition .purgeIncomplete false s).setPurge (startedPurge sc o p s) ∧
      (s.conditions.heavySmoke = true → p = .deferred) ∧
      (s.conditions.heavySmoke = false → DoorOpenIn sc s → p = .armed) ∧
      (s.conditions.heavySmoke = false → ¬DoorOpenIn sc s → p = .flushing) := by
  set u := startRecord sc o (setCondition .purgeIncomplete false s) with hu
  have heavy : u.conditions.heavySmoke = s.conditions.heavySmoke := by
    simpa [Conditions.get, hu, startRecord] using setCondition_get .purgeIncomplete .heavySmoke false s
  have opens : u.scopeOpen = true ↔ DoorOpenIn sc s :=
    (scopeOpen_iff (s := u) (sc := sc) rfl).trans (by simp [DoorOpenIn, hu, startRecord])
  refine ⟨u.phaseFor, ?_, fun smoke => ?_, fun clear door => ?_, fun clear shut => ?_⟩
  · show enterPhase u.phaseFor u = _
    rw [enterPhase, fallbackTest_of_early]
    · simp [hu, startRecord, startedPurge, State.setPurge]
    · simpa [hu, startRecord] using h
  · simp [State.phaseFor, heavy, smoke]
  · simp [State.phaseFor, heavy, clear, opens.mpr door]
  · simp [State.phaseFor, heavy, clear, mt opens.mp shut]

/-! ## Purge -/

theorem exec_purge (n : Station) (code : Word) (s : State) :
    exec (.purge n code) s = .next (takeCell n 0x07#8 .panelOrService (servePurge n code) s) := rfl

theorem coversPurge_iff (zone : Scope) (sc : PurgeScope) :
    zone.coversPurge sc = true ↔ zone = .both ∨ (zone = .rear ∧ sc = .rear) := by
  cases zone <;> cases sc <;> decide

theorem purgeScope_ofCode (sc : PurgeScope) : PurgeScope.ofCode (Word.ofNat (PurgeScope.code (some sc))) = some sc := by
  cases sc <;> rfl

/-- A purge started, with its mark and its one trigger (R74, R84). -/
structure PurgeStarts (sc : PurgeScope) (o : Originator) (s t : State) : Prop where
  purge : t.purge = startedPurge sc o t.purge.phase s
  heavy : s.conditions.heavySmoke = true → t.purge.phase = .deferred
  armed : s.conditions.heavySmoke = false → DoorOpenIn sc s → t.purge.phase = .armed
  flushing : s.conditions.heavySmoke = false → ¬DoorOpenIn sc s → t.purge.phase = .flushing
  incomplete : t.conditions.purgeIncomplete = false
  current : PlanCurrent t
  marked : MarkedAll .purge t
  parts : ChangesOnly (.purge :: resolutionParts) s t
  conditions : ConditionsChangeOnly [.purgeIncomplete, .holdShortfall, .coUnderSeal] s t
  marks : MarksChangeOnly [.purge, .plan, .conditions] s t

theorem purgeEvent_startPurge (sc : PurgeScope) (o : Originator) {f : State → State} {s : State}
    (starts : f s = startPurge sc o s) (idle : s.purge.phase = .idle) (flush : 0 < s.settings.fallbackFlush) :
    PurgeStarts sc o s (purgeEvent f s) := by
  obtain ⟨p, start, heavy, armed, flushing⟩ := startPurge_eq sc o flush
  have step := PurgeStep.startPurge sc o s
  rw [← starts] at start step
  have phase : (f s).purge.phase = p := by rw [start]; rfl
  have under : p ≠ .idle := by
    cases smoke : s.conditions.heavySmoke
    · by_cases door : DoorOpenIn sc s
      · simp [armed smoke door]
      · simp [flushing smoke door]
    · simp [heavy smoke]
  have moved : PurgeMoved (f s) (purgeEvent f s) := purgeEvent_of_moved (.inl (by rwa [phase, idle]))
  have ends : (purgeEvent f s).purge.phase = p := by rw [moved.purge, phase]
  refine
    { purge := by rw [ends, moved.purge, start]; rfl
      heavy := fun smoke => ends.trans (heavy smoke)
      armed := fun clear door => ends.trans (armed clear door)
      flushing := fun clear shut => ends.trans (flushing clear shut)
      incomplete := ?_
      current := moved.current
      marked := moved.marked
      parts := (step.parts.mono (by decide)).trans (moved.parts.mono (by decide))
      conditions := (step.conditions.mono (by decide)).trans (moved.conditions.mono (by decide))
      marks := (step.marks.mono (by decide)).trans moved.marks }
  show (purgeEvent f s).conditions.get .purgeIncomplete = false
  rw [moved.conditions .purgeIncomplete (by decide), start]
  exact (setCondition_get .purgeIncomplete .purgeIncomplete false s).trans (if_pos rfl)

/-- A purge widened to Whole, with its mark and its one trigger (R76). -/
theorem purgeEvent_widenPurge {f : State → State} {s : State} (widens : f s = widenPurge s)
    (rear : s.purge.scope = some .rear) : PurgeMoved (widenPurge s) (purgeEvent f s) := by
  have moved : PurgeMoved (f s) (purgeEvent f s) := purgeEvent_of_moved (.inr (by
    rw [widens, rear]
    simp [widenPurge]))
  rwa [widens] at moved

/-- Settles O28. -/
theorem purgeRequestStartsKeepsOrWidens : Obligations.PurgeRequestStartsKeepsOrWidens := by
  intro n code sc s hr may
  have allowed : Permission.panelOrService.allows (s.slot n).cls = true := (panelOrService_allows _).trans may
  have other : (s.slot n).cls ≠ .vehicle := by simpa [mayRequest] using may
  have purge := arrive_purge (n := n) other
  refine ⟨fun one two => refused_of_takeCell (exec_purge n code s) hr allowed ?_, fun names => ⟨fun outside => ?_,
    fun inside => ?_⟩⟩
  · rw [servePurge, PurgeScope.ofCode, if_neg one, if_neg two]
  · have barred : ¬((arrive n s).slot n).scope.coversPurge sc = true := by
      rw [arrive_slot, coversPurge_iff]
      rcases outside with front | ⟨rear, whole⟩
      · simp [front]
      · simp [rear, whole]
    refine refused_of_takeCell (exec_purge n code s) hr allowed ?_
    rw [servePurge, names, purgeScope_ofCode]
    exact if_neg barred
  · have covered : ((arrive n s).slot n).scope.coversPurge sc = true := by rwa [arrive_slot, coversPurge_iff]
    have served : servePurge n code (arrive n s) = ⟨purgeEvent (requestPurge n sc) (arrive n s),
        (purgeEvent (requestPurge n sc) (arrive n s)).purgeAnswer⟩ := by
      rw [servePurge, names, purgeScope_ofCode]
      exact if_pos covered
    have taken {P : State → State → Answer → Prop} (h : ∀ l, P ((arrive n s).setLoop l)
        ((purgeEvent (requestPurge n sc) (arrive n s)).setLoop l)
        (purgeEvent (requestPurge n sc) (arrive n s)).purgeAnswer) : Handled (.purge n code) n 0x07#8 s P :=
      handled_of_takeCell (exec_purge n code s) hr allowed (by rw [served]; simp) fun l => by rw [served]; exact h l
    refine ⟨fun idle flush => taken fun l => ?_, fun under rear whole => taken fun l => ?_,
      fun under kept => taken fun l => ?_⟩
    · have start := purgeEvent_startPurge sc (.station n) (f := requestPurge n sc) (s := arrive n s)
        (if_pos (by rwa [purge])) (by rwa [purge]) (by simpa using flush)
      have target : purgeTarget (arrive n s).settings sc = min 65535 ((arrive n s).settings.purgeChanges *
          (if sc = .whole then (arrive n s).settings.frontVolume + (arrive n s).settings.rearVolume
            else (arrive n s).settings.rearVolume)) := by cases sc <;> rfl
      have record := start.purge
      have scope : (purgeEvent (requestPurge n sc) (arrive n s)).purge.scope = some sc := by rw [record]; rfl
      rw [startedPurge, target] at record
      refine ⟨record, start.heavy, start.armed, start.flushing, start.incomplete,
        start.current.trans (formPlan_setLoop _ l).symm, start.marked, ?_, start.parts.setLoop l, start.conditions,
        start.marks⟩
      rw [State.purgeAnswer, scope]
      rfl
    · have under : (arrive n s).purge.phase ≠ .idle := by rwa [purge]
      have rear : (arrive n s).purge.scope = some .rear := by rwa [purge]
      have moved := purgeEvent_widenPurge (f := requestPurge n sc) (s := arrive n s)
        (by rw [requestPurge, if_neg under, if_pos ⟨rear, whole⟩]) rear
      have scope : (purgeEvent (requestPurge n sc) (arrive n s)).purge.scope = some .whole := by rw [moved.purge]; rfl
      have widened := setPurge_changesOnly (widenPurge (arrive n s)).purge (arrive n s)
      refine ⟨moved.purge, moved.current.trans (formPlan_setLoop _ l).symm, moved.marked, ?_,
        ChangesOnly.setLoop ((widened.mono (by decide)).trans (moved.parts.mono (by decide))) l, moved.conditions,
        moved.marks⟩
      rw [State.purgeAnswer, scope]
      rfl
    · have under : (arrive n s).purge.phase ≠ .idle := by rwa [purge]
      have narrow : ¬((arrive n s).purge.scope = some .rear ∧ sc = .whole) := by
        rw [purge]
        rcases kept with whole | ⟨rear, same⟩
        · simp [whole]
        · simp [same]
      have request : requestPurge n sc (arrive n s) = arrive n s := by rw [requestPurge, if_neg under, if_neg narrow]
      have same : purgeEvent (requestPurge n sc) (arrive n s) = arrive n s := by
        rw [purgeEvent_of_unmoved (by rw [request]) (by rw [request]), request]
      rw [same]
      exact ⟨rfl, rfl⟩

end Sys2Proof.Machine
end

section
/-! The report of the vehicle (O33). -/

namespace Sys2Proof.Machine

open Sys2Proof

/-! ## The record and its words -/

theorem reportedDoors_get (g : Settings) (doors : Word) (d : Door) : (reportedDoors g doors).get d =
    if g.doorMap.get d = .unused then false else doors.getLsbD (d.num - 1) := by
  rw [reportedDoors, PerDoor.get_ofFn]
  split <;> simp_all

/-- Word 1 of the Answer repeats the four fields (R166, R168). -/
theorem fieldsWord_eq {r : VehicleRecord} {fields : Word} (ignition : r.ignition = fields.getLsbD 0)
    (engine : r.engine = fields.getLsbD 1) (pump : r.pump = fields.getLsbD 2) (brake : r.brake = fields.getLsbD 3) :
    Word.ofNat r.fieldsWord = fields &&& 0x000F#16 := by
  have ignitionBit := r.ignition.toNat_le
  have engineBit := r.engine.toNat_le
  have pumpBit := r.pump.toNat_le
  have brakeBit := r.brake.toNat_le
  have mask : ∀ i < 16, (0x000F#16).getLsbD i = decide (i < 4) := by decide
  have small : r.fieldsWord < 2 ^ 4 := by
    simp only [VehicleRecord.fieldsWord, bitAt_eq]
    omega
  refine BitVec.eq_of_getLsbD_eq fun i hi => ?_
  rw [BitVec.getLsbD_and, mask i hi]
  refine getLsbD_ofNat_eq hi ?_
  by_cases field : i < 4
  · rw [decide_eq_true field, Bool.and_true, VehicleRecord.fieldsWord, bitAt_eq, bitAt_eq, bitAt_eq, bitAt_eq]
    interval_cases i
    · rw [← ignition]; omega
    · rw [← engine]; omega
    · rw [← pump]; omega
    · rw [← brake]; omega
  · have above : 2 ^ 4 ≤ 2 ^ i := Nat.pow_le_pow_right (by decide) (Nat.le_of_not_lt field)
    rw [decide_eq_false field, Bool.and_false, Nat.div_eq_of_lt (Nat.lt_of_lt_of_le small above)]
    rfl

/-- Word 2 of the Answer has the bit of each open door (R166, R168). -/
theorem doorsWord_getLsbD (r : VehicleRecord) {i : Nat} (hi : i < 16) :
    (Word.ofNat r.doorsWord).getLsbD i = true ↔ ∃ d : Door, d.num = i + 1 ∧ r.doors.get d = true := by
  have b1 := (r.doors.get .d1).toNat_le
  have b2 := (r.doors.get .d2).toNat_le
  have b3 := (r.doors.get .d3).toNat_le
  have b4 := (r.doors.get .d4).toNat_le
  have b5 := (r.doors.get .d5).toNat_le
  have b6 := (r.doors.get .d6).toNat_le
  have sum : r.doorsWord = (r.doors.get .d1).toNat + 2 * (r.doors.get .d2).toNat + 4 * (r.doors.get .d3).toNat +
      8 * (r.doors.get .d4).toNat + 16 * (r.doors.get .d5).toNat + 32 * (r.doors.get .d6).toNat := by
    simp [VehicleRecord.doorsWord, Door.all, bitAt_eq, Door.num]
    omega
  have digit (d : Door) : (Word.ofNat r.doorsWord).getLsbD (d.num - 1) = r.doors.get d := by
    refine getLsbD_ofNat_eq (by cases d <;> decide) ?_
    rw [sum]
    cases d <;> simp only [Door.num] <;> omega
  by_cases door : i < 6
  · obtain ⟨d, num⟩ : ∃ d : Door, d.num = i + 1 := by
      interval_cases i
      exacts [⟨.d1, rfl⟩, ⟨.d2, rfl⟩, ⟨.d3, rfl⟩, ⟨.d4, rfl⟩, ⟨.d5, rfl⟩, ⟨.d6, rfl⟩]
    have one (d' : Door) (num' : d'.num = i + 1) : d' = d := by
      have same : d'.num = d.num := num'.trans num.symm
      revert same
      cases d <;> cases d' <;> decide
    obtain rfl : i = d.num - 1 := by omega
    rw [digit]
    exact ⟨fun opened => ⟨d, num, opened⟩, fun ⟨d', num', opened⟩ => one d' num' ▸ opened⟩
  · have above : 2 ^ 6 ≤ 2 ^ i := Nat.pow_le_pow_right (by decide) (Nat.le_of_not_lt door)
    have zero : (Word.ofNat r.doorsWord).getLsbD i = false := by
      refine getLsbD_ofNat_eq hi ?_
      rw [sum, Nat.div_eq_of_lt (by omega)]
      rfl
    rw [zero]
    refine iff_of_false (by simp) fun ⟨d, num, _⟩ => ?_
    cases d <;> simp only [Door.num] at num <;> omega

/-! ## A changed record handed on -/

/-- A step of the Purge Controller clears no mark but a Conditions mark (R179). -/
theorem handPurge_markStands {g : Group} (apart : g ≠ .conditions) (before : PerDoor Bool) (crew : Bool) (s : State) :
    MarkStands g s (handPurge before crew s) := by
  have step : PurgeStep s (purgeDoors before (if crew then crewReturn s else s)) := by
    refine PurgeStep.trans ?_ (.purgeDoors _ _)
    cases crew
    · exact .refl s
    · exact .crewReturn s
  have stands := MarkStands.of_marksChangeOnly (g := g) step.marks (by simpa using apart)
  rcases purgeEvent_cases (f := fun t => purgeDoors before (if crew then crewReturn t else t)) step with
    ⟨kept, -⟩ | eq
  · exact .of_marksChangeOnly kept.marks (by simpa using apart)
  · rw [handPurge, eq]
    exact (stands.trans (.markAll _ _)).trans (.resolve _)

/-- A record that changed is marked and a trigger (R99). -/
theorem handOnVehicle_of_ne (turn : Turn) (trigger crew : Bool) {v : Vehicle} {s : State}
    (h : v.record ≠ s.vehicle.record) :
    MarkedAll .vehicle (handOnVehicle turn trigger crew v s) ∧ PlanCurrent (handOnVehicle turn trigger crew v s) := by
  have whichever : handOnVehicle turn trigger crew v s = handOnVehicle turn true crew v s := by
    rw [handOnVehicle, handOnVehicle, if_neg h, if_neg h]
  refine ⟨?_, ?_⟩
  · have put : MarkedAll .vehicle (putVehicle v s) :=
      ((markAll_spec .vehicle (s.setVehicle v)).1).stand (.setCondition _ _ _) (by simp)
    refine put.stand (t := handOnVehicle turn trigger crew v s) ?_ (by simp)
    rw [handOnVehicle, if_neg h]
    cases turn with
    | resolverFirst =>
      exact ((MarkStands.resolve _).trans (.handDoors _)).trans (handPurge_markStands (by decide) _ _ _)
    | purgeFirst =>
      exact ((MarkStands.handDoors _).trans (handPurge_markStands (by decide) _ _ _)).trans (.resolve _)
  · rw [whichever]
    exact Follows.current fun _ => .handOnVehicle turn crew v (.inl rfl)

/-! ## Crew Return -/

theorem closesReturn_iff (s : State) (doors : PerDoor Bool) : s.closesReturn doors = true ↔
    ∃ d k, s.settings.doorMap.get d = .rear ∧ s.vehicle.record.doors.get d = true ∧ doors.get d = false ∧
      s.vehicle.timers.get d = some k ∧ 100 * s.settings.returnTime ≤ k := by
  simp only [State.closesReturn, List.any_eq_true, Bool.and_eq_true, Option.any_eq_true, decide_eq_true_eq,
    Bool.not_eq_true']
  constructor
  · rintro ⟨d, -, ⟨⟨rear, was⟩, now⟩, k, timer, long⟩
    exact ⟨d, k, rear, was, now, timer, long⟩
  · rintro ⟨d, k, rear, was, now, timer, long⟩
    exact ⟨d, Door.mem_all d, ⟨⟨rear, was⟩, now⟩, k, timer, long⟩

theorem rearClosed_iff (g : Settings) (doors : PerDoor Bool) : rearClosed g doors = true ↔
    ∀ d, g.doorMap.get d = .rear → doors.get d = false := by
  simp only [rearClosed, List.all_eq_true, Bool.or_eq_true, decide_eq_true_eq, Bool.not_eq_true', or_iff_not_imp_left,
    not_not]
  exact ⟨fun h d => h d (Door.mem_all d), fun h d _ => h d⟩

theorem crewReturnAt_iff {s : State} {r : VehicleRecord} (verified : r.verified = true) : s.crewReturnAt r = true ↔
    (∃ d k, s.settings.doorMap.get d = .rear ∧ s.vehicle.record.doors.get d = true ∧ r.doors.get d = false ∧
      s.vehicle.timers.get d = some k ∧ 100 * s.settings.returnTime ≤ k) ∧
    (∀ d, s.settings.doorMap.get d = .rear → r.doors.get d = false) ∧ s.plan.body.shelter ≠ .inactive := by
  rw [← closesReturn_iff, ← rearClosed_iff]
  simp [State.crewReturnAt, verified, and_assoc]

/-! ## Vehicle Report -/

/-- Settles O33. -/
theorem reportIsTakenWhole : Obligations.ReportIsTakenWhole := by
  intro n fields doors turn s hr cls
  have on := modeOf_ne_disabled_of_receives hr
  set u := refresh n s with hu
  set r := reportedRecord s.settings fields doors with hrec
  set t := takeReport fields doors turn (decide (s.modeOf n = .quiet)) u with ht
  have row : exec (.vehicleReport n fields doors turn) s =
      .next (setWindow n (.taken 0x0E#8 (some t.reportAnswer)) t) := by
    refine congrArg Host.Outcome.next ?_
    rw [takeVehicleReport, if_pos hr, if_pos (by rw [cls]; rfl)]
    rfl
  have settings : u.settings = s.settings := by simp [hu]
  have seen : u.vehicle = s.vehicle ∧ u.plan = s.plan := by simp [hu]
  obtain ⟨vehicleBefore, planBefore⟩ := seen
  have takes : t = handOnVehicle turn (decide (s.modeOf n = .quiet)) (u.crewReturnAt r) (u.reportedVehicle r) u := by
    rw [ht, takeReport, settings]
  have vehicle : t.vehicle = u.reportedVehicle r := by rw [takes, handOnVehicle_vehicle]
  have record : t.vehicle.record = r := by rw [vehicle]; rfl
  have counts := crewReturnAt_iff (s := u) (r := r) rfl
  rw [settings, vehicleBefore, planBefore] at counts
  have returns : t.vehicle.crewReturns = if u.crewReturnAt r then s.vehicle.crewReturns + 1#8 else s.vehicle.crewReturns := by
    rw [vehicle, ← vehicleBefore]
    rfl
  have loop : t.loop = s.loop := by rw [takes]; simp [hu]
  refine ⟨_, t.reportAnswer, row, ?_, ?_, ?_, ?_, ?_, ?_, ?_, fun d => ?_, fun d => ?_, fun crew => ?_, fun none => ?_,
    rfl, ?_, rfl, fun i hi => ?_, fun same live => ?_, fun differs => ?_, ?_⟩
  · simp [LineBecomes, setWindow, setLine, loop]
  · show t.stations = _
    rw [takes, ← refresh_stations on]
    simp [hu]
  · exact congrArg VehicleRecord.ignition record
  · exact congrArg VehicleRecord.engine record
  · exact congrArg VehicleRecord.pump record
  · exact congrArg VehicleRecord.brake record
  · exact congrArg VehicleRecord.verified record
  · exact (congrArg (fun r : VehicleRecord => r.doors.get d) record).trans (reportedDoors_get _ _ _)
  · show t.vehicle.timers.get d = if t.vehicle.record.doors.get d then _ else none
    rw [record, vehicle]
    simp [State.reportedVehicle, vehicleBefore, reportedTimer]
  · show t.vehicle.crewReturns = _
    have yes : u.crewReturnAt r = true := counts.mpr (record ▸ crew)
    rw [returns, if_pos yes]
  · show t.vehicle.crewReturns = _
    have no : ¬u.crewReturnAt r = true := fun yes => none (record.symm ▸ counts.mp yes)
    rw [returns, if_neg no]
  · show Word.ofNat t.vehicle.record.fieldsWord = _
    rw [record]
    exact fieldsWord_eq rfl rfl rfl rfl
  · exact doorsWord_getLsbD t.vehicle.record hi
  · have same : (u.reportedVehicle r).record = u.vehicle.record := by
      rw [vehicleBefore]
      exact record.symm.trans same
    have quiet : decide (s.modeOf n = .quiet) = false := by simp [live]
    have eq : t = (setStation n ⟨.live, 0⟩ s).setVehicle (u.reportedVehicle r) := by
      rw [takes, handOnVehicle, if_pos same, quiet]
      simp [resolveIf, hu, refresh, live]
    rw [eq]
    intro p hp
    cases p <;> first | rfl | exact absurd (by decide) hp
  · have differs : (u.reportedVehicle r).record ≠ u.vehicle.record := by
      rw [vehicleBefore]
      exact fun same => differs (record.trans same)
    have handed := handOnVehicle_of_ne turn (decide (s.modeOf n = .quiet)) (u.crewReturnAt r) differs
    rw [← takes] at handed
    exact ⟨handed.1, windowed_current handed.2⟩
  · have refreshed := (refresh_parts n s).1
    have handed : ChangesOnly (.vehicle :: .purge :: resolutionParts) u t := fun p hp => by
      rw [takes]
      cases p <;> first | exact absurd (by decide) hp | simp [Part.same]
    have heard : ChangesOnly [.loop] t (setWindow n (.taken 0x0E#8 (some t.reportAnswer)) t) := setLine_changesOnly _ _ _
    exact (refreshed.mono (by decide)).trans ((handed.mono (by decide)).trans (heard.mono (by decide)))

end Sys2Proof.Machine
end

section
/-! Station Supervision at a Frame Mark: what the two rounds over the stations make of each of them (R3, R5, R6, R96). -/

namespace Sys2Proof.Machine

open Sys2Proof

/-! ## One station -/

/-- A station's record after the test for Quiet (R5). -/
def StationState.toQuiet (g : Settings) (r : StationState) : StationState :=
  if r.mode = .live ∧ g.quietWindow ≤ r.silence then { r with mode := .quiet } else r

/-- A station's record after the test for Lost (R6). -/
def StationState.toLost (g : Settings) (r : StationState) : StationState :=
  if r.mode = .quiet ∧ g.lostWindow ≤ r.silence then ⟨.lost, 0⟩ else r

/-- The count and the two tests are the station's whole Frame Mark (R3, R5, R6). -/
theorem supervised_eq (g : Settings) (r : StationState) : supervised g r = (r.advance.toQuiet g).toLost g := by
  obtain ⟨mode, silence⟩ := r
  cases mode <;> simp [supervised, StationState.advance, StationState.toQuiet, StationState.toLost]
  split_ifs <;> simp_all

theorem quietDue_toQuiet (s : State) (n : Station) : s.quietDue n = true ↔
    (s.stations.get n).toQuiet s.settings ≠ s.stations.get n := by
  rw [quietDue_iff]
  unfold StationState.toQuiet State.modeOf
  split
  · next due =>
    refine iff_of_true due fun same => ?_
    have mode := congrArg StationState.mode same
    rw [due.1] at mode
    simp at mode
  · next early => simpa using early

/-! ## A round over stations -/

/-- The part of one station in a round: its change of state, and what that takes with it, and nothing of another
station. -/
theorem quietStep_station (n : Station) (s : State) :
    (quietStep n s).stations = s.stations.set n ((s.stations.get n).toQuiet s.settings) ∧
    (quietStep n s).table = (s.table.map fun e => if e.station = n ∧ s.quietDue n = true then { e with held := true } else e) ∧
    ChangesOnly [.stations, .table] s (quietStep n s) := by
  unfold quietStep
  cases due : s.quietDue n with
  | true =>
    obtain ⟨live, window⟩ := (quietDue_iff s n).mp due
    rw [if_pos rfl, enterQuiet_eq]
    refine ⟨?_, by simp, fun p hp => ?_⟩
    · rw [StationState.toQuiet, if_pos ⟨live, window⟩]
      rfl
    · cases p <;> first | exact absurd (by decide) hp | rfl
  | false =>
    have still := not_imp_comm.mp (quietDue_toQuiet s n).mpr (by simp [due])
    simp [still, ChangesOnly.refl]

/-- One station of the round of R5: its entry to Quiet is settled at once, but where Lost follows at the same mark
(log entry 7). -/
theorem quietOne_eq (turn : Turn) (s : State) (n : Station) : quietOne turn s n =
    if s.quietDue n then
      (if s.settings.lostWindow ≤ (s.stations.get n).silence then enterQuiet n s
        else settleVehicle turn true s (enterQuiet n s))
    else s := by
  unfold quietOne quietStep
  cases due : s.quietDue n with
  | true =>
    have lost : (enterQuiet n s).lostDue n = decide (s.settings.lostWindow ≤ (s.stations.get n).silence) := by
      simp [State.lostDue, State.modeOf, enterQuiet_eq]
    simp only [if_pos, lost, decide_eq_true_eq]
  | false =>
    simp [settleVehicle_self]

theorem lostOne_eq (turn : Turn) (s : State) (n : Station) : lostOne turn s n =
    if s.lostDue n then settleVehicle turn true s (enterLost n s) else s := by
  unfold lostOne lostStep
  cases s.lostDue n with
  | true => simp
  | false => simp [settleVehicle_self]

/-- One station of the round of R5 changes its own record and entries, and what the vehicle's change and the plan's
give. -/
theorem quietOne_station (turn : Turn) (s : State) (n : Station) :
    (quietOne turn s n).stations = s.stations.set n ((s.stations.get n).toQuiet s.settings) ∧
    (quietOne turn s n).table =
      (s.table.map fun e => if e.station = n ∧ s.quietDue n = true then { e with held := true } else e) ∧
    ChangesOnly (.stations :: .table :: .vehicle :: resolutionParts) s (quietOne turn s n) := by
  obtain ⟨stations, table, parts⟩ := quietStep_station n s
  have settled (b : Bool) := settleVehicle_parts turn b s (quietStep n s)
  rw [← stations, ← table]
  refine ⟨?_, ?_, ?_⟩
  · unfold quietOne
    split
    · rfl
    · exact settled _ .stations (by decide)
  · unfold quietOne
    split
    · rfl
    · exact settled _ .table (by decide)
  · rw [quietOne_eq]
    cases due : s.quietDue n with
    | true =>
      rw [quietStep, due, if_pos rfl] at parts
      have live := ((quietDue_iff s n).mp due).1
      rw [if_pos rfl]
      split
      · exact parts.mono (by decide)
      · exact (parts.mono (by decide)).trans ((enterQuiet_settled turn live).2.2.mono (by decide))
    | false => exact .refl _ s

theorem lostOne_station (turn : Turn) (s : State) (n : Station) :
    (lostOne turn s n).stations = s.stations.set n ((s.stations.get n).toLost s.settings) ∧
    (lostOne turn s n).table = (s.table.filter fun e => !(decide (e.station = n) && s.lostDue n)) ∧
    (lostOne turn s n).buffers = (if s.lostDue n then s.buffers.set n none else s.buffers) ∧
    (lostOne turn s n).trend = (if s.lostDue n then s.trend.without n else s.trend) ∧
    ChangesOnly (.stations :: .table :: .buffers :: .trend :: .loop :: .vehicle :: .purge :: resolutionParts) s
      (lostOne turn s n) := by
  rw [lostOne_eq]
  cases due : s.lostDue n with
  | true =>
    obtain ⟨quiet, window⟩ := (lostDue_iff s n).mp due
    obtain ⟨stations, table, buffers, trend, parts⟩ := enterLost_drops n s
    have settled := settleVehicle_parts turn true s (enterLost n s)
    have lost : (s.stations.get n).toLost s.settings = ⟨.lost, 0⟩ := if_pos ⟨quiet, window⟩
    rw [if_pos rfl, lost]
    refine ⟨(settled .stations (by decide)).trans stations, ((settled .table (by decide)).trans table).trans ?_,
      (settled .buffers (by decide)).trans buffers, (settled .trend (by decide)).trans trend,
      (parts.mono (by decide)).trans (settled.mono (by decide))⟩
    simp
  | false =>
    have still : (s.stations.get n).toLost s.settings = s.stations.get n := if_neg fun lost =>
      Bool.false_ne_true (due.symm.trans ((lostDue_iff s n).mpr lost))
    simp [still, ChangesOnly.refl]

/-! ## The rounds -/

section rounds

variable (turn : Turn)

theorem quietRound_parts (l : List Station) (s : State) :
    ChangesOnly (.stations :: .table :: .vehicle :: resolutionParts) s (l.foldl (quietOne turn) s) := by
  induction l generalizing s with
  | nil => exact .refl _ s
  | cons n l ih => exact (quietOne_station turn s n).2.2.trans (ih _)

theorem lostRound_parts (l : List Station) (s : State) :
    ChangesOnly (.stations :: .table :: .buffers :: .trend :: .loop :: .vehicle :: .purge :: resolutionParts) s
      (l.foldl (lostOne turn) s) := by
  induction l generalizing s with
  | nil => exact .refl _ s
  | cons n l ih => exact (lostOne_station turn s n).2.2.2.2.trans (ih _)

/-- The due tests of a station turn on its own record and the windows. -/
theorem dues_congr {s t : State} {m : Station} (station : t.stations.get m = s.stations.get m)
    (settings : t.settings = s.settings) : t.quietDue m = s.quietDue m ∧ t.lostDue m = s.lostDue m := by
  constructor
  · rw [Bool.eq_iff_iff, quietDue_iff, quietDue_iff, State.modeOf, State.modeOf, station, settings]
  · rw [Bool.eq_iff_iff, lostDue_iff, lostDue_iff, State.modeOf, State.modeOf, station, settings]

theorem quietOne_others {s : State} {m n : Station} (ne : m ≠ n) :
    (quietOne turn s n).stations.get m = s.stations.get m ∧ (quietOne turn s n).settings = s.settings := by
  obtain ⟨stations, -, parts⟩ := quietOne_station turn s n
  exact ⟨by simp [stations, ne], parts .settings (by decide)⟩

theorem lostOne_others {s : State} {m n : Station} (ne : m ≠ n) :
    (lostOne turn s n).stations.get m = s.stations.get m ∧ (lostOne turn s n).settings = s.settings := by
  obtain ⟨stations, -, -, -, parts⟩ := lostOne_station turn s n
  exact ⟨by simp [stations, ne], parts .settings (by decide)⟩

theorem quietRound_stations {l : List Station} (nodup : l.Nodup) (s : State) (m : Station) :
    (l.foldl (quietOne turn) s).stations.get m =
      if m ∈ l then (s.stations.get m).toQuiet s.settings else s.stations.get m := by
  induction l generalizing s with
  | nil => simp
  | cons n l ih =>
    obtain ⟨apart, nodup⟩ := List.nodup_cons.mp nodup
    rw [List.foldl_cons, ih nodup]
    by_cases same : m = n
    · subst same
      simp [apart, (quietOne_station turn s m).1]
    · obtain ⟨station, -⟩ := quietOne_others turn (s := s) same
      simp [same, station]

theorem lostRound_stations {l : List Station} (nodup : l.Nodup) (s : State) (m : Station) :
    (l.foldl (lostOne turn) s).stations.get m =
      if m ∈ l then (s.stations.get m).toLost s.settings else s.stations.get m := by
  induction l generalizing s with
  | nil => simp
  | cons n l ih =>
    obtain ⟨apart, nodup⟩ := List.nodup_cons.mp nodup
    rw [List.foldl_cons, ih nodup]
    by_cases same : m = n
    · subst same
      simp [apart, (lostOne_station turn s m).1]
    · obtain ⟨station, -⟩ := lostOne_others turn (s := s) same
      simp [same, station]

theorem quietRound_table {l : List Station} (nodup : l.Nodup) (s : State) :
    (l.foldl (quietOne turn) s).table =
      s.table.map fun e => if e.station ∈ l ∧ s.quietDue e.station = true then { e with held := true } else e := by
  induction l generalizing s with
  | nil => simp
  | cons n l ih =>
    obtain ⟨apart, nodup⟩ := List.nodup_cons.mp nodup
    rw [List.foldl_cons, ih nodup, (quietOne_station turn s n).2.1, List.map_map]
    refine List.map_congr_left fun e _ => ?_
    by_cases own : e.station = n
    · subst own
      cases s.quietDue e.station <;> simp [apart]
    · obtain ⟨station, settings⟩ := quietOne_others turn (s := s) own
      simp [own, (dues_congr station settings).1]

theorem lostRound_table {l : List Station} (nodup : l.Nodup) (s : State) :
    (l.foldl (lostOne turn) s).table =
      s.table.filter fun e => !(decide (e.station ∈ l) && s.lostDue e.station) := by
  induction l generalizing s with
  | nil => simp
  | cons n l ih =>
    obtain ⟨apart, nodup⟩ := List.nodup_cons.mp nodup
    rw [List.foldl_cons, ih nodup, (lostOne_station turn s n).2.1, List.filter_filter]
    refine List.filter_congr fun e _ => ?_
    by_cases own : e.station = n
    · subst own
      simp [apart]
    · obtain ⟨station, settings⟩ := lostOne_others turn (s := s) own
      simp [own, (dues_congr station settings).2]

theorem lostRound_buffers {l : List Station} (nodup : l.Nodup) (s : State) (m : Station) :
    (l.foldl (lostOne turn) s).buffers.get m = if m ∈ l ∧ s.lostDue m = true then none else s.buffers.get m := by
  induction l generalizing s with
  | nil => simp
  | cons n l ih =>
    obtain ⟨apart, nodup⟩ := List.nodup_cons.mp nodup
    rw [List.foldl_cons, ih nodup, (lostOne_station turn s n).2.2.1]
    by_cases own : m = n
    · subst own
      cases due : s.lostDue m <;> simp [apart]
    · obtain ⟨station, settings⟩ := lostOne_others turn (s := s) own
      rw [(dues_congr station settings).2]
      cases s.lostDue n <;> simp [own]

/-- No station but the holder loses the stream (R6, R176). -/
theorem lostRound_trend_of_others (l : List Station) (s : State) :
    (∀ n ∈ l, s.lostDue n = true → s.holdsStream n = false) → l.Nodup → (l.foldl (lostOne turn) s).trend = s.trend := by
  induction l generalizing s with
  | nil => exact fun _ _ => rfl
  | cons n l ih =>
    intro others nodup
    obtain ⟨apart, nodup⟩ := List.nodup_cons.mp nodup
    have head : (lostOne turn s n).trend = s.trend := by
      rw [(lostOne_station turn s n).2.2.2.1]
      split
      · next due =>
        have free := others n List.mem_cons_self due
        exact if_neg (by simpa [State.holdsStream] using free)
      · rfl
    rw [List.foldl_cons, ih _ (fun m hm due => ?_) nodup, head]
    obtain ⟨station, settings⟩ := lostOne_others turn (s := s) fun same : m = n => apart (same ▸ hm)
    rw [(dues_congr station settings).2] at due
    rw [State.holdsStream, head]
    exact others m (List.mem_cons_of_mem n hm) due

theorem holdsStream_unique {s : State} {m n : Station} (hm : s.holdsStream m = true) (hn : s.holdsStream n = true) :
    m = n := by
  simp only [State.holdsStream, Option.any_eq_true, decide_eq_true_eq] at hm hn
  obtain ⟨h, hold, rfl⟩ := hm
  obtain ⟨k, hold', rfl⟩ := hn
  rw [Option.some_inj.mp (hold.symm.trans hold')]

/-- The holder of the stream, once Lost, no longer holds it. -/
theorem Trend.without_of_holder {s : State} {n : Station} (h : s.holdsStream n = true) :
    s.trend.without n = { s.trend with hold := none, queue := [], begun := false, sent := 0 } := if_pos h

theorem lostRound_trend_of_holder {l : List Station} (nodup : l.Nodup) {s : State} {m : Station} (hm : m ∈ l)
    (due : s.lostDue m = true) (holds : s.holdsStream m = true) :
    (l.foldl (lostOne turn) s).trend = s.trend.without m := by
  induction l generalizing s with
  | nil => exact absurd hm List.not_mem_nil
  | cons n l ih =>
    obtain ⟨apart, rest⟩ := List.nodup_cons.mp nodup
    have head := (lostOne_station turn s n).2.2.2.1
    rw [List.foldl_cons]
    by_cases same : m = n
    · subst same
      rw [due, if_pos rfl] at head
      rw [lostRound_trend_of_others turn l _ (fun k _ _ => ?_) rest, head]
      rw [State.holdsStream, head, Trend.without_of_holder holds]
      rfl
    · have kept : (lostOne turn s n).trend = s.trend := by
        rw [head]
        split
        · exact if_neg fun free : s.holdsStream n = true => same (holdsStream_unique holds free)
        · rfl
      obtain ⟨station, settings⟩ := lostOne_others turn (s := s) same
      rw [ih rest (List.mem_of_ne_of_mem same hm) (by rwa [(dues_congr station settings).2])
        (by rwa [State.holdsStream, kept]), kept]

/-! ## The vehicle and the purge -/

/-- From `s` to `t` stations other than the Vehicle-class station change (R5, R6): neither the vehicle nor the purge. -/
def OtherStations (s t : State) : Prop :=
  ChangesOnly (.stations :: .table :: .buffers :: .trend :: .loop :: resolutionParts) s t ∧
    ConditionsChangeOnly [.holdShortfall, .coUnderSeal] s t

protected theorem OtherStations.refl (s : State) : OtherStations s s := ⟨.refl _ s, fun _ _ => rfl⟩

protected theorem OtherStations.trans {s t u : State} (h : OtherStations s t) (h' : OtherStations t u) :
    OtherStations s u := ⟨h.1.trans h'.1, h.2.trans h'.2⟩

theorem OtherStations.resolve_of {s t : State}
    (h : ChangesOnly [.stations, .table, .buffers, .trend, .loop] s t) : OtherStations s (resolve t) := by
  have resolved := resolve_resolved t
  refine ⟨(h.mono (by decide)).trans (resolved.parts.mono (by decide)), fun c hc => ?_⟩
  rw [resolved.conditions c hc, show t.conditions = s.conditions from h .conditions (by decide)]

/-- The Vehicle-class station's own entry to Quiet at this mark, where Lost does not follow (log entry 7). -/
def State.vehicleQuiets (s : State) (n : Station) : Prop :=
  s.vehicleStation = some n ∧ s.quietDue n = true ∧ ¬s.settings.lostWindow ≤ (s.stations.get n).silence

/-- The Vehicle-class station's own entry to Lost at this mark (R6, R97). -/
def State.vehicleLoses (s : State) (n : Station) : Prop := s.vehicleStation = some n ∧ s.lostDue n = true

theorem quietOne_other {s : State} {n : Station} (h : ¬s.vehicleQuiets n) : OtherStations s (quietOne turn s n) := by
  have entered : ChangesOnly [.stations, .table, .buffers, .trend, .loop] s (enterQuiet n s) := fun p hp => by
    cases p <;> first | exact absurd (by decide) hp | rfl
  rw [quietOne_eq]
  split
  · next due =>
    split
    · exact ⟨entered.mono (by decide), fun _ _ => rfl⟩
    · next early =>
      have other : s.vehicleStation ≠ some n := fun own => h ⟨own, due, early⟩
      have view : (enterQuiet n s).vehicleView = s.vehicleView :=
        vehicleView_congr (by simp) fun m hm => by
          rw [modeOf_of_stations (t := enterQuiet n s) (n := n) rfl, if_neg fun same : m = n => other (same ▸ hm)]
      rw [settleVehicle, if_pos view]
      exact .resolve_of entered
  · exact .refl s

theorem lostOne_other {s : State} {n : Station} (h : ¬s.vehicleLoses n) : OtherStations s (lostOne turn s n) := by
  rw [lostOne_eq]
  split
  · next due =>
    have other : s.vehicleStation ≠ some n := fun own => h ⟨own, due⟩
    rw [(enterLost_settled turn ((lostDue_iff s n).mp due).1).2 other]
    exact .resolve_of (enterLost_drops n s).2.2.2.2
  · exact .refl s

/-- What another station's change leaves of the Vehicle-class station. -/
theorem OtherStations.vehicle {s t : State} (h : OtherStations s t) : t.settings = s.settings ∧
    t.vehicleStation = s.vehicleStation ∧ t.vehicle = s.vehicle ∧ t.purge = s.purge :=
  ⟨h.1 .settings (by decide), vehicleStation_congr (h.1 .settings (by decide)), h.1 .vehicle (by decide),
    h.1 .purge (by decide)⟩

theorem quietRound_others (l : List Station) (s : State) :
    (∀ n ∈ l, ¬s.vehicleQuiets n) → l.Nodup → OtherStations s (l.foldl (quietOne turn) s) := by
  induction l generalizing s with
  | nil => exact fun _ _ => .refl s
  | cons n l ih =>
    intro others nodup
    obtain ⟨apart, rest⟩ := List.nodup_cons.mp nodup
    have head := quietOne_other turn (others n List.mem_cons_self)
    refine head.trans (ih _ (fun m hm quiets => others m (List.mem_cons_of_mem n hm) ?_) rest)
    obtain ⟨station, settings⟩ := quietOne_others turn (s := s) fun same : m = n => apart (same ▸ hm)
    obtain ⟨own, due, early⟩ := quiets
    exact ⟨head.vehicle.2.1 ▸ own, (dues_congr station settings).1 ▸ due, by rwa [station, settings] at early⟩

theorem lostRound_others (l : List Station) (s : State) :
    (∀ n ∈ l, ¬s.vehicleLoses n) → l.Nodup → OtherStations s (l.foldl (lostOne turn) s) := by
  induction l generalizing s with
  | nil => exact fun _ _ => .refl s
  | cons n l ih =>
    intro others nodup
    obtain ⟨apart, rest⟩ := List.nodup_cons.mp nodup
    have head := lostOne_other turn (others n List.mem_cons_self)
    refine head.trans (ih _ (fun m hm loses => others m (List.mem_cons_of_mem n hm) ?_) rest)
    obtain ⟨station, settings⟩ := lostOne_others turn (s := s) fun same : m = n => apart (same ▸ hm)
    exact ⟨head.vehicle.2.1 ▸ loses.1, (dues_congr station settings).2 ▸ loses.2⟩

/-- The Vehicle-class station's part of a round stands alone between what the other stations do. -/
theorem quietRound_own {l : List Station} (nodup : l.Nodup) {s : State} {n : Station} (hn : n ∈ l)
    (quiets : s.vehicleQuiets n) : ∃ u, OtherStations s u ∧ u.vehicleQuiets n ∧
      OtherStations (quietOne turn u n) (l.foldl (quietOne turn) s) := by
  obtain ⟨l, r, rfl⟩ := List.append_of_mem hn
  obtain ⟨left, right, parted⟩ := List.nodup_append.mp nodup
  obtain ⟨apart, rest⟩ := List.nodup_cons.mp right
  have before : n ∉ l := fun mem => parted n mem n List.mem_cons_self rfl
  obtain ⟨own, due, early⟩ := quiets
  have only {u : State} (station : u.vehicleStation = s.vehicleStation) {m : Station} (hm : m ≠ n) :
      ¬u.vehicleQuiets m := fun other => hm (Option.some_inj.mp (other.1.symm.trans (station.trans own)))
  have first := quietRound_others turn l s (fun m hm => only rfl fun same => before (same ▸ hm)) left
  set u := l.foldl (quietOne turn) s with hu
  have station : u.stations.get n = s.stations.get n := by rw [hu, quietRound_stations turn left, if_neg before]
  obtain ⟨settings, vehicle, -, -⟩ := first.vehicle
  have later : (quietOne turn u n).vehicleStation = s.vehicleStation :=
    (vehicleStation_congr ((quietOne_station turn u n).2.2 .settings (by decide))).trans vehicle
  refine ⟨u, first, ⟨vehicle.trans own, (dues_congr station settings).1.trans due, by rwa [settings, station]⟩, ?_⟩
  rw [List.foldl_append, List.foldl_cons, ← hu]
  exact quietRound_others turn r _ (fun m hm => only later fun same => apart (same ▸ hm)) rest

theorem lostRound_own {l : List Station} (nodup : l.Nodup) {s : State} {n : Station} (hn : n ∈ l)
    (loses : s.vehicleLoses n) : ∃ u, OtherStations s u ∧ u.vehicleLoses n ∧
      OtherStations (lostOne turn u n) (l.foldl (lostOne turn) s) := by
  obtain ⟨l, r, rfl⟩ := List.append_of_mem hn
  obtain ⟨left, right, parted⟩ := List.nodup_append.mp nodup
  obtain ⟨apart, rest⟩ := List.nodup_cons.mp right
  have before : n ∉ l := fun mem => parted n mem n List.mem_cons_self rfl
  obtain ⟨own, due⟩ := loses
  have only {u : State} (station : u.vehicleStation = s.vehicleStation) {m : Station} (hm : m ≠ n) :
      ¬u.vehicleLoses m := fun other => hm (Option.some_inj.mp (other.1.symm.trans (station.trans own)))
  have first := lostRound_others turn l s (fun m hm => only rfl fun same => before (same ▸ hm)) left
  set u := l.foldl (lostOne turn) s with hu
  have station : u.stations.get n = s.stations.get n := by rw [hu, lostRound_stations turn left, if_neg before]
  obtain ⟨settings, vehicle, -, -⟩ := first.vehicle
  have later : (lostOne turn u n).vehicleStation = s.vehicleStation :=
    (vehicleStation_congr ((lostOne_station turn u n).2.2.2.2 .settings (by decide))).trans vehicle
  refine ⟨u, first, ⟨vehicle.trans own, (dues_congr station settings).2.trans due⟩, ?_⟩
  rw [List.foldl_append, List.foldl_cons, ← hu]
  exact lostRound_others turn r _ (fun m hm => only later fun same => apart (same ▸ hm)) rest

end rounds

end Sys2Proof.Machine
end

section
/-! Station Supervision at a Frame Mark as one event: what it leaves of the stations, the vehicle and the purge (R3 to R6,
R77, R96, R97). -/

namespace Sys2Proof.Machine

open Sys2Proof

/-! ## Doors taken closed, at the purge -/

/-- An Armed purge whose doors are all taken closed leaves Armed (R77). -/
structure DoorsShut (s t : State) : Prop where
  leaves : t.purge.phase ≠ .armed
  smoke : s.conditions.heavySmoke = true → t.purge = { s.purge with phase := .deferred, armed := 0 }
  flow : s.conditions.heavySmoke = false → s.flowShown ≠ none →
    t.purge = { s.purge with phase := .flushing, armed := 0 }

theorem purgeDoors_of_shut {doors : PerDoor Bool} {s : State} (shut : s.scopeOpen = false)
    (h : ¬(s.purge.phase = .armed ∧ s.scopeOpenIn doors = true)) : purgeDoors doors s = s := by
  unfold purgeDoors
  cases phase : s.purge.phase with
  | armed =>
    have before : s.scopeOpenIn doors = false := Bool.eq_false_iff.mpr fun wide => h ⟨phase, wide⟩
    simp [before]
  | flushing => simp [shut]
  | deferred => rfl
  | idle => rfl

theorem purgeDoors_shut {doors : PerDoor Bool} {s : State} (shut : s.scopeOpen = false) (armed : s.purge.phase = .armed)
    (before : s.scopeOpenIn doors = true) : DoorsShut s (purgeDoors doors s) := by
  have eq : purgeDoors doors s = enterPhase s.phaseFor s := by
    unfold purgeDoors
    rw [armed]
    simp [before, shut]
  rw [eq, State.phaseFor, shut]
  cases smoke : s.conditions.heavySmoke with
  | true =>
    have entered : enterPhase .deferred s = s.setPurge { s.purge with phase := .deferred, armed := 0 } := by
      simp [enterPhase, fallbackTest]
    rw [if_pos rfl, entered]
    exact ⟨PurgePhase.noConfusion, fun _ => rfl, fun clear => Bool.noConfusion (smoke.symm.trans clear)⟩
  | false =>
    rw [if_neg Bool.noConfusion, if_neg Bool.noConfusion, enterPhase, fallbackTest]
    split
    · next due =>
      have ended := (endPurge_clearedPurge .doneTimed (s.setPurge { s.purge with phase := .flushing, armed := 0 })).purge
      refine ⟨?_, fun smoky => Bool.noConfusion (smoke.symm.trans smoky), fun _ flow => absurd due.2.1 flow⟩
      rw [ended]
      exact PurgePhase.noConfusion
    · exact ⟨PurgePhase.noConfusion, fun smoky => Bool.noConfusion (smoke.symm.trans smoky), fun _ _ => rfl⟩

theorem purgeDoors_conditions (doors : PerDoor Bool) (s : State) : (purgeDoors doors s).conditions = s.conditions := by
  have entered (p : PurgePhase) : (enterPhase p s).conditions = s.conditions := by
    unfold enterPhase fallbackTest
    split
    · simp [endPurge, PurgeResult.aborted]
    · rfl
  unfold purgeDoors
  split
  · split
    · exact entered _
    · rfl
  · split
    · exact entered _
    · rfl
  · rfl
  · rfl

/-- What a change of the purge gives besides leaves the purge itself, and the conditions of the purge. -/
theorem purgeEvent_hands (f : State → State) (s : State) : (purgeEvent f s).purge = (f s).purge ∧
    ConditionsChangeOnly [.holdShortfall, .coUnderSeal] (f s) (purgeEvent f s) := by
  by_cases same : (f s).purge.phase = s.purge.phase ∧ (f s).purge.scope = s.purge.scope
  · rw [purgeEvent_of_unmoved same.1 same.2]
    exact ⟨rfl, fun _ _ => rfl⟩
  · have moved : PurgeMoved (f s) (purgeEvent f s) := purgeEvent_of_moved (not_and_or.mp same)
    exact ⟨moved.purge, moved.conditions⟩

theorem handPurge_hands (doors : PerDoor Bool) (s : State) :
    (handPurge doors false s).purge = (purgeDoors doors s).purge ∧
      ConditionsChangeOnly [.holdShortfall, .coUnderSeal] s (handPurge doors false s) := by
  have eq : handPurge doors false s = purgeEvent (purgeDoors doors) s := rfl
  obtain ⟨purge, conditions⟩ := purgeEvent_hands (purgeDoors doors) s
  rw [eq]
  exact ⟨purge, fun c hc => by rw [conditions c hc, purgeDoors_conditions]⟩

/-! ## A change of the Vehicle-class station -/

/-- A changed vehicle without a Crew Return touches none of the purge's conditions (R84, R98). -/
theorem handOnVehicle_conditions (turn : Turn) (trigger : Bool) (v : Vehicle) (s : State) :
    ConditionsChangeOnly [.vehicleUnverified, .holdShortfall, .coUnderSeal] s (handOnVehicle turn trigger false v s) := by
  have resolved (u : State) : ConditionsChangeOnly [.holdShortfall, .coUnderSeal] u (resolve u) :=
    (resolve_resolved u).conditions
  have doors (u : State) : ConditionsChangeOnly [.holdShortfall, .coUnderSeal] u (handDoors u) :=
    (withRegulator_handedOn _ u).conditions
  have purge (u : State) := (handPurge_hands s.vehicle.record.doors u).2
  have put : ConditionsChangeOnly [.vehicleUnverified] s (putVehicle v s) := fun c hc => by
    rw [putVehicle, setCondition_get, if_neg (by simpa using hc)]
    simp
  unfold handOnVehicle
  split
  · rcases resolveIf_cases trigger (s.setVehicle v) with ⟨-, eq⟩ | ⟨-, eq⟩ <;> rw [eq]
    · exact fun c hc => (resolved (s.setVehicle v) c (fun mem => hc (List.mem_cons_of_mem _ mem))).trans rfl
    · exact fun _ _ => rfl
  · refine (put.mono (by decide)).trans ?_
    refine ConditionsChangeOnly.mono (cs := [.holdShortfall, .coUnderSeal]) ?_ (by decide)
    cases turn with
    | resolverFirst => exact ((resolved _).trans (doors _)).trans (purge _)
    | purgeFirst => exact ((doors _).trans (purge _)).trans (resolved _)

theorem settleVehicle_conditions (turn : Turn) (trigger : Bool) (before s : State) :
    ConditionsChangeOnly [.vehicleUnverified, .holdShortfall, .coUnderSeal] s (settleVehicle turn trigger before s) := by
  unfold settleVehicle
  split
  · rcases resolveIf_cases trigger s with ⟨-, eq⟩ | ⟨-, eq⟩ <;> rw [eq]
    · exact (resolve_resolved s).conditions.mono (by decide)
    · exact fun _ _ => rfl
  · exact handOnVehicle_conditions _ _ _ _

/-- What the doors, the smoke and the flow are to the Purge Controller (R72, R77, R88). -/
structure PurgeSees (s t : State) : Prop where
  purge : t.purge = s.purge
  settings : t.settings = s.settings
  smoke : t.conditions.heavySmoke = s.conditions.heavySmoke
  record : t.record = s.record

theorem PurgeSees.flowShown {s t : State} (h : PurgeSees s t) : t.flowShown = s.flowShown := by
  rw [State.flowShown, State.channel, h.record, State.flowShown, State.channel]

theorem PurgeSees.scopeOpenIn {s t : State} (h : PurgeSees s t) : t.scopeOpenIn = s.scopeOpenIn := by
  funext doors
  rw [State.scopeOpenIn, h.purge, h.settings, State.scopeOpenIn]

theorem DoorsShut.congr {s u v t : State} (h : DoorsShut u v) (sees : PurgeSees s u) (purge : t.purge = v.purge) :
    DoorsShut s t where
  leaves := by rw [purge]; exact h.leaves
  smoke smoky := by rw [purge, h.smoke (sees.smoke.trans smoky), sees.purge]
  flow clear shown := by
    rw [purge, h.flow (sees.smoke.trans clear) (by rwa [sees.flowShown]), sees.purge]

theorem scopeOpen_of_shut {s : State} (h : s.vehicle.record.doors = PerDoor.ofFn fun _ => false) :
    s.scopeOpen = false := by
  simp [State.scopeOpen, State.scopeOpenIn, h]

/-- The doors taken closed with the vehicle reach the purge (R77, R97). -/
theorem settleVehicle_shuts (turn : Turn) {before s : State} (view : s.vehicleView = some .lost)
    (moved : s.vehicleView ≠ before.vehicleView) :
    (s.purge.phase = .armed → s.scopeOpen = true → DoorsShut s (settleVehicle turn true before s)) ∧
    (¬(s.purge.phase = .armed ∧ s.scopeOpen = true) → (settleVehicle turn true before s).purge = s.purge) := by
  set v := (s.vehicle.verify false).forceClose with hv
  have eq : settleVehicle turn true before s = handOnVehicle turn true false v s := by
    rw [settleVehicle, if_neg moved, view]
    rfl
  rw [eq, handOnVehicle]
  split
  · next same =>
    have shut : s.scopeOpen = false := scopeOpen_of_shut (by rw [← same]; rfl)
    refine ⟨fun _ wide => Bool.noConfusion (shut.symm.trans wide), fun _ => ?_⟩
    simp
  · have handed : ∃ u, PurgeSees s u ∧ u.vehicle = v ∧
        (shareEvent turn resolve (fun t => handPurge s.vehicle.record.doors false (handDoors t)) (putVehicle v s)).purge =
          (purgeDoors s.vehicle.record.doors u).purge := by
      cases turn with
      | resolverFirst =>
        have handed : Handed sharedConditions s (handDoors (resolve (putVehicle v s))) :=
          ((Handed.putVehicle v s).trans (.resolve _)).trans (.withRegulator _ _)
        exact ⟨_, ⟨by simp, by simp, handed.conditions .heavySmoke (by decide), by simp⟩, by simp [putVehicle],
          (handPurge_hands _ _).1⟩
      | purgeFirst =>
        have handed : Handed sharedConditions s (handDoors (putVehicle v s)) :=
          (Handed.putVehicle v s).trans (.withRegulator _ _)
        exact ⟨_, ⟨by simp, by simp, handed.conditions .heavySmoke (by decide), by simp⟩, by simp [putVehicle],
          Eq.trans (by simp [shareEvent]) (handPurge_hands _ _).1⟩
    obtain ⟨u, sees, vehicle, purge⟩ := handed
    have shut : u.scopeOpen = false := scopeOpen_of_shut (by rw [vehicle]; rfl)
    constructor
    · intro armed wide
      exact (purgeDoors_shut shut (by rwa [sees.purge]) (by rwa [sees.scopeOpenIn])).congr sees purge
    · intro still
      rw [purge, purgeDoors_of_shut shut (by rwa [sees.purge, sees.scopeOpenIn]), sees.purge]

/-! ## The stations -/

theorem entersLost_iff (g : Settings) (r : StationState) : (r.mode ≠ .lost ∧ (supervised g r).mode = .lost) ↔
    (r.advance.toQuiet g).mode = .quiet ∧ g.lostWindow ≤ (r.advance.toQuiet g).silence := by
  obtain ⟨mode, silence⟩ := r
  cases mode <;> simp [supervised, StationState.advance, StationState.toQuiet]
  all_goals split_ifs <;> simp_all

theorem entersQuiet_iff (g : Settings) (r : StationState) : (r.mode = .live ∧ (supervised g r).mode = .quiet) ↔
    (r.advance.mode = .live ∧ g.quietWindow ≤ r.advance.silence) ∧ ¬g.lostWindow ≤ r.advance.silence := by
  obtain ⟨mode, silence⟩ := r
  cases mode <;> simp [supervised, StationState.advance]
  all_goals split_ifs <;> simp_all

/-- The state between the two rounds of a Frame Mark's supervision (R5, R6). -/
def quietMark (turn : Turn) (s : State) : State := Station.all.foldl (quietOne turn) (advanceCounts s)

theorem Station.all_nodup : Station.all.Nodup := by decide

variable (turn : Turn) (s : State)

theorem advanceCounts_station (n : Station) : (advanceCounts s).stations.get n = (s.stations.get n).advance := by
  simp [advanceCounts]

theorem quietMark_station (n : Station) :
    (quietMark turn s).stations.get n = (s.stations.get n).advance.toQuiet s.settings := by
  rw [quietMark, quietRound_stations turn Station.all_nodup, if_pos (Station.mem_all n), advanceCounts_station]
  rfl

theorem quietMark_parts : ChangesOnly (.stations :: .table :: .vehicle :: resolutionParts) s (quietMark turn s) := by
  have counted : ChangesOnly [.stations] s (advanceCounts s) := fun p hp => by
    cases p <;> first | rfl | exact absurd (by decide) hp
  exact (counted.mono (by decide)).trans (quietRound_parts turn Station.all _)

theorem superviseMark_station (n : Station) :
    (superviseMark turn s).stations.get n = supervised s.settings (s.stations.get n) := by
  have lost := lostRound_stations turn Station.all_nodup (quietMark turn s) n
  rw [if_pos (Station.mem_all n), quietMark_station, quietMark_parts turn s .settings (by decide)] at lost
  exact lost.trans (supervised_eq _ _).symm

theorem superviseMark_modeOf (n : Station) :
    (superviseMark turn s).modeOf n = (supervised s.settings (s.stations.get n)).mode := by
  rw [State.modeOf, superviseMark_station]

theorem lostDue_quietMark_iff (n : Station) :
    (quietMark turn s).lostDue n = true ↔ EntersLost s (superviseMark turn s) n := by
  rw [lostDue_iff, State.modeOf, quietMark_station, quietMark_parts turn s .settings (by decide), ← entersLost_iff,
    EntersLost, superviseMark_modeOf]
  rfl

theorem quietDue_advanceCounts_iff (n : Station) :
    ((advanceCounts s).quietDue n = true ∧ ¬s.settings.lostWindow ≤ ((advanceCounts s).stations.get n).silence) ↔
      s.modeOf n = .live ∧ (superviseMark turn s).modeOf n = .quiet := by
  rw [quietDue_iff, State.modeOf, advanceCounts_station, superviseMark_modeOf]
  exact (entersQuiet_iff _ _).symm

theorem superviseMark_table : (superviseMark turn s).table = ((s.table.filter fun e =>
      !(decide (s.modeOf e.station ≠ .lost) && decide ((superviseMark turn s).modeOf e.station = .lost))).map fun e =>
    if s.modeOf e.station = .live ∧ (superviseMark turn s).modeOf e.station = .quiet then { e with held := true }
    else e) := by
  have quiets : (quietMark turn s).table = s.table.map fun e =>
      if (advanceCounts s).quietDue e.station = true then { e with held := true } else e := by
    have round := quietRound_table turn Station.all_nodup (advanceCounts s)
    simp only [Station.mem_all, true_and] at round
    exact round
  have loses : (superviseMark turn s).table =
      (quietMark turn s).table.filter fun e => !((quietMark turn s).lostDue e.station) := by
    have round := lostRound_table turn Station.all_nodup (quietMark turn s)
    simp only [Station.mem_all, decide_true, Bool.true_and] at round
    exact round
  have gone (e : Entry) : (quietMark turn s).lostDue e.station =
      (decide (s.modeOf e.station ≠ .lost) && decide ((superviseMark turn s).modeOf e.station = .lost)) := by
    rw [Bool.eq_iff_iff, lostDue_quietMark_iff]
    simp [EntersLost]
  have same (e : Entry) : (if (advanceCounts s).quietDue e.station = true then { e with held := true } else e).station =
      e.station := by split <;> rfl
  rw [loses, quiets, List.filter_map]
  simp only [Function.comp_def, same, gone]
  refine List.map_congr_left fun e he => ?_
  have stays : ¬EntersLost s (superviseMark turn s) e.station := by
    have kept := (List.mem_filter.mp he).2
    rw [← gone, Bool.not_eq_true', ← Bool.not_eq_true, lostDue_quietMark_iff] at kept
    exact kept
  refine if_congr ⟨fun due => (quietDue_advanceCounts_iff turn s _).mp ⟨due, fun late => stays ?_⟩, fun quiets =>
    ((quietDue_advanceCounts_iff turn s _).mpr quiets).1⟩ rfl rfl
  rw [quietDue_iff, State.modeOf, advanceCounts_station, show (advanceCounts s).settings = s.settings from rfl] at due
  rw [advanceCounts_station] at late
  rw [← lostDue_quietMark_iff, lostDue_iff, State.modeOf, quietMark_station, StationState.toQuiet, if_pos due,
    quietMark_parts turn s .settings (by decide)]
  exact ⟨rfl, late⟩

theorem superviseMark_buffers (n : Station) : (superviseMark turn s).buffers.get n =
    if s.modeOf n ≠ .lost ∧ (superviseMark turn s).modeOf n = .lost then none else s.buffers.get n := by
  have loses := lostRound_buffers turn Station.all_nodup (quietMark turn s) n
  rw [quietMark_parts turn s .buffers (by decide)] at loses
  have iff := lostDue_quietMark_iff turn s n
  by_cases lost : EntersLost s (superviseMark turn s) n
  · rw [if_pos ⟨Station.mem_all n, iff.mpr lost⟩] at loses
    exact loses.trans (if_pos lost).symm
  · rw [if_neg fun due => lost (iff.mp due.2)] at loses
    exact loses.trans (if_neg lost).symm

theorem superviseMark_trend :
    ((∀ n, EntersLost s (superviseMark turn s) n → s.holdsStream n = false) → (superviseMark turn s).trend = s.trend) ∧
    (∀ n, EntersLost s (superviseMark turn s) n → s.holdsStream n = true →
      (superviseMark turn s).trend = s.trend.without n) := by
  have trend : (quietMark turn s).trend = s.trend := quietMark_parts turn s .trend (by decide)
  have holds : (quietMark turn s).holdsStream = s.holdsStream := by
    funext m
    rw [State.holdsStream, trend, State.holdsStream]
  constructor
  · intro others
    have round := lostRound_trend_of_others turn Station.all (quietMark turn s) (fun n _ due => by
      rw [holds]
      exact others n ((lostDue_quietMark_iff turn s n).mp due)) Station.all_nodup
    exact round.trans trend
  · intro n lost held
    have round := lostRound_trend_of_holder turn Station.all_nodup (Station.mem_all n)
      ((lostDue_quietMark_iff turn s n).mpr lost) (by rwa [holds])
    rw [trend] at round
    exact round

theorem superviseMark_parts :
    ChangesOnly (.stations :: .table :: .buffers :: .trend :: .loop :: .vehicle :: .purge :: resolutionParts) s
      (superviseMark turn s) :=
  ((quietMark_parts turn s).mono (by decide)).trans (lostRound_parts turn Station.all _)

/-! ## The Vehicle-class station -/

/-- What a Frame Mark's supervision does to the vehicle and to the purge, by what becomes of the Vehicle-class station
(R77, R96, R97). -/
inductive VehicleSupervised (s t : State) : Prop where
  | stays (still : ∀ n, s.vehicleStation = some n → t.modeOf n = s.modeOf n) (vehicle : t.vehicle = s.vehicle)
      (purge : t.purge = s.purge)
  | quiets (n : Station) (own : s.vehicleStation = some n) (live : s.modeOf n = .live) (quiet : t.modeOf n = .quiet)
      (vehicle : t.vehicle = s.vehicle.verify false) (purge : t.purge = s.purge)
  | loses (n : Station) (own : s.vehicleStation = some n) (lost : EntersLost s t n)
      (vehicle : t.vehicle = (s.vehicle.verify false).forceClose)
      (shuts : s.purge.phase = .armed → s.scopeOpen = true → DoorsShut s t)
      (kept : ¬(s.purge.phase = .armed ∧ s.scopeOpen = true) → t.purge = s.purge)

theorem supervised_mode (g : Settings) (r : StationState) : (supervised g r).mode = r.mode ∨
    (r.mode = .live ∧ (supervised g r).mode = .quiet) ∨ (r.mode ≠ .lost ∧ (supervised g r).mode = .lost) := by
  obtain ⟨mode, silence⟩ := r
  cases mode <;> simp [supervised]
  all_goals split_ifs <;> simp

theorem PurgeSees.trans {s t u : State} (h : PurgeSees s t) (h' : PurgeSees t u) : PurgeSees s u :=
  ⟨h'.purge.trans h.purge, h'.settings.trans h.settings, h'.smoke.trans h.smoke, h'.record.trans h.record⟩

theorem OtherStations.purgeSees {s t : State} (h : OtherStations s t) : PurgeSees s t :=
  ⟨h.1 .purge (by decide), h.1 .settings (by decide), h.2 .heavySmoke (by decide), h.1 .record (by decide)⟩

theorem PurgeSees.scopeOpen {s t : State} (h : PurgeSees s t) (vehicle : t.vehicle = s.vehicle) :
    t.scopeOpen = s.scopeOpen := by
  rw [State.scopeOpen, h.scopeOpenIn, vehicle, State.scopeOpen]

/-- The Vehicle-class station's own entry to Quiet. -/
theorem quietOne_own {s : State} {n : Station} (quiets : s.vehicleQuiets n) :
    (quietOne turn s n).vehicle = s.vehicle.verify false ∧ (quietOne turn s n).purge = s.purge := by
  obtain ⟨own, due, early⟩ := quiets
  obtain ⟨vehicle, -, parts⟩ := enterQuiet_settled turn ((quietDue_iff s n).mp due).1
  rw [quietOne_eq, if_pos due, if_neg early]
  exact ⟨vehicle own, (parts .purge (by decide)).trans rfl⟩

/-- The Vehicle-class station's own entry to Lost. -/
theorem lostOne_own {s : State} {n : Station} (loses : s.vehicleLoses n) :
    (lostOne turn s n).vehicle = (s.vehicle.verify false).forceClose ∧
    (s.purge.phase = .armed → s.scopeOpen = true → DoorsShut s (lostOne turn s n)) ∧
    (¬(s.purge.phase = .armed ∧ s.scopeOpen = true) → (lostOne turn s n).purge = s.purge) := by
  obtain ⟨own, due⟩ := loses
  have quiet := ((lostDue_iff s n).mp due).1
  obtain ⟨stations, -, -, -, parts⟩ := enterLost_drops n s
  have settings : (enterLost n s).settings = s.settings := parts .settings (by decide)
  have view : (enterLost n s).vehicleView = some .lost := by
    rw [vehicleView_of_station settings own, modeOf_of_stations stations, if_pos rfl]
  have moved : (enterLost n s).vehicleView ≠ s.vehicleView := by
    rw [view, vehicleView_of_station (t := s) rfl own, quiet]
    simp
  have sees : PurgeSees s (enterLost n s) := ⟨parts .purge (by decide), settings,
    by rw [show (enterLost n s).conditions = s.conditions from parts .conditions (by decide)],
    parts .record (by decide)⟩
  have wide : (enterLost n s).scopeOpen = s.scopeOpen := sees.scopeOpen (parts .vehicle (by decide))
  obtain ⟨shuts, kept⟩ := settleVehicle_shuts turn view moved
  rw [sees.purge, wide] at shuts kept
  rw [lostOne_eq, if_pos due]
  exact ⟨(enterLost_settled turn quiet).1 own, fun armed ajar => (shuts armed ajar).congr sees rfl, kept⟩

theorem superviseMark_vehicle : VehicleSupervised s (superviseMark turn s) := by
  have counted : PurgeSees s (advanceCounts s) := ⟨rfl, rfl, rfl, rfl⟩
  have station : (quietMark turn s).vehicleStation = s.vehicleStation :=
    vehicleStation_congr (quietMark_parts turn s .settings (by decide))
  by_cases quiets : ∃ n, (advanceCounts s).vehicleQuiets n
  · obtain ⟨n, own, due⟩ := quiets
    obtain ⟨live, quiet⟩ := (quietDue_advanceCounts_iff turn s n).mp due
    obtain ⟨u, first, quiets, later⟩ := quietRound_own turn Station.all_nodup (Station.mem_all n) ⟨own, due⟩
    have last : OtherStations (quietMark turn s) (superviseMark turn s) := by
      refine lostRound_others turn Station.all _ (fun m _ loses => ?_) Station.all_nodup
      have same : m = n := Option.some_inj.mp ((loses.1.symm.trans station).trans own)
      have lost := ((lostDue_quietMark_iff turn s m).mp loses.2).2
      rw [same, quiet] at lost
      exact StationMode.noConfusion lost
    obtain ⟨vehicle, purge⟩ := quietOne_own turn quiets
    have rest := later.trans last
    refine .quiets n own live quiet ?_ ?_
    · rw [rest.vehicle.2.2.1, vehicle, first.vehicle.2.2.1]
      rfl
    · rw [rest.vehicle.2.2.2, purge, first.vehicle.2.2.2]
      rfl
  · have first : OtherStations (advanceCounts s) (quietMark turn s) :=
      quietRound_others turn Station.all _ (fun n _ h => quiets ⟨n, h⟩) Station.all_nodup
    by_cases loses : ∃ n, (quietMark turn s).vehicleLoses n
    · obtain ⟨n, own, due⟩ := loses
      obtain ⟨u, middle, loses, last⟩ := lostRound_own turn Station.all_nodup (Station.mem_all n) ⟨own, due⟩
      have before := first.trans middle
      have sees := counted.trans before.purgeSees
      obtain ⟨vehicle, shuts, kept⟩ := lostOne_own turn loses
      have same : u.vehicle = s.vehicle := before.vehicle.2.2.1
      rw [same] at vehicle
      rw [sees.purge, sees.scopeOpen same] at shuts kept
      exact .loses n (station ▸ own) ((lostDue_quietMark_iff turn s n).mp due) (last.vehicle.2.2.1.trans vehicle)
        (fun armed wide => (shuts armed wide).congr sees last.vehicle.2.2.2)
        fun still => last.vehicle.2.2.2.trans (kept still)
    · have last : OtherStations (quietMark turn s) (superviseMark turn s) :=
        lostRound_others turn Station.all _ (fun n _ h => loses ⟨n, h⟩) Station.all_nodup
      have rest := first.trans last
      refine .stays (fun n own => ?_) rest.vehicle.2.2.1 rest.vehicle.2.2.2
      rw [superviseMark_modeOf]
      rcases supervised_mode s.settings (s.stations.get n) with same | quiet | lost
      · exact same
      · refine absurd ⟨n, own, ?_⟩ quiets
        rw [← superviseMark_modeOf turn] at quiet
        exact (quietDue_advanceCounts_iff turn s n).mpr quiet
      · refine absurd ⟨n, station.trans own, ?_⟩ loses
        rw [← superviseMark_modeOf turn] at lost
        exact (lostDue_quietMark_iff turn s n).mpr lost

end Sys2Proof.Machine
end

section
/-! The blocks of a Frame Mark, each taken once in the order given: what the other blocks leave of what one block reads
and writes (R162, log entry 5). -/

namespace Sys2Proof.Machine

open Sys2Proof

/-! ## The order of the blocks -/

theorem eraseDups_nodup {α : Type} [BEq α] [LawfulBEq α] (l : List α) : l.eraseDups.Nodup := by
  induction len : l.length using Nat.strong_induction_on generalizing l with
  | _ k ih =>
    cases l with
    | nil => simp
    | cons a l =>
      have shorter : (l.filter fun b => !b == a).length < k := by
        rw [← len]
        exact Nat.lt_succ_of_le (List.length_filter_le _ _)
      rw [List.eraseDups_cons, List.nodup_cons]
      exact ⟨by simp, ih _ shorter _ rfl⟩

theorem fullOrder_nodup (order : List MarkBlock) : (fullOrder order).Nodup := by
  refine List.nodup_append.mpr ⟨eraseDups_nodup order, (show MarkBlock.all.Nodup by decide).filter _, ?_⟩
  intro a ha b hb same
  subst same
  simp_all

theorem mem_fullOrder (order : List MarkBlock) (b : MarkBlock) : b ∈ fullOrder order := by
  have all : b ∈ MarkBlock.all := by cases b <;> decide
  by_cases named : b ∈ order
  · exact List.mem_append_left _ (List.mem_eraseDups.mpr named)
  · exact List.mem_append_right _ (List.mem_filter.mpr ⟨all, by simpa using named⟩)

theorem fullOrder_head {order : List MarkBlock} {b : MarkBlock} (h : order.head? = some b) :
    ∃ l, fullOrder order = b :: l := by
  obtain ⟨rest, rfl⟩ := List.head?_eq_some_iff.mp h
  exact ⟨_, by rw [fullOrder, List.eraseDups_cons, List.cons_append]⟩

/-- A block has its place in the order, which names every other block before it or after it, and once. -/
theorem fullOrder_split (order : List MarkBlock) (b : MarkBlock) : ∃ l r, fullOrder order = l ++ b :: r ∧
    b ∉ l ∧ b ∉ r ∧ (l ++ r).Nodup ∧ (∀ c, c ≠ b → c ∈ l ∨ c ∈ r) ∧ (order.head? = some b → l = []) := by
  obtain ⟨l, r, eq⟩ := List.append_of_mem (mem_fullOrder order b)
  have nodup := fullOrder_nodup order
  rw [eq] at nodup
  obtain ⟨once, rest⟩ := List.nodup_middle.mp nodup |> List.nodup_cons.mp
  simp only [List.mem_append, not_or] at once
  refine ⟨l, r, eq, once.1, once.2, rest, fun c hc => ?_, fun head => ?_⟩
  · have mem := mem_fullOrder order c
    rw [eq] at mem
    simpa [hc] using mem
  · obtain ⟨tail, first⟩ := fullOrder_head head
    rw [eq] at first
    cases l with
    | nil => rfl
    | cons c l =>
      have same : c = b := (List.cons.inj first).1
      exact absurd (same ▸ List.mem_cons_self) once.1

/-! ## What each block leaves -/

/-- What is on at a station's slot is on before it too: no event enables a slot (R1). -/
def ModesStand (s t : State) : Prop := ∀ n, t.modeOf n ≠ .disabled → s.modeOf n ≠ .disabled

/-- A group's mark that every station bears, borne still where no station comes on. -/
theorem MarkedAll.stands {g : Group} {s t : State} (h : MarkedAll g s) (stands : MarkStands g s t)
    (modes : ModesStand s t) : MarkedAll g t := fun n on => stands n (h n (modes n on))

/-- From `s` to `t` blocks other than `b` take their parts of a Frame Mark. -/
structure OtherBlocks (b : MarkBlock) (s t : State) : Prop where
  stands : ∀ g, g ≠ .conditions → MarkStands g s t
  modes : ModesStand s t
  current : PlanCurrent s → PlanCurrent t
  parts : ChangesOnly (.stations :: .table :: .buffers :: .trend :: .loop :: .vehicle :: .purge :: resolutionParts) s t
  conditions : ConditionsChangeOnly (.motorFault :: .actuatorStuck :: sharedConditions) s t
  supervision : b = .supervision → ChangesOnly (.purge :: resolutionParts) s t
  incomplete : b = .purge → t.conditions.purgeIncomplete = s.conditions.purgeIncomplete
  blowers : b = .blowers → BlowersKeepAllButTargets s t ∧ t.conditions.motorFault = s.conditions.motorFault
  actuators : b = .actuators → (∀ a, Retargeted (s.actuators.get a) (t.actuators.get a)) ∧
    t.conditions.actuatorStuck = s.conditions.actuatorStuck

namespace OtherBlocks

variable {b : MarkBlock} {s t u : State}

protected theorem refl (b : MarkBlock) (s : State) : OtherBlocks b s s where
  stands g _ := .refl g s
  modes _ h := h
  current h := h
  parts := .refl _ s
  conditions _ _ := rfl
  supervision _ := .refl _ s
  incomplete _ := rfl
  blowers _ := ⟨fun _ => rfl, rfl⟩
  actuators _ := ⟨fun _ => .refl _, rfl⟩

protected theorem trans (h : OtherBlocks b s t) (h' : OtherBlocks b t u) : OtherBlocks b s u where
  stands g hg := (h.stands g hg).trans (h'.stands g hg)
  modes n on := h.modes n (h'.modes n on)
  current c := h'.current (h.current c)
  parts := h.parts.trans h'.parts
  conditions := h.conditions.trans h'.conditions
  supervision own := (h.supervision own).trans (h'.supervision own)
  incomplete own := (h'.incomplete own).trans (h.incomplete own)
  blowers own := by
    obtain ⟨kept, fault⟩ := h.blowers own
    obtain ⟨kept', fault'⟩ := h'.blowers own
    exact ⟨fun x => by rw [kept' x, kept x], fault'.trans fault⟩
  actuators own := by
    obtain ⟨kept, stuck⟩ := h.actuators own
    obtain ⟨kept', stuck'⟩ := h'.actuators own
    exact ⟨fun x => (kept x).trans (kept' x), stuck'.trans stuck⟩

end OtherBlocks

theorem quietOne_handed (turn : Turn) (s : State) (n : Station) : Handed sharedConditions s (quietOne turn s n) := by
  have entered : Handed sharedConditions s (enterQuiet n s) := .of_kept
  rw [quietOne_eq]
  split
  · split
    · exact entered
    · exact entered.trans (.settleVehicle _ _ _ _)
  · exact .refl _ s

theorem lostOne_handed (turn : Turn) (s : State) (n : Station) : Handed sharedConditions s (lostOne turn s n) := by
  have entered : Handed sharedConditions s (enterLost n s) :=
    .of_kept (conditions := fun _ _ => by simp) (marks := fun _ _ => .of_marks)
  rw [lostOne_eq]
  split
  · exact entered.trans (.settleVehicle _ _ _ _)
  · exact .refl _ s

theorem superviseMark_handed (turn : Turn) (s : State) : Handed sharedConditions s (superviseMark turn s) := by
  have counted : Handed sharedConditions s (advanceCounts s) := .of_kept
  have quiets : Handed sharedConditions s (quietMark turn s) :=
    List.foldlRecOn _ _ counted fun u hu n _ => hu.trans (quietOne_handed turn u n)
  exact List.foldlRecOn _ _ quiets fun u hu n _ => hu.trans (lostOne_handed turn u n)

/-- Station Supervision does not touch Purge Incomplete: the doors end no purge by an abort (R77, R84, R88). -/
theorem superviseMark_conditions (turn : Turn) (s : State) :
    ConditionsChangeOnly [.vehicleUnverified, .holdShortfall, .coUnderSeal] s (superviseMark turn s) := by
  have quiet (u : State) (n : Station) :
      ConditionsChangeOnly [.vehicleUnverified, .holdShortfall, .coUnderSeal] u (quietOne turn u n) := by
    rw [quietOne_eq]
    split
    · split
      · exact fun _ _ => rfl
      · exact fun c hc => (settleVehicle_conditions turn true u (enterQuiet n u) c hc).trans rfl
    · exact fun _ _ => rfl
  have lost (u : State) (n : Station) :
      ConditionsChangeOnly [.vehicleUnverified, .holdShortfall, .coUnderSeal] u (lostOne turn u n) := by
    rw [lostOne_eq]
    split
    · exact fun c hc => (settleVehicle_conditions turn true u (enterLost n u) c hc).trans (by simp)
    · exact fun _ _ => rfl
  have quiets : ConditionsChangeOnly [.vehicleUnverified, .holdShortfall, .coUnderSeal] s (quietMark turn s) :=
    List.foldlRecOn (motive := ConditionsChangeOnly [.vehicleUnverified, .holdShortfall, .coUnderSeal] s) _ _
      (fun _ _ => rfl) fun u hu n _ => hu.trans (quiet u n)
  exact List.foldlRecOn (motive := ConditionsChangeOnly [.vehicleUnverified, .holdShortfall, .coUnderSeal] s) _ _
    quiets fun u hu n _ => hu.trans (lost u n)

theorem ModesStand.of_stations {s t : State} (h : t.stations = s.stations) : ModesStand s t := fun n on => by
  rwa [State.modeOf, h] at on

section blocks

variable {b : MarkBlock} (s : State)

theorem superviseMark_others (turn : Turn) (ne : b ≠ .supervision) : OtherBlocks b s (superviseMark turn s) := by
  have handed := superviseMark_handed turn s
  exact
    { stands := handed.marks
      modes := fun n on off => on (by
        rw [superviseMark_modeOf, supervised, show (s.stations.get n).mode = .disabled from off]
        exact off)
      current := superviseMark_current turn
      parts := superviseMark_parts turn s
      conditions := handed.conditions.mono (by decide)
      supervision := fun own => absurd own ne
      incomplete := fun _ => superviseMark_conditions turn s .purgeIncomplete (by decide)
      blowers := fun _ => ⟨handed.blowers, handed.conditions .motorFault (by decide)⟩
      actuators := fun _ => ⟨handed.actuators, handed.conditions .actuatorStuck (by decide)⟩ }

theorem markPurge_others (ne : b ≠ .purge) : OtherBlocks b s (markPurge s) := by
  have handed : Handed sharedConditions s (markPurge s) :=
    (Handed.of_kept (t := s.setPurge s.purge.tick)).trans (.purgeEvent (.purgeLimits _))
  have parts : ChangesOnly (.purge :: resolutionParts) s (markPurge s) := fun p hp => by
    cases p <;> first | exact absurd (by decide) hp | simp [Part.same]
  exact
    { stands := handed.marks
      modes := .of_stations (by simp)
      current := markBlock_current (PerActuator.ofFn fun _ => 0) .resolverFirst .purge
      parts := parts.mono (by decide)
      conditions := handed.conditions.mono (by decide)
      supervision := fun _ => parts
      incomplete := fun own => absurd own ne
      blowers := fun _ => ⟨handed.blowers, handed.conditions .motorFault (by decide)⟩
      actuators := fun _ => ⟨handed.actuators, handed.conditions .actuatorStuck (by decide)⟩ }

theorem markBlowers_others (ne : b ≠ .blowers) : OtherBlocks b s (markBlowers s) := by
  have moved : BlowersMoved _ s (markBlowers s) := blowerEvent_moved _ s
  exact
    { stands := moved.stands
      modes := .of_stations (by simp)
      current := markBlock_current (PerActuator.ofFn fun _ => 0) .resolverFirst .blowers
      parts := moved.parts.mono (by decide)
      conditions := moved.conditions.mono (by decide)
      supervision := fun _ => moved.parts.mono (by decide)
      incomplete := fun _ => moved.conditions .purgeIncomplete (by decide)
      blowers := fun own => absurd own ne
      actuators := fun _ => ⟨moved.actuators, moved.conditions .actuatorStuck (by decide)⟩ }

theorem markActuators_others (fb : PerActuator Nat) (ne : b ≠ .actuators) : OtherBlocks b s (markActuators fb s) := by
  have moved : ActuatorsMoved _ s (markActuators fb s) := actuatorEvent_moved _ s
  exact
    { stands := moved.stands
      modes := .of_stations (by simp)
      current := markBlock_current fb .resolverFirst .actuators
      parts := moved.parts.mono (by decide)
      conditions := moved.conditions.mono (by decide)
      supervision := fun _ => moved.parts.mono (by decide)
      incomplete := fun _ => moved.conditions .purgeIncomplete (by decide)
      blowers := fun _ => ⟨moved.blowers, moved.conditions .motorFault (by decide)⟩
      actuators := fun own => absurd own ne }

end blocks

theorem otherBlocks_foldl (fb : PerActuator Nat) (turn : Turn) {b : MarkBlock} {l : List MarkBlock} (h : b ∉ l)
    (s : State) : OtherBlocks b s (l.foldl (markBlock fb turn) s) := by
  refine List.foldlRecOn _ _ (.refl b s) fun u hu c hc => hu.trans ?_
  have ne : b ≠ c := fun same => h (same ▸ hc)
  cases c with
  | supervision => exact superviseMark_others u turn ne
  | purge => exact markPurge_others u ne
  | blowers => exact markBlowers_others u ne
  | actuators => exact markActuators_others u fb ne

/-! ## A frame in which nothing is due -/

/-- No station changes its state at the next Frame Mark (R5, R6). -/
def StationsSteady (s : State) : Prop := ∀ n, (supervised s.settings (s.stations.get n)).mode = s.modeOf n

theorem superviseMark_of_steady {s : State} (h : StationsSteady s) (turn : Turn) :
    superviseMark turn s = advanceCounts s := by
  have stays (n : Station) : ¬(((s.stations.get n).advance.toQuiet s.settings).mode = .quiet ∧
      s.settings.lostWindow ≤ ((s.stations.get n).advance.toQuiet s.settings).silence) := fun due => by
    obtain ⟨ne, lost⟩ := (entersLost_iff _ _).mpr due
    exact ne ((h n).symm.trans lost)
  have quiet (n : Station) : (advanceCounts s).quietDue n ≠ true := fun due => by
    rw [quietDue_iff, State.modeOf, advanceCounts_station, show (advanceCounts s).settings = s.settings from rfl] at due
    by_cases late : s.settings.lostWindow ≤ (s.stations.get n).advance.silence
    · refine stays n ?_
      rw [StationState.toQuiet, if_pos due]
      exact ⟨rfl, late⟩
    · obtain ⟨live, quiet⟩ := (entersQuiet_iff s.settings _).mpr ⟨due, late⟩
      exact StationMode.noConfusion (live.symm.trans ((h n).symm.trans quiet))
  have lost (n : Station) : (advanceCounts s).lostDue n ≠ true := fun due => by
    rw [lostDue_iff, State.modeOf, advanceCounts_station] at due
    refine stays n ?_
    rw [StationState.toQuiet, if_neg fun live => StationMode.noConfusion (due.1.symm.trans live.1)]
    exact due
  have quiets : quietMark turn s = advanceCounts s :=
    List.foldl_fixed' (fun n => by rw [quietOne_eq, if_neg (quiet n)]) Station.all
  have loses : superviseMark turn s = Station.all.foldl (lostOne turn) (quietMark turn s) := rfl
  rw [loses, quiets]
  exact List.foldl_fixed' (fun n => by rw [lostOne_eq, if_neg (lost n)]) Station.all

theorem markPurge_of_idle {s : State} (h : s.purge.phase = .idle) : markPurge s = s := by
  have ticked : s.setPurge s.purge.tick = s := by
    rw [Purge.tick, h]
    rfl
  have limits : purgeLimits s = s := by simp [purgeLimits, armedLimit, deferredLimit, fallbackTest, flushingLimit, h]
  rw [markPurge, ticked, purgeEvent_of_unmoved] <;> rw [limits]

/-- What blocks with nothing due leave: no plan but the present, and every drive but their own (R65). -/
structure CalmBlocks (l : List MarkBlock) (s t : State) : Prop where
  current : PlanCurrent t
  parts : ChangesOnly [.stations, .blowers, .actuators, .resolver, .conditions, .alert, .marks] s t
  stations : .supervision ∉ l → t.stations = s.stations
  blowers : .blowers ∉ l → t.blowers = s.blowers
  actuators : .actuators ∉ l → t.actuators = s.actuators

theorem calmBlock (fb : PerActuator Nat) (turn : Turn) {c : MarkBlock} {s : State} (current : PlanCurrent s)
    (steady : c = .supervision → StationsSteady s) (idle : c = .purge → s.purge.phase = .idle) :
    CalmBlocks [c] s (markBlock fb turn s c) := by
  have still := markBlock_current fb turn c current
  cases c with
  | supervision =>
    have eq : markBlock fb turn s .supervision = advanceCounts s := superviseMark_of_steady (steady rfl) turn
    rw [eq] at still ⊢
    refine ⟨still, fun p hp => ?_, fun no => absurd List.mem_cons_self no, fun _ => rfl, fun _ => rfl⟩
    cases p <;> first | rfl | exact absurd (by decide) hp
  | purge =>
    have eq : markBlock fb turn s .purge = s := markPurge_of_idle (idle rfl)
    rw [eq]
    exact ⟨current, .refl _ s, fun _ => rfl, fun _ => rfl, fun _ => rfl⟩
  | blowers =>
    have calm : ChangesOnly [.blowers, .resolver, .conditions, .alert, .marks] s (markBlock fb turn s .blowers) :=
      ((blowerEvent_moved _ s).calm current).2
    exact ⟨still, calm.mono (by decide), fun _ => calm .stations (by decide), fun no => absurd List.mem_cons_self no,
      fun _ => calm .actuators (by decide)⟩
  | actuators =>
    have calm : ChangesOnly [.actuators, .resolver, .conditions, .alert, .marks] s (markBlock fb turn s .actuators) :=
      ((actuatorEvent_moved _ s).calm current).2
    exact ⟨still, calm.mono (by decide), fun _ => calm .stations (by decide), fun _ => calm .blowers (by decide),
      fun no => absurd List.mem_cons_self no⟩

theorem calmBlocks_foldl (fb : PerActuator Nat) (turn : Turn) {l : List MarkBlock} (nodup : l.Nodup) {s : State}
    (current : PlanCurrent s) (steady : .supervision ∈ l → StationsSteady s)
    (idle : .purge ∈ l → s.purge.phase = .idle) : CalmBlocks l s (l.foldl (markBlock fb turn) s) := by
  induction l generalizing s with
  | nil => exact ⟨current, .refl _ s, fun _ => rfl, fun _ => rfl, fun _ => rfl⟩
  | cons c l ih =>
    obtain ⟨once, rest⟩ := List.nodup_cons.mp nodup
    have mem {x : MarkBlock} (hx : x ∈ l) : x ∈ c :: l := List.mem_cons_of_mem c hx
    have head : CalmBlocks [c] s (markBlock fb turn s c) :=
      calmBlock fb turn current (fun own => steady (own ▸ List.mem_cons_self))
        fun own => idle (own ▸ List.mem_cons_self)
    have purge : (markBlock fb turn s c).purge = s.purge := head.parts .purge (by decide)
    have steady' (hx : .supervision ∈ l) : StationsSteady (markBlock fb turn s c) := by
      have stations := head.stations (by simpa using fun same : .supervision = c => once (same ▸ hx))
      intro n
      rw [stations, State.modeOf, stations, head.parts .settings (by decide)]
      exact steady (mem hx) n
    have tail := ih rest head.current steady' fun hx => purge ▸ idle (mem hx)
    have apart {x : MarkBlock} (hx : x ∉ c :: l) : x ∉ [c] ∧ x ∉ l := by simpa using hx
    exact
      { current := tail.current
        parts := head.parts.trans tail.parts
        stations := fun no => (tail.stations (apart no).2).trans (head.stations (apart no).1)
        blowers := fun no => (tail.blowers (apart no).2).trans (head.blowers (apart no).1)
        actuators := fun no => (tail.actuators (apart no).2).trans (head.actuators (apart no).1) }

end Sys2Proof.Machine
end

section
/-! FRAME_MARK at Station Supervision and at the frame timers (O11). -/

namespace Sys2Proof.Machine

open Sys2Proof

/-! ## The frame opened -/

/-- The state from which the blocks of a Frame Mark start: the frame opened and the frame timers one on (R65, R100, R125,
R162). -/
def openedFrame (s : State) : State := tickFrames (openFrame s)

variable (s : State)

theorem openedFrame_parts : ChangesOnly [.loop, .vehicle, .scene, .reg] s (openedFrame s) := fun p hp => by
  cases p <;> first | exact absurd (by decide) hp | simp [Part.same, openedFrame]

theorem openedFrame_modeOf (n : Station) : (openedFrame s).modeOf n = s.modeOf n := by
  rw [State.modeOf, openedFrame_parts s .stations (by decide)]
  rfl

theorem openedFrame_vehicleStation : (openedFrame s).vehicleStation = s.vehicleStation :=
  vehicleStation_congr (openedFrame_parts s .settings (by decide))

/-! ## One block between the others -/

/-- A Frame Mark seen from one block, which starts from `u`: what the blocks before and after it leave (log entry 5). -/
structure FrameAround (fb : PerActuator Nat) (order : List MarkBlock) (turn : Turn) (b : MarkBlock) (s u t : State) :
    Prop where
  before : OtherBlocks b (openedFrame s) u
  after : OtherBlocks b (markBlock fb turn u b) t
  first : order.head? = some b → u = openedFrame s
  calm : Calm s → PlanCurrent u ∧
    (b = .blowers → u.blowers = s.blowers ∧ t.blowers = (markBlock fb turn u b).blowers) ∧
    (b = .actuators → u.actuators = s.actuators ∧ t.actuators = (markBlock fb turn u b).actuators)
  steady : Steady s → b = .purge → u.plan = s.plan
  placed : ∃ l r : List MarkBlock, u = l.foldl (markBlock fb turn) (openedFrame s) ∧
    t = r.foldl (markBlock fb turn) (markBlock fb turn u b) ∧ b ∉ l ∧ b ∉ r ∧ (l ++ r).Nodup ∧ ∀ c, c ≠ b → c ∈ l ∨ c ∈ r

theorem openedFrame_steady {s : State} (h : StationsSteady s) : StationsSteady (openedFrame s) := fun n => by
  have parts := openedFrame_parts s
  rw [openedFrame_modeOf, parts .stations (by decide), parts .settings (by decide)]
  exact h n

theorem StationsSteady.of_parts {s t : State} (h : StationsSteady s) (stations : t.stations = s.stations)
    (settings : t.settings = s.settings) : StationsSteady t := fun n => by
  rw [stations, State.modeOf, stations, settings]
  exact h n

variable (fb : PerActuator Nat) (order : List MarkBlock) (turn : Turn)

theorem frameMark_around (b : MarkBlock) : ∃ u, FrameAround fb order turn b s u (frameMark fb order turn s) := by
  obtain ⟨l, r, eq, noL, noR, nodup, others, head⟩ := fullOrder_split order b
  obtain ⟨nodupL, nodupR, apart⟩ := List.nodup_append.mp nodup
  set u := l.foldl (markBlock fb turn) (openedFrame s) with hu
  have mark : frameMark fb order turn s = r.foldl (markBlock fb turn) (markBlock fb turn u b) := by
    show (fullOrder order).foldl (markBlock fb turn) (openedFrame s) = _
    rw [eq, List.foldl_append, List.foldl_cons]
  have purge : (openedFrame s).purge = s.purge := openedFrame_parts s .purge (by decide)
  rw [mark]
  refine ⟨u, otherBlocks_foldl fb turn noL _, otherBlocks_foldl fb turn noR _, fun first => ?_, fun calm => ?_,
    fun steady own => ?_, l, r, hu, rfl, noL, noR, nodup, others⟩
  · rw [hu, head first]
    rfl
  · obtain ⟨⟨current, stations⟩, idle⟩ := calm
    have left : CalmBlocks l (openedFrame s) u :=
      calmBlocks_foldl fb turn nodupL (tickFrames_current current) (fun _ => openedFrame_steady stations)
        fun _ => (congrArg Purge.phase purge).trans idle
    have settled (no : .supervision ∉ l) : StationsSteady u :=
      (openedFrame_steady stations).of_parts (left.stations no) (left.parts .settings (by decide))
    have idle' : u.purge.phase = .idle := by
      rw [left.parts .purge (by decide), purge, idle]
    have middle : CalmBlocks [b] u (markBlock fb turn u b) :=
      calmBlock fb turn left.current (fun own => settled (own ▸ noL)) fun _ => idle'
    have right : CalmBlocks r (markBlock fb turn u b) (r.foldl (markBlock fb turn) (markBlock fb turn u b)) :=
      calmBlocks_foldl fb turn nodupR middle.current
        (fun mem => (settled fun mem' => apart _ mem' _ mem rfl).of_parts
          (middle.stations (by simpa using fun same : .supervision = b => noR (same ▸ mem)))
          (middle.parts .settings (by decide)))
        fun _ => by rw [middle.parts .purge (by decide), idle']
    refine ⟨left.current, fun own => ⟨?_, right.blowers (own ▸ noR)⟩, fun own => ⟨?_, right.actuators (own ▸ noR)⟩⟩
    · exact (left.blowers (own ▸ noL)).trans (openedFrame_parts s .blowers (by decide))
    · exact (left.actuators (own ▸ noL)).trans (openedFrame_parts s .actuators (by decide))
  · have left : CalmBlocks l (openedFrame s) u :=
      calmBlocks_foldl fb turn nodupL (tickFrames_current steady.1) (fun _ => openedFrame_steady steady.2)
        fun mem => absurd (own ▸ mem) noL
    exact (left.parts .plan (by decide)).trans (openedFrame_parts s .plan (by decide))

theorem exec_frameMark {s : State} (h : s.resetHeld = false) :
    exec (.frameMark fb order turn) s = .next (frameMark fb order turn s) :=
  congrArg Host.Outcome.next (unlessHeld_of_released _ h)

/-! ## The mark at the stations -/

/-- A Frame Mark seen from Station Supervision: the blocks before and after it touch no station and not the vehicle. -/
structure FrameSupervised (s u t : State) : Prop where
  before : ChangesOnly (.loop :: .scene :: .purge :: resolutionParts) (s.setVehicle (openedFrame s).vehicle) u
  after : ChangesOnly (.purge :: resolutionParts) (superviseMark turn u) t

theorem frameMark_supervised : ∃ u, FrameSupervised turn s u (frameMark fb order turn s) := by
  obtain ⟨u, around⟩ := frameMark_around s fb order turn .supervision
  have opened : ChangesOnly [.loop, .scene, .reg] (s.setVehicle (openedFrame s).vehicle) (openedFrame s) :=
    fun p hp => by cases p <;> first | exact absurd (by decide) hp | simp [Part.same, openedFrame]
  exact ⟨u, (opened.mono (by decide)).trans ((around.before.supervision rfl).mono (by decide)),
    around.after.supervision rfl⟩

/-- What the vehicle is after a mark, by what becomes of its station: the three parts of `VehicleSupervised`, from the
frame before. -/
theorem FrameSupervised.vehicle {turn : Turn} {s u t : State} (h : FrameSupervised turn s u t) :
    ((∀ n, s.vehicleStation = some n → t.modeOf n = s.modeOf n) ∧ t.vehicle = (openedFrame s).vehicle) ∨
    (∃ n, s.vehicleStation = some n ∧ s.modeOf n = .live ∧ t.modeOf n = .quiet ∧
      t.vehicle = (openedFrame s).vehicle.verify false) ∨
    (∃ n, s.vehicleStation = some n ∧ EntersLost s t n ∧
      t.vehicle = ((openedFrame s).vehicle.verify false).forceClose) := by
  have mode (n : Station) : u.modeOf n = s.modeOf n := by
    rw [State.modeOf, h.before .stations (by decide)]
    rfl
  have after (n : Station) : t.modeOf n = (superviseMark turn u).modeOf n := by
    rw [State.modeOf, h.after .stations (by decide)]
    rfl
  have station : u.vehicleStation = s.vehicleStation := vehicleStation_congr (h.before .settings (by decide))
  have vehicle : u.vehicle = (openedFrame s).vehicle := h.before .vehicle (by decide)
  have last : t.vehicle = (superviseMark turn u).vehicle := h.after .vehicle (by decide)
  rw [last, ← vehicle]
  cases superviseMark_vehicle turn u with
  | stays still same => exact .inl ⟨fun n own => by rw [after, still n (station.trans own), mode], same⟩
  | quiets n own live quiet same => exact .inr (.inl ⟨n, station ▸ own, mode n ▸ live, (after n).trans quiet, same⟩)
  | loses n own lost same =>
    refine .inr (.inr ⟨n, station ▸ own, ?_, same⟩)
    rw [EntersLost, after, ← mode]
    exact lost

/-- Settles O11. -/
theorem frameMarkCountsAndSupervises : Obligations.FrameMarkCountsAndSupervises := by
  intro fb order turn s released
  set t := frameMark fb order turn s with ht
  have loop : t.loop = (openFrame s).loop := frameMark_loop fb order turn s
  obtain ⟨u, h⟩ := frameMark_supervised s fb order turn
  rw [← ht] at h
  have stations : u.stations = s.stations := h.before .stations (by decide)
  have settings : u.settings = s.settings := h.before .settings (by decide)
  have mode (n : Station) : u.modeOf n = s.modeOf n := by rw [State.modeOf, stations, State.modeOf]
  have after : t.modeOf = (superviseMark turn u).modeOf := by
    funext n
    rw [State.modeOf, h.after .stations (by decide), State.modeOf]
  have enters (n : Station) : EntersLost u (superviseMark turn u) n ↔ EntersLost s t n := by
    rw [EntersLost, EntersLost, mode, after]
  have trend : u.trend = s.trend := h.before .trend (by decide)
  have holds (n : Station) : u.holdsStream n = s.holdsStream n := by rw [State.holdsStream, trend, State.holdsStream]
  obtain ⟨kept, lost⟩ := superviseMark_trend turn u
  rw [trend] at kept lost
  have trendAfter : t.trend = (superviseMark turn u).trend := h.after .trend (by decide)
  refine ⟨t, exec_frameMark fb order turn released, ?_, ?_, ?_, ?_, ?_, ?_, ?_, ?_, ?_, ?_, ?_, ?_, ?_, ?_, ?_, ?_, ?_, ?_,
    ?_⟩
  · rw [loop]; rfl
  · rw [loop]; rfl
  · rw [loop]; rfl
  · rw [loop]; rfl
  · rw [loop]; rfl
  · intro n
    rw [loop]
    simp [openFrame, Line.blank]
  · intro n
    rw [h.after .stations (by decide), superviseMark_station, stations, settings]
  · rw [h.after .table (by decide), superviseMark_table, h.before .table (by decide)]
    simp only [mode, after]
    rfl
  · intro n
    rw [h.after .buffers (by decide), superviseMark_buffers, h.before .buffers (by decide), mode, after]
    rfl
  · exact fun others => trendAfter.trans (kept fun n hn => (holds n).trans (others n ((enters n).mp hn)))
  · exact fun n hn held => trendAfter.trans (lost n ((enters n).mpr hn) ((holds n).trans held))
  · exact foldl_keeps State.scene (markBlock fb turn) (by simp) (fullOrder order) (openedFrame s)
  · rcases h.vehicle with ⟨-, eq⟩ | ⟨n, -, -, -, eq⟩ | ⟨n, -, -, eq⟩ <;> rw [eq] <;> rfl
  · intro still
    rcases h.vehicle with ⟨-, eq⟩ | ⟨n, own, live, quiet, -⟩ | ⟨n, own, hn, -⟩
    · rw [eq]; rfl
    · rw [still n own, live] at quiet
      exact StationMode.noConfusion quiet
    · exact absurd ((still n own).symm.trans hn.2) hn.1
  · intro n own live quiet
    rcases h.vehicle with ⟨still, -⟩ | ⟨n, -, -, -, eq⟩ | ⟨m, own', hm, -⟩
    · rw [still n own, live] at quiet
      exact StationMode.noConfusion quiet
    · rw [eq]; rfl
    · rw [Option.some_inj.mp (own'.symm.trans own)] at hm
      exact StationMode.noConfusion (quiet.symm.trans hm.2)
  · intro others d
    rcases h.vehicle with ⟨-, eq⟩ | ⟨n, -, -, -, eq⟩ | ⟨n, own, hn, -⟩
    · rw [eq]
      exact PerDoor.get_map _ _ _
    · rw [eq]
      exact PerDoor.get_map _ _ _
    · exact absurd hn (others n own)
  · intro n own hn
    rcases h.vehicle with ⟨still, -⟩ | ⟨m, own', -, quiet, -⟩ | ⟨m, -, -, eq⟩
    · exact absurd ((still n own).symm.trans hn.2) hn.1
    · rw [Option.some_inj.mp (own'.symm.trans own)] at quiet
      exact StationMode.noConfusion (quiet.symm.trans hn.2)
    · rw [eq]
      exact ⟨rfl, fun d => by simp [Vehicle.forceClose]⟩
  · rintro ⟨⟨current, steady⟩, idle⟩
    have calm : CalmBlocks (fullOrder order) (openedFrame s) t :=
      calmBlocks_foldl fb turn (fullOrder_nodup order) (tickFrames_current current) (fun _ => openedFrame_steady steady)
        fun _ => by rw [openedFrame_parts s .purge (by decide), idle]
    exact ⟨calm.parts .reg (by decide), calm.parts .plan (by decide)⟩
  · have timed : ChangesOnly [.vehicle] s (s.setVehicle (openedFrame s).vehicle) := fun p hp => by
      cases p <;> first | rfl | exact absurd (by decide) hp
    exact (timed.mono (by decide)).trans ((h.before.mono (by decide)).trans
      (((superviseMark_parts turn u).mono (by decide)).trans (h.after.mono (by decide))))

end Sys2Proof.Machine
end

section
/-! FRAME_MARK at the blowers (O12). -/

namespace Sys2Proof.Machine

open Sys2Proof

/-! ## The four steps of a mark at one blower -/

section target

variable (r : BlowerState) (target : Nat)

theorem trip_takeTarget (k : TripKind) : (r.takeTarget target).trip k = (r.trip k).takeTarget target := by
  by_cases fourth : 4 ≤ r.trips + 1
  · simp [BlowerState.trip, BlowerState.takeTarget, fourth]
  · simp [BlowerState.trip, BlowerState.takeTarget, fourth]

theorem overloadStep_takeTarget (time : Nat) :
    (r.takeTarget target).overloadStep time = (r.overloadStep time).takeTarget target := by
  by_cases due : r.overloadDue time = true
  · have due' : (r.takeTarget target).overloadDue time = true := due
    rw [BlowerState.overloadStep, if_pos due', BlowerState.overloadStep, if_pos due, trip_takeTarget]
  · have early : ¬(r.takeTarget target).overloadDue time = true := due
    rw [BlowerState.overloadStep, if_neg early, BlowerState.overloadStep, if_neg due]

theorem windowStep_takeTarget : (r.takeTarget target).windowStep = r.windowStep.takeTarget target := by
  by_cases due : r.windowDue = true
  · have due' : (r.takeTarget target).windowDue = true := due
    rw [BlowerState.windowStep, if_pos due', BlowerState.windowStep, if_pos due]
    rfl
  · have early : ¬(r.takeTarget target).windowDue = true := due
    rw [BlowerState.windowStep, if_neg early, BlowerState.windowStep, if_neg due]

theorem cooldownStep_takeTarget (short overload : Nat) :
    (r.takeTarget target).cooldownStep short overload = (r.cooldownStep short overload).takeTarget target := by
  by_cases due : r.cooldownDue = true
  · have due' : (r.takeTarget target).cooldownDue = true := due
    rw [BlowerState.cooldownStep, if_pos due', BlowerState.cooldownStep, if_pos due]
    rfl
  · have early : ¬(r.takeTarget target).cooldownDue = true := due
    rw [BlowerState.cooldownStep, if_neg early, BlowerState.cooldownStep, if_neg due]

/-- The target plays no part in the first three steps (R137). -/
theorem mark_takeTarget (short overload time : Nat) :
    (r.takeTarget target).mark short overload time =
      ((((r.markOverload time).markWindow r.window.isSome).markCooldown r.cooldown.isSome short overload).takeTarget
        target).ramp := by
  have first : (r.takeTarget target).markOverload time = (r.markOverload time).takeTarget target :=
    overloadStep_takeTarget { r with overloadTimer := tickTimer r.overloadTimer } target time
  have second (u : BlowerState) (was : Bool) :
      (u.takeTarget target).markWindow was = (u.markWindow was).takeTarget target := by
    cases was
    · rfl
    · exact windowStep_takeTarget { u with window := tickTimer u.window } target
  have third (v : BlowerState) (was : Bool) :
      (v.takeTarget target).markCooldown was short overload = (v.markCooldown was short overload).takeTarget target := by
    cases was
    · rfl
    · exact cooldownStep_takeTarget { v with cooldown := tickTimer v.cooldown } target short overload
  rw [BlowerState.mark, first, second, third]
  rfl

end target

/-- Step 1: the overload timer (R139, R140). -/
theorem markOverload_spec (o : BlowerState) (time : Nat) :
    let due := o.protection = .running ∧ ∃ k, o.overloadTimer = some k ∧ 10 * time ≤ k + 1
    (due → o.markOverload time = tripped o .overload) ∧
    (¬due → o.markOverload time = { o with overloadTimer := o.overloadTimer.map (· + 1) }) ∧
    (o.markOverload time).current = o.current ∧
    ∀ k, o.window = some k → (o.markOverload time).window ≠ none → (o.markOverload time).window = some k := by
  intro due
  have iff : ({ o with overloadTimer := tickTimer o.overloadTimer } : BlowerState).overloadDue time = true ↔ due := by
    rw [overloadDue_iff]
    simp [tickTimer, due]
  unfold BlowerState.markOverload BlowerState.overloadStep
  refine ⟨fun h => ?_, fun h => ?_, ?_, fun k running => ?_⟩
  · rw [if_pos (iff.mpr h), trip_eq_tripped]
    rfl
  · rw [if_neg fun d => h (iff.mp d)]
    rfl
  · split
    · rw [trip_eq_tripped]
      rfl
    · rfl
  · split
    · rw [trip_eq_tripped, tripped]
      simp only [running, Option.getD_some]
      split
      · exact fun some => absurd rfl some
      · exact fun _ => rfl
    · exact fun _ => running

/-- Step 2: a trip window that was running (R142). -/
theorem markWindow_spec (was : Option Nat) (u : BlowerState) :
    (was = none ∨ u.window = none → u.markWindow was.isSome = u) ∧
    (∀ k, was ≠ none → u.window = some k →
      (k + 1 < 6000 → u.markWindow was.isSome = { u with window := some (k + 1) }) ∧
      (6000 ≤ k + 1 → u.markWindow was.isSome = { u with window := none, trips := 0 })) ∧
    (u.markWindow was.isSome).current = u.current := by
  cases was with
  | none => exact ⟨fun _ => rfl, fun _ some => absurd rfl some, rfl⟩
  | some j =>
    have eq : u.markWindow (some j).isSome = { u with window := tickTimer u.window }.windowStep := rfl
    rw [eq]
    refine ⟨fun none => ?_, fun k _ running => ?_, ?_⟩
    · have same : ({ u with window := tickTimer u.window } : BlowerState) = u := by
        rw [none.resolve_left (by simp), tickTimer, Option.map_none, ← none.resolve_left (by simp)]
      rw [same, BlowerState.windowStep, if_neg]
      simp [BlowerState.windowDue, none.resolve_left (by simp)]
    · have ticked : tickTimer u.window = some (k + 1) := by rw [running]; rfl
      rw [ticked, BlowerState.windowStep]
      refine ⟨fun early => if_neg ?_, fun due => if_pos ?_⟩
      · simpa [BlowerState.windowDue] using Nat.lt_of_succ_lt_succ early
      · simpa [BlowerState.windowDue] using due
    · unfold BlowerState.windowStep
      split <;> rfl

/-- Step 3: a cooldown that was running (R141). -/
theorem markCooldown_spec (was : Option Nat) (v : BlowerState) (short overload : Nat) :
    (was = none ∨ v.cooldown = none → v.markCooldown was.isSome short overload = v) ∧
    ∀ k, was ≠ none → v.cooldown = some k →
      (v.protection = .tripped ∧ 200 ≤ k + 1 → v.markCooldown was.isSome short overload =
        { v with
          protection := .running
          cooldown := none
          shortTimer := freshTimer v.current short
          overloadTimer := freshTimer v.current overload }) ∧
      (¬(v.protection = .tripped ∧ 200 ≤ k + 1) →
        v.markCooldown was.isSome short overload = { v with cooldown := some (k + 1) }) := by
  cases was with
  | none => exact ⟨fun _ => rfl, fun _ some => absurd rfl some⟩
  | some j =>
    have eq : v.markCooldown (some j).isSome short overload =
      { v with cooldown := tickTimer v.cooldown }.cooldownStep short overload := rfl
    rw [eq]
    refine ⟨fun none => ?_, fun k _ running => ?_⟩
    · have same : ({ v with cooldown := tickTimer v.cooldown } : BlowerState) = v := by
        rw [none.resolve_left (by simp), tickTimer, Option.map_none, ← none.resolve_left (by simp)]
      rw [same, BlowerState.cooldownStep, if_neg]
      simp [BlowerState.cooldownDue, none.resolve_left (by simp)]
    · have ticked : tickTimer v.cooldown = some (k + 1) := by rw [running]; rfl
      have due : ({ v with cooldown := some (k + 1) } : BlowerState).cooldownDue = true ↔
          v.protection = .tripped ∧ 200 ≤ k + 1 := by simp [BlowerState.cooldownDue]
      rw [ticked, BlowerState.cooldownStep]
      refine ⟨fun h => ?_, fun h => if_neg (mt due.mp h)⟩
      rw [if_pos (due.mpr h), resume_eq]

/-- Step 4: the ramp (R137). -/
theorem ramp_spec (w : BlowerState) (target : Nat) :
    (w.protection ≠ .running → ((w.takeTarget target).ramp).output = w.output) ∧
    (w.protection = .running →
      let output := ((w.takeTarget target).ramp).output
      (output = target ∧ w.output ≤ target + 20 ∧ target ≤ w.output + 20) ∨
      (w.output + 20 < target ∧ output = w.output + 20) ∨ (target + 20 < w.output ∧ output + 20 = w.output)) ∧
    (w.takeTarget target).ramp = { w with output := ((w.takeTarget target).ramp).output, target := target } := by
  refine ⟨fun stopped => ?_, fun running => ?_, ?_⟩
  · rw [BlowerState.ramp, if_neg (show (w.takeTarget target).protection ≠ .running from stopped)]
    rfl
  · have eq : ((w.takeTarget target).ramp).output = rampStep w.output target := by
      rw [BlowerState.ramp, if_pos (show (w.takeTarget target).protection = .running from running)]
      rfl
    simp only [eq, rampStep]
    split <;> omega
  · unfold BlowerState.ramp
    split <;> rfl

/-! ## The mark at the blowers -/

/-- Settles O12. -/
theorem rampMovesTowardTheTarget : Obligations.RampMovesTowardTheTarget := by
  intro fb order turn s released
  obtain ⟨u, around⟩ := frameMark_around s fb order turn .blowers
  set t := frameMark fb order turn s with ht
  set bs := u.blowers.mapWith fun b r =>
    r.mark u.settings.shortLevel (u.settings.overloadLevel.get b) u.settings.overloadTime with hbs
  have moved : BlowersMoved bs u (markBlock fb turn u .blowers) := blowerEvent_moved bs u
  obtain ⟨handed, -⟩ := around.before.blowers rfl
  obtain ⟨kept, fault⟩ := around.after.blowers rfl
  have settings : u.settings = s.settings :=
    (around.before.parts .settings (by decide)).trans (openedFrame_parts s .settings (by decide))
  refine ⟨t, exec_frameMark fb order turn released, ?_, fun b => ?_⟩
  · rw [fault, moved.fault]
    exact exists_congr fun b => by rw [kept b]
  set o := s.blowers.get b with ho
  set target := (u.blowers.get b).target with htarget
  have own : u.blowers.get b = o.takeTarget target := by
    rw [handed b, openedFrame_parts s .blowers (by decide)]
    rfl
  set first := o.markOverload s.settings.overloadTime with hfirst
  set second := first.markWindow o.window.isSome with hsecond
  set third := second.markCooldown o.cooldown.isSome s.settings.shortLevel (s.settings.overloadLevel.get b) with hthird
  have marked : bs.get b = (third.takeTarget target).ramp := by
    rw [hbs, PerBlower.get_mapWith, settings, own, mark_takeTarget]
  have became : t.blowers.get b = { (third.takeTarget target).ramp with target := (t.blowers.get b).target } := by
    rw [← marked]
    conv_lhs => rw [kept b, moved.blowers b]
  obtain ⟨trips, counts, current, windows⟩ := markOverload_spec o s.settings.overloadTime
  obtain ⟨windowIdle, windowRuns, current'⟩ := markWindow_spec o.window first
  obtain ⟨coolIdle, coolRuns⟩ :=
    markCooldown_spec o.cooldown second s.settings.shortLevel (s.settings.overloadLevel.get b)
  obtain ⟨stopped, ramps, eq⟩ := ramp_spec third target
  refine ⟨first, second, third, target, fun head => ?_, fun calm => ?_, trips, counts, windowIdle, fun k some some' => ?_,
    coolIdle, fun k some some' => ?_, ?_, fun stops => ?_, fun runs => ?_, fun reports => ?_⟩
  · rw [htarget, around.first head, openedFrame_parts s .blowers (by decide)]
  · obtain ⟨current, calmly, -⟩ := around.calm calm
    obtain ⟨before, after⟩ := calmly rfl
    have same : target = o.target := by rw [htarget, before]
    refine ⟨same, ?_⟩
    rw [after, (moved.calm current).1, marked, eq, same]
  · exact windowRuns k (by simp [some]) (windows k some some')
  · rw [← current'.trans current]
    exact coolRuns k some some'
  · rw [became, eq]
  · rw [became]
    exact stopped stops
  · rw [became]
    exact ramps runs
  · refine MarkedAll.stands (moved.marked ⟨b, ?_⟩) (around.after.stands .movers (by decide)) around.after.modes
    rw [own, marked, eq]
    rw [became, eq] at reports
    rcases reports with protection | ⟨window, ended⟩
    · have moves : o.protection ≠ third.protection := fun same => protection same.symm
      simp [BlowerState.reported, BlowerState.takeTarget, moves]
    · have ends : third.window = none := ended
      simp [BlowerState.reported, BlowerState.takeTarget, ends, Option.isSome_iff_ne_none.mpr window]

end Sys2Proof.Machine
end

section
/-! FRAME_MARK at the actuators, with their rows (O47). -/

namespace Sys2Proof.Machine

open Sys2Proof

section actuator

variable (w : ActuatorState)

theorem atTarget_iff : nearTarget w.target w.position = true ↔ w.AtTarget := nearTarget_iff _ _

/-- The three tests of a Moving actuator (R152). -/
theorem motionTests_spec (moving : w.motion = .moving) : MovingStep w w.motionTests := by
  have near := atTarget_iff w
  unfold ActuatorState.motionTests
  refine ⟨fun arrived => ?_, fun far beyond => ?_, fun far toward => ⟨fun progress => ?_, fun stands early => ?_,
    fun stands due => ?_⟩⟩
  · rw [if_pos (near.mpr arrived)]
    rfl
  · rw [if_neg (mt near.mp far), driveToward_eq, if_pos beyond]
    rfl
  · rw [if_neg (mt near.mp far), driveToward_eq, if_neg (not_not_intro toward), if_pos progress]
  · rw [if_neg (mt near.mp far), driveToward_eq, if_neg (not_not_intro toward), if_neg (not_not_intro stands),
      ActuatorState.stallStep, if_neg]
    rw [stallDue_iff]
    exact fun late => Nat.not_lt_of_le late.2 early
  · rw [if_neg (mt near.mp far), driveToward_eq, if_neg (not_not_intro toward), if_neg (not_not_intro stands),
      ActuatorState.stallStep, if_pos ((stallDue_iff { w with stallTimer := w.stallTimer + 1 }).mpr ⟨moving, due⟩)]
    rfl

/-- A reversal one frame on (R153). -/
theorem reversing_spec (reversing : w.motion = .reversing) :
    let v := ({ w with reversal := tickTimer w.reversal } : ActuatorState).reversalStep
    (w.reversal = none → v = w) ∧
    ∀ k, w.reversal = some k →
      (k + 1 < 10 → v = { w with reversal := some (k + 1) }) ∧
      (10 ≤ k + 1 → (w.AtTarget → v = w.restsAt) ∧ (¬w.AtTarget → v = w.movesOff w.retryUsed)) := by
  refine ⟨fun idle => ?_, fun k runs => ?_⟩
  · have same : ({ w with reversal := tickTimer w.reversal } : ActuatorState) = w := by
      rw [idle, tickTimer, Option.map_none, ← idle]
    rw [same, reversalStep_of_not_due]
    simp [idle]
  · have ticked : tickTimer w.reversal = some (k + 1) := by rw [runs]; rfl
    rw [ticked]
    refine ⟨fun early => reversalStep_of_not_due ?_, fun due => ?_⟩
    · rintro ⟨-, j, some, due⟩
      exact Nat.not_lt_of_le due (Option.some_inj.mp some ▸ early)
    · exact reversalStep_of_due (a := { w with reversal := some (k + 1) }) ⟨reversing, k + 1, rfl, due⟩

/-- A stall wait one frame on (R154). -/
theorem waiting_spec (stalled : w.motion = .stalled) :
    let v := ({ w with stallWait := tickTimer w.stallWait } : ActuatorState).waitStep
    (w.stallWait = none → v = w) ∧
    ∀ k, w.stallWait = some k →
      (k + 1 < 500 → v = { w with stallWait := some (k + 1) }) ∧
      (500 ≤ k + 1 → (w.AtTarget → v = w.restsAt) ∧ (¬w.AtTarget → v = w.movesOff true)) := by
  refine ⟨fun idle => ?_, fun k runs => ?_⟩
  · have same : ({ w with stallWait := tickTimer w.stallWait } : ActuatorState) = w := by
      rw [idle, tickTimer, Option.map_none, ← idle]
    rw [same, waitStep_of_not_due]
    simp [idle]
  · have ticked : tickTimer w.stallWait = some (k + 1) := by rw [runs]; rfl
    rw [ticked]
    refine ⟨fun early => waitStep_of_not_due ?_, fun due => ?_⟩
    · rintro ⟨-, j, some, due⟩
      exact Nat.not_lt_of_le due (Option.some_inj.mp some ▸ early)
    · exact waitStep_of_due (a := { w with stallWait := some (k + 1) }) ⟨stalled, k + 1, rfl, due⟩

theorem markMotion_of_reversing {w : ActuatorState} (h : w.motion = .reversing) :
    w.markMotion = ({ w with reversal := tickTimer w.reversal } : ActuatorState).reversalStep := by
  cases w
  cases h
  rfl

theorem markMotion_of_stalled {w : ActuatorState} (h : w.motion = .stalled) :
    w.markMotion = ({ w with stallWait := tickTimer w.stallWait } : ActuatorState).waitStep := by
  cases w
  cases h
  rfl

end actuator

/-- The mark of one actuator is what the manual makes of it (R149, R150, R152 to R154, R160). -/
theorem mark_marked (u : ActuatorState) (f closed opened : Nat) :
    ActuatorMarked f closed opened u (u.mark f closed opened) := by
  refine ⟨fun outside => ?_, fun inside apart => ?_⟩
  · rw [ActuatorState.mark, if_neg (mt (readingInRange_iff f).mp outside)]
    rfl
  · obtain ⟨q, rounds, position⟩ := positionOf_spec f apart
    have read : (within 0 100 q).toNat = positionOf f closed opened := by rw [← position, Int.toNat_natCast]
    have eq : u.mark f closed opened = if u.waiting then
        { u.readFeedback f closed opened with
          waiting := false, stallRef := positionOf f closed opened }.fromStill
        else (u.readFeedback f closed opened).markMotion := if_pos ((readingInRange_iff f).mpr inside)
    refine ⟨q, u.readFeedback f closed opened, rounds, by rw [read]; rfl, fun waits => ?_, fun goes => ?_⟩
    · rw [eq, if_pos waits]
      exact ⟨fun near => ActuatorState.fromStill_of_near ((nearTarget_iff _ _).mpr near),
        fun far => ActuatorState.fromStill_of_not_near (mt (nearTarget_iff _ _).mp far)⟩
    · rw [eq, goes, if_neg Bool.noConfusion]
      have step {m : Motion} (hm : u.motion = m) : (u.readFeedback f closed opened).motion = m := hm
      refine ⟨fun rests => ?_, fun moving => ?_, fun reversing => ?_, fun stalled => ?_⟩
      · rcases rests with still | stuck
        · rw [ActuatorState.markMotion, step still]
        · rw [ActuatorState.markMotion, step stuck]
      · rw [ActuatorState.markMotion, step moving]
        exact motionTests_spec _ moving
      · rw [markMotion_of_reversing (step reversing)]
        exact reversing_spec (u.readFeedback f closed opened) reversing
      · rw [markMotion_of_stalled (step stalled)]
        exact waiting_spec (u.readFeedback f closed opened) stalled

/-- FRAME_MARK at the actuators. -/
theorem frameMark_actuators (fb : PerActuator Nat) (order : List MarkBlock) (turn : Turn) {s : State}
    (released : s.resetHeld = false) : ∃ t, exec (.frameMark fb order turn) s = .next t ∧
      (t.conditions.actuatorStuck = true ↔ ∃ x, (t.actuators.get x).motion = .stuck) ∧
      ∀ x, ∃ u v, Retargeted (s.actuators.get x) u ∧ Retargeted v (t.actuators.get x) ∧
        (order.head? = some .actuators → u = s.actuators.get x) ∧
        (Calm s → u = s.actuators.get x ∧ v = t.actuators.get x) ∧
        ActuatorMarked (fb.get x) (s.settings.closedEnd.get x) (s.settings.openEnd.get x) u v ∧
        ((v.motion ≠ u.motion ∧ (v.motion = .stuck ∨ v.motion = .stalled)) ∨
          (u.motion = .stalled ∧ v.motion = .moving) → MarkedAll .movers t) := by
  obtain ⟨u, around⟩ := frameMark_around s fb order turn .actuators
  set t := frameMark fb order turn s with ht
  set as := u.actuators.mapWith fun x r =>
    r.mark (fb.get x) (u.settings.closedEnd.get x) (u.settings.openEnd.get x) with has
  have moved : ActuatorsMoved as u (markBlock fb turn u .actuators) := actuatorEvent_moved as u
  obtain ⟨handed, -⟩ := around.before.actuators rfl
  obtain ⟨kept, stuck⟩ := around.after.actuators rfl
  have settings : u.settings = s.settings :=
    (around.before.parts .settings (by decide)).trans (openedFrame_parts s .settings (by decide))
  have opened : (openedFrame s).actuators = s.actuators := openedFrame_parts s .actuators (by decide)
  refine ⟨t, exec_frameMark fb order turn released, ?_, fun x => ?_⟩
  · rw [stuck, moved.stuck]
    exact exists_congr fun x => (kept x).stuck_iff.symm
  · have marked : as.get x =
        (u.actuators.get x).mark (fb.get x) (s.settings.closedEnd.get x) (s.settings.openEnd.get x) := by
      rw [has, PerActuator.get_mapWith, settings]
    refine ⟨u.actuators.get x, as.get x, opened ▸ handed x, (moved.actuators x).trans (kept x), fun head => ?_,
      fun calm => ?_, ?_, fun reports => ?_⟩
    · rw [around.first head, opened]
    · obtain ⟨current, -, calmly⟩ := around.calm calm
      obtain ⟨before, after⟩ := calmly rfl
      rw [before, after, (moved.calm current).1]
      exact ⟨rfl, rfl⟩
    · rw [marked]
      exact mark_marked _ _ _ _
    · refine MarkedAll.stands (moved.marked ⟨x, ?_⟩) (around.after.stands .movers (by decide)) around.after.modes
      rcases reports with ⟨moves, stuck | stalled⟩ | ⟨stalled, moves⟩
      · have ne : (u.actuators.get x).motion ≠ .stuck := fun same => moves (stuck.trans same.symm)
        simp [ActuatorState.reported, stuck, ne]
      · have ne : (u.actuators.get x).motion ≠ .stalled := fun same => moves (stalled.trans same.symm)
        simp [ActuatorState.reported, stalled, ne]
      · simp [ActuatorState.reported, stalled, moves]

/-- Settles O47. -/
theorem actuatorTimersRunOut : Obligations.ActuatorTimersRunOut := by
  refine ⟨fun x s owned => ?_, fun fb order turn s released => frameMark_actuators fb order turn released⟩
  obtain ⟨-, -, -, -, stuck⟩ := owned
  obtain ⟨stalls, sticks, short⟩ := actuatorStall_row x (s := s) stuck
  obtain ⟨reverses, early⟩ := reversalEnd_row x (s := s) stuck
  obtain ⟨waits, waiting⟩ := stallWaitEnd_row x (s := s) stuck
  exact ⟨stalls, sticks, short, reverses, early, waits, waiting⟩

end Sys2Proof.Machine
end

section
/-! The limits of a purge: their rows, and FRAME_MARK at the Purge Controller (O30). -/

namespace Sys2Proof.Machine

open Sys2Proof

/-! ## The limit rows -/

theorem purgeEvent_congr {f g : State → State} {s : State} (h : f s = g s) : purgeEvent f s = purgeEvent g s := by
  unfold purgeEvent
  rw [h]

theorem purgeEvent_of_same {f : State → State} {s : State} (h : f s = s) : purgeEvent f s = s := by
  rw [purgeEvent_of_unmoved (by rw [h]) (by rw [h]), h]

theorem purgeEvent_of_end {f : State → State} {s : State} {r : PurgeResult} (h : f s = endPurge r s)
    (phase : s.purge.phase ≠ .idle) : PurgeEnds r s (purgeEvent f s) := by
  rw [purgeEvent_congr (g := endPurge r) h]
  exact purgeEvent_endPurge r phase

/-- The fallback is due at a flushing time (R88). -/
def FallbackDue (s : State) (flushing : Nat) : Prop := s.flowShown = none ∧ 100 * s.settings.fallbackFlush ≤ flushing

theorem fallbackTest_of_due {s : State} (phase : s.purge.phase = .flushing) (due : FallbackDue s s.purge.flushing) :
    fallbackTest s = endPurge .doneTimed s := if_pos ⟨phase, due⟩

theorem fallbackTest_of_not {s : State} (h : ¬(s.purge.phase = .flushing ∧ FallbackDue s s.purge.flushing)) :
    fallbackTest s = s := if_neg h

/-- Test 1 before test 2 in Flushing (R80). -/
theorem flushingTests_spec (s : State) :
    (s.purge.phase = .flushing → FallbackDue s s.purge.flushing →
      flushingLimit (fallbackTest s) = endPurge .doneTimed s) ∧
    (s.purge.phase = .flushing → 60000 ≤ s.purge.flushing → ¬FallbackDue s s.purge.flushing →
      flushingLimit (fallbackTest s) = endPurge .abortedTime s) ∧
    (s.purge.phase ≠ .flushing ∨ (s.purge.flushing < 60000 ∧ ¬FallbackDue s s.purge.flushing) →
      flushingLimit (fallbackTest s) = s) := by
  refine ⟨fun phase due => ?_, fun phase late undue => ?_, fun still => ?_⟩
  · have ended := (endPurge_clearedPurge .doneTimed s).purge
    rw [fallbackTest_of_due phase due]
    exact if_neg fun again => PurgePhase.noConfusion (again.1.symm.trans (congrArg Purge.phase ended))
  · rw [fallbackTest_of_not fun due => undue due.2]
    exact if_pos ⟨phase, late⟩
  · have first : fallbackTest s = s := fallbackTest_of_not fun due =>
      still.elim (fun other => other due.1) fun early => early.2 due.2
    rw [first]
    exact if_neg fun late => still.elim (fun other => other late.1) fun early => Nat.not_le_of_lt early.1 late.2

/-- The tests of a mark, by the phase (R80). -/
theorem purgeLimits_spec (s : State) :
    (s.purge.phase = .idle → purgeLimits s = s) ∧
    (s.purge.phase = .armed → (s.purge.armed < 30000 → purgeLimits s = s) ∧
      (30000 ≤ s.purge.armed → purgeLimits s = endPurge .abortedDoors s)) ∧
    (s.purge.phase = .deferred → (s.purge.deferred < 90000 → purgeLimits s = s) ∧
      (90000 ≤ s.purge.deferred → purgeLimits s = endPurge .abortedSmoke s)) ∧
    (s.purge.phase = .flushing → purgeLimits s = flushingLimit (fallbackTest s)) := by
  have armed (h : ¬(s.purge.phase = .armed ∧ 30000 ≤ s.purge.armed)) : armedLimit s = s := if_neg h
  have deferred (h : ¬(s.purge.phase = .deferred ∧ 90000 ≤ s.purge.deferred)) : deferredLimit s = s := if_neg h
  have ended {t : State} (h : t.purge.phase = .idle) : flushingLimit (fallbackTest (deferredLimit t)) = t := by
    have one : deferredLimit t = t := if_neg fun d => PurgePhase.noConfusion (h.symm.trans d.1)
    rw [one]
    exact (flushingTests_spec t).2.2 (.inl (by rw [h]; exact PurgePhase.noConfusion))
  have done (r : PurgeResult) : (endPurge r s).purge.phase = .idle := by rw [(endPurge_clearedPurge r s).purge]; rfl
  refine ⟨fun idle => ?_, fun phase => ⟨fun early => ?_, fun late => ?_⟩, fun phase => ⟨fun early => ?_, fun late => ?_⟩,
    fun phase => ?_⟩
  · rw [purgeLimits, armed (by simp [idle]), ended idle]
  · rw [purgeLimits, armed fun h => Nat.not_le_of_lt early h.2, deferred (by simp [phase]),
      (flushingTests_spec s).2.2 (.inl (by simp [phase]))]
  · rw [purgeLimits, armedLimit, if_pos ⟨phase, late⟩, ended (done _)]
  · rw [purgeLimits, armed (by simp [phase]), deferred fun h => Nat.not_le_of_lt early h.2,
      (flushingTests_spec s).2.2 (.inl (by simp [phase]))]
  · have one : deferredLimit s = endPurge .abortedSmoke s := if_pos ⟨phase, late⟩
    rw [purgeLimits, armed (by simp [phase]), one]
    exact (flushingTests_spec _).2.2 (.inl (by simp [done]))
  · rw [purgeLimits, armed (by simp [phase]), deferred (by simp [phase])]

/-! ## The purge beside the other blocks -/

/-- From `s` to `t` blocks that touch neither the stations nor the purge take their parts: the drives alone. -/
structure DriveBlocks (s t : State) : Prop where
  parts : ChangesOnly resolutionParts s t
  smoke : t.conditions.heavySmoke = s.conditions.heavySmoke

theorem DriveBlocks.refl (s : State) : DriveBlocks s s := ⟨.refl _ s, rfl⟩

theorem DriveBlocks.trans {s t u : State} (h : DriveBlocks s t) (h' : DriveBlocks t u) : DriveBlocks s u :=
  ⟨h.parts.trans h'.parts, h'.smoke.trans h.smoke⟩

theorem driveBlocks_foldl (fb : PerActuator Nat) (turn : Turn) {l : List MarkBlock} (noS : .supervision ∉ l)
    (noP : .purge ∉ l) (s : State) : DriveBlocks s (l.foldl (markBlock fb turn) s) := by
  refine List.foldlRecOn (motive := DriveBlocks s) _ _ (.refl s) fun u hu c hc => hu.trans ?_
  cases c with
  | supervision => exact absurd hc noS
  | purge => exact absurd hc noP
  | blowers =>
    have moved := blowerEvent_moved (u.blowers.mapWith fun b r =>
      r.mark u.settings.shortLevel (u.settings.overloadLevel.get b) u.settings.overloadTime) u
    exact ⟨moved.parts, moved.conditions .heavySmoke (by decide)⟩
  | actuators =>
    have moved := actuatorEvent_moved (u.actuators.mapWith fun a r =>
      r.mark (fb.get a) (u.settings.closedEnd.get a) (u.settings.openEnd.get a)) u
    exact ⟨moved.parts, moved.conditions .heavySmoke (by decide)⟩

theorem DriveBlocks.purgeSees {s t : State} (h : DriveBlocks s t) : PurgeSees s t :=
  ⟨h.parts .purge (by decide), h.parts .settings (by decide), h.smoke, h.parts .record (by decide)⟩

theorem DriveBlocks.modeOf {s t : State} (h : DriveBlocks s t) (n : Station) : t.modeOf n = s.modeOf n := by
  rw [State.modeOf, h.parts .stations (by decide)]
  rfl

/-- The Vehicle-class station enters Lost between two states, and so every door is taken closed (R97). -/
def VehicleLost (s t : State) : Prop := ∃ n, s.vehicleStation = some n ∧ EntersLost s t n

/-- What the mark's supervision does to the purge: it leaves Armed where the doors of its scope are taken closed, and
stays as it was otherwise (R77, R97). -/
structure PurgeSupervised (s t : State) : Prop where
  shuts : s.purge.phase = .armed → s.scopeOpen = true → VehicleLost s t → DoorsShut s t
  kept : ¬(s.purge.phase = .armed ∧ s.scopeOpen = true ∧ VehicleLost s t) → t.purge = s.purge

theorem superviseMark_purge (turn : Turn) (s : State) : PurgeSupervised s (superviseMark turn s) := by
  cases superviseMark_vehicle turn s with
  | stays still _ purge =>
    refine ⟨fun _ _ ⟨n, own, ne, lost⟩ => absurd ((still n own).symm.trans lost) ne, fun _ => purge⟩
  | quiets m own' _ quiet _ purge =>
    refine ⟨fun _ _ ⟨n, own, _, lost⟩ => ?_, fun _ => purge⟩
    rw [Option.some_inj.mp (own'.symm.trans own)] at quiet
    exact StationMode.noConfusion (quiet.symm.trans lost)
  | loses n own lost _ shuts kept =>
    exact ⟨fun armed wide _ => shuts armed wide, fun still => kept fun h => still ⟨h.1, h.2, n, own, lost⟩⟩

/-- The drives' blocks before and after the supervision change nothing of this. -/
theorem PurgeSupervised.between {s u v t : State} (h : PurgeSupervised u v) (before : DriveBlocks s u)
    (after : DriveBlocks v t) : PurgeSupervised s t := by
  have sees := before.purgeSees
  have wide : u.scopeOpen = s.scopeOpen := sees.scopeOpen (before.parts .vehicle (by decide))
  have last : t.purge = v.purge := after.parts .purge (by decide)
  have lost : VehicleLost u v ↔ VehicleLost s t := by
    simp only [VehicleLost, EntersLost, vehicleStation_congr sees.settings, before.modeOf, after.modeOf]
  refine ⟨fun armed ajar gone => ?_, fun still => ?_⟩
  · exact (h.shuts (by rwa [sees.purge]) (by rwa [wide]) (lost.mpr gone)).congr sees last
  · rw [last, h.kept (by rwa [sees.purge, wide, lost]), sees.purge]

/-- The blocks beside the Purge Controller, among them the supervision. -/
theorem purgeSupervised_foldl (fb : PerActuator Nat) (turn : Turn) {l : List MarkBlock} (nodup : l.Nodup)
    (noP : .purge ∉ l) (mem : .supervision ∈ l) (s : State) : PurgeSupervised s (l.foldl (markBlock fb turn) s) := by
  obtain ⟨a, b, rfl⟩ := List.append_of_mem mem
  obtain ⟨once, -⟩ := List.nodup_cons.mp (List.nodup_middle.mp nodup)
  simp only [List.mem_append, List.mem_cons, not_or] at once noP
  rw [List.foldl_append, List.foldl_cons]
  exact (superviseMark_purge turn _).between (driveBlocks_foldl fb turn once.1 noP.1 s)
    (driveBlocks_foldl fb turn once.2 noP.2.2 _)

/-- The supervision of a mark comes before the Purge Controller or after it (log entry 5). -/
theorem FrameAround.purge {fb : PerActuator Nat} {order : List MarkBlock} {turn : Turn} {s u t : State}
    (h : FrameAround fb order turn .purge s u t) :
    (PurgeSupervised (openedFrame s) u ∧ DriveBlocks (markPurge u) t) ∨
    (DriveBlocks (openedFrame s) u ∧ PurgeSupervised (markPurge u) t) := by
  obtain ⟨l, r, rfl, rfl, noL, noR, nodup, mem⟩ := h.placed
  obtain ⟨nodupL, nodupR, apart⟩ := List.nodup_append.mp nodup
  rcases mem .supervision (by decide) with inL | inR
  · exact .inl ⟨purgeSupervised_foldl fb turn nodupL noL inL _,
      driveBlocks_foldl fb turn (fun inR => apart _ inL _ inR rfl) noR _⟩
  · exact .inr ⟨driveBlocks_foldl fb turn (fun inL => apart _ inL _ inR rfl) noL _,
      purgeSupervised_foldl fb turn nodupR noR inR _⟩

end Sys2Proof.Machine
end

section
/-! FRAME_MARK at the Purge Controller (O30). -/

namespace Sys2Proof.Machine

open Sys2Proof

/-- The state in which a mark makes its tests: the timer of the phase one on (R80). -/
def tickedPurge (u : State) : State := u.setPurge u.purge.tick

theorem Purge.tick_kept (p : Purge) : p.tick.phase = p.phase ∧ p.tick.scope = p.scope ∧
    p.tick.originator = p.originator ∧ p.tick.litres = p.litres := by
  unfold Purge.tick
  split <;> exact ⟨rfl, rfl, rfl, rfl⟩

theorem Purge.tick_of_idle {p : Purge} (h : p.phase = .idle) : p.tick = p := by
  cases p
  cases h
  rfl

theorem Purge.tick_of_armed {p : Purge} (h : p.phase = .armed) : p.tick = { p with armed := p.armed + 1 } := by
  cases p
  cases h
  rfl

theorem Purge.tick_of_deferred {p : Purge} (h : p.phase = .deferred) :
    p.tick = { p with deferred := p.deferred + 1 } := by
  cases p
  cases h
  rfl

theorem Purge.tick_of_flushing {p : Purge} (h : p.phase = .flushing) :
    p.tick = { p with flushing := p.flushing + 1 } := by
  cases p
  cases h
  rfl

theorem markPurge_of_same {u : State} (h : purgeLimits (tickedPurge u) = tickedPurge u) :
    markPurge u = tickedPurge u := purgeEvent_of_same h

theorem markPurge_of_end {u : State} {r : PurgeResult} (h : purgeLimits (tickedPurge u) = endPurge r (tickedPurge u))
    (phase : u.purge.phase ≠ .idle) : PurgeEnds r (tickedPurge u) (markPurge u) := by
  refine purgeEvent_of_end h ?_
  rwa [show (tickedPurge u).purge.phase = u.purge.phase from (Purge.tick_kept _).1]

theorem purgeLimits_cases (s : State) : purgeLimits s = s ∨
    (∃ r, purgeLimits s = endPurge r s) := by
  obtain ⟨idle, armed, deferred, flushing⟩ := purgeLimits_spec s
  obtain ⟨fallback, late, still⟩ := flushingTests_spec s
  cases phase : s.purge.phase with
  | idle => exact .inl (idle phase)
  | armed =>
    rcases Nat.lt_or_ge s.purge.armed 30000 with early | due
    · exact .inl ((armed phase).1 early)
    · exact .inr ⟨_, (armed phase).2 due⟩
  | deferred =>
    rcases Nat.lt_or_ge s.purge.deferred 90000 with early | due
    · exact .inl ((deferred phase).1 early)
    · exact .inr ⟨_, (deferred phase).2 due⟩
  | flushing =>
    rw [flushing phase]
    by_cases due : FallbackDue s s.purge.flushing
    · exact .inr ⟨_, fallback phase due⟩
    · rcases Nat.lt_or_ge s.purge.flushing 60000 with early | due'
      · exact .inl (still (.inr ⟨early, due⟩))
      · exact .inr ⟨_, late phase due' due⟩

/-- A mark leaves a purge in its phase or ends it (R80). -/
theorem markPurge_cases (u : State) : markPurge u = tickedPurge u ∨ (markPurge u).purge.phase = .idle := by
  rcases purgeLimits_cases (tickedPurge u) with same | ⟨r, ends⟩
  · exact .inl (markPurge_of_same same)
  · refine .inr ?_
    have ended := (endPurge_clearedPurge r (tickedPurge u)).purge
    have hands := (purgeEvent_hands purgeLimits (tickedPurge u)).1
    rw [ends, ended] at hands
    exact congrArg Purge.phase hands

theorem markPurge_armed {u : State} (h : (markPurge u).purge.phase = .armed) :
    markPurge u = tickedPurge u ∧ u.purge.phase = .armed := by
  rcases markPurge_cases u with same | idle
  · refine ⟨same, ?_⟩
    rw [same] at h
    exact (Purge.tick_kept _).1.symm.trans h
  · exact PurgePhase.noConfusion (idle.symm.trans h)

theorem openedFrame_purgeSees (s : State) : PurgeSees s (openedFrame s) :=
  ⟨openedFrame_parts s .purge (by decide), openedFrame_parts s .settings (by decide),
    by rw [show (openedFrame s).conditions = s.conditions from openedFrame_parts s .conditions (by decide)],
    openedFrame_parts s .record (by decide)⟩

theorem openedFrame_scopeOpen (s : State) : (openedFrame s).scopeOpen = s.scopeOpen := by
  rw [State.scopeOpen, (openedFrame_purgeSees s).scopeOpenIn]
  rfl

theorem vehicleLost_opened (s t : State) : VehicleLost (openedFrame s) t ↔ VehicleLost s t := by
  simp only [VehicleLost, EntersLost, openedFrame_vehicleStation, openedFrame_modeOf]

theorem tickedPurge_scopeOpen (u : State) : (tickedPurge u).scopeOpen = u.scopeOpen := by
  simp only [State.scopeOpen, State.scopeOpenIn, tickedPurge, State.setPurge_purge, (Purge.tick_kept _).2.1]
  rfl

/-- What the Vehicle-class station makes of the purge does not turn on the drives and the timers. -/
theorem vehicleLost_congr {s u t : State} (settings : u.settings = s.settings) (stations : u.stations = s.stations) :
    VehicleLost u t ↔ VehicleLost s t := by
  simp only [VehicleLost, EntersLost, vehicleStation_congr settings, State.modeOf, stations]

section around

variable {fb : PerActuator Nat} {order : List MarkBlock} {turn : Turn} {s u t : State}

theorem FrameAround.flow (h : FrameAround fb order turn .purge s u t) :
    u.flowShown = s.flowShown ∧ u.settings = s.settings ∧ u.conditions.heavySmoke = s.conditions.heavySmoke := by
  have record : u.record = s.record :=
    (h.before.parts .record (by decide)).trans (openedFrame_parts s .record (by decide))
  refine ⟨by rw [State.flowShown, State.channel, record, State.flowShown, State.channel],
    (h.before.parts .settings (by decide)).trans (openedFrame_parts s .settings (by decide)), ?_⟩
  exact (h.before.conditions .heavySmoke (by decide)).trans (openedFrame_purgeSees s).smoke

/-- Where no doors are taken closed under an Armed purge, the other blocks leave the purge to its own block. -/
theorem FrameAround.apart (h : FrameAround fb order turn .purge s u t)
    (apart : ¬(s.purge.phase = .armed ∧ s.scopeOpen = true ∧ VehicleLost s t)) :
    u.purge = s.purge ∧ t.purge = (markPurge u).purge := by
  have opened := openedFrame_purgeSees s
  rcases h.purge with ⟨before, after⟩ | ⟨before, after⟩
  · have lost : VehicleLost (openedFrame s) u ↔ VehicleLost s t := by
      rw [vehicleLost_opened]
      have modes (n : Station) : t.modeOf n = u.modeOf n := by
        rw [after.modeOf, State.modeOf, State.modeOf]
        simp
      simp only [VehicleLost, EntersLost, modes]
    refine ⟨?_, after.parts .purge (by decide)⟩
    rw [before.kept (by rwa [opened.purge, openedFrame_scopeOpen, lost]), opened.purge]
  · have same : u.purge = s.purge := (before.parts .purge (by decide)).trans opened.purge
    refine ⟨same, after.kept fun ⟨armed, wide, gone⟩ => apart ?_⟩
    obtain ⟨ticked, armed'⟩ := markPurge_armed armed
    refine ⟨same ▸ armed', ?_, ?_⟩
    · rw [ticked, tickedPurge_scopeOpen, before.purgeSees.scopeOpen (before.parts .vehicle (by decide)),
        openedFrame_scopeOpen] at wide
      exact wide
    · refine (vehicleLost_congr ?_ ?_).mp gone
      · simpa using h.flow.2.1
      · rw [show (markPurge u).stations = u.stations by simp, before.parts .stations (by decide)]
        exact openedFrame_parts s .stations (by decide)

/-- A purge that goes on through a mark (R80). -/
theorem FrameAround.goesOn (h : FrameAround fb order turn .purge s u t) (same : u.purge = s.purge)
    (last : t.purge = (markPurge u).purge) (limits : purgeLimits (tickedPurge u) = tickedPurge u) :
    t.purge = s.purge.tick ∧ t.conditions.purgeIncomplete = s.conditions.purgeIncomplete := by
  have eq := markPurge_of_same limits
  constructor
  · rw [last, eq, tickedPurge, same]
    rfl
  · have after : t.conditions.purgeIncomplete = (markPurge u).conditions.purgeIncomplete := h.after.incomplete rfl
    rw [after, eq]
    exact (h.before.incomplete rfl).trans (by
      rw [show (openedFrame s).conditions = s.conditions from openedFrame_parts s .conditions (by decide)])

/-- A purge that a mark ends with a result (R80, R82 to R84). -/
theorem FrameAround.ends (h : FrameAround fb order turn .purge s u t) (same : u.purge = s.purge)
    (last : t.purge = (markPurge u).purge) (phase : s.purge.phase ≠ .idle) {r : PurgeResult}
    (limits : purgeLimits (tickedPurge u) = endPurge r (tickedPurge u)) :
    (∃ shelter, t.purge = ⟨.idle, none, none, none, 0, 0, 0, 0, 0,
        ⟨r, s.purge.scope, s.purge.originator, s.purge.litres, s.purge.tick.flushing / 100, s.purge.tick.deferred / 100,
          shelter⟩⟩ ∧
      (order.head? = some .purge ∨ Steady s → shelter = s.plan.body.shelter)) ∧
    t.conditions.purgeIncomplete =
      (s.conditions.purgeIncomplete || decide (r = .abortedDoors ∨ r = .abortedSmoke ∨ r = .abortedTime)) ∧
    t.plan.body = formPlan t ∧ MarkedAll .purge t := by
  obtain ⟨purge, incomplete, current, marked, -⟩ := markPurge_of_end limits (by rwa [same])
  obtain ⟨-, scope, originator, litres⟩ := Purge.tick_kept s.purge
  have ticked : (tickedPurge u).purge = s.purge.tick := by rw [tickedPurge, State.setPurge_purge, same]
  rw [ticked, scope, originator, litres] at purge
  have after : t.conditions.purgeIncomplete = (markPurge u).conditions.purgeIncomplete := h.after.incomplete rfl
  have before : (tickedPurge u).conditions.purgeIncomplete = s.conditions.purgeIncomplete :=
    (h.before.incomplete rfl).trans (by
      rw [show (openedFrame s).conditions = s.conditions from openedFrame_parts s .conditions (by decide)])
  refine ⟨⟨_, last.trans purge, fun plain => ?_⟩, ?_, h.after.current current,
    marked.stands (h.after.stands .purge (by decide)) h.after.modes⟩
  · have plan : u.plan = s.plan := by
      rcases plain with first | steady
      · rw [h.first first]
        exact openedFrame_parts s .plan (by decide)
      · exact h.steady steady rfl
    show u.plan.body.shelter = _
    rw [plan]
  · rw [after, incomplete, before]

/-- Doors taken closed under an Armed purge, by the mark's supervision before or after the Purge Controller: the purge
leaves Armed, and its new phase stays where no limit of it is reached (R77, R97). -/
theorem FrameAround.shut (h : FrameAround fb order turn .purge s u t) (armed : s.purge.phase = .armed)
    (wide : s.scopeOpen = true) (lost : VehicleLost s t) :
    t.purge.phase ≠ .armed ∧
    (s.purge.armed + 1 < 30000 → s.conditions.heavySmoke = true → s.purge.deferred + 1 < 90000 →
      t.purge.phase = .deferred) ∧
    (s.purge.armed + 1 < 30000 → s.conditions.heavySmoke = false → s.flowShown ≠ none →
      s.purge.flushing + 1 < 60000 → t.purge.phase = .flushing) := by
  have opened := openedFrame_purgeSees s
  obtain ⟨flow, settings, smoke⟩ := h.flow
  rcases h.purge with ⟨before, after⟩ | ⟨before, after⟩
  · have gone : VehicleLost (openedFrame s) u := by
      have modes (n : Station) : t.modeOf n = u.modeOf n := by
        rw [after.modeOf, State.modeOf, State.modeOf]
        simp
      rw [vehicleLost_opened]
      simpa only [VehicleLost, EntersLost, modes] using lost
    have shut : DoorsShut s u :=
      (before.shuts (by rwa [opened.purge]) (by rwa [openedFrame_scopeOpen]) gone).congr opened rfl
    have last : t.purge = (markPurge u).purge := after.parts .purge (by decide)
    rw [last]
    refine ⟨fun still => shut.leaves (markPurge_armed still).2, fun _ smoky early => ?_, fun _ clear shown early => ?_⟩
    · have became := shut.smoke smoky
      have ticked : (tickedPurge u).purge = { s.purge with phase := .deferred, armed := 0, deferred := s.purge.deferred + 1 } := by
        rw [tickedPurge, became]
        rfl
      rw [markPurge_of_same, ticked]
      exact (((purgeLimits_spec (tickedPurge u)).2.2.1 (by rw [ticked])).1 (by rwa [ticked]))
    · have became := shut.flow clear shown
      have ticked : (tickedPurge u).purge =
          { s.purge with phase := .flushing, armed := 0, flushing := s.purge.flushing + 1 } := by
        rw [tickedPurge, became]
        rfl
      rw [markPurge_of_same, ticked]
      rw [(purgeLimits_spec (tickedPurge u)).2.2.2 (by rw [ticked])]
      exact (flushingTests_spec _).2.2 (.inr ⟨by rwa [ticked], fun due => shown (flow.symm.trans due.1)⟩)
  · have same : u.purge = s.purge := (before.parts .purge (by decide)).trans opened.purge
    have ticked : (tickedPurge u).purge = { s.purge with armed := s.purge.armed + 1 } := by
      rw [tickedPurge, State.setPurge_purge, same, Purge.tick_of_armed armed]
    obtain ⟨goes, ends⟩ := (purgeLimits_spec (tickedPurge u)).2.1 (by rw [ticked]; exact armed)
    rcases Nat.lt_or_ge (s.purge.armed + 1) 30000 with early | late
    · have eq := markPurge_of_same (goes (by rwa [ticked]))
      rw [eq] at after
      have gone : VehicleLost (tickedPurge u) t := by
        refine (vehicleLost_congr settings ?_).mpr lost
        exact (before.parts .stations (by decide)).trans (openedFrame_parts s .stations (by decide))
      have wide' : (tickedPurge u).scopeOpen = true := by
        rw [tickedPurge_scopeOpen, before.purgeSees.scopeOpen (before.parts .vehicle (by decide)),
          openedFrame_scopeOpen, wide]
      have shut := after.shuts (by rw [ticked]; exact armed) wide' gone
      refine ⟨shut.leaves, fun _ smoky _ => ?_, fun _ clear shown _ => ?_⟩
      · rw [shut.smoke (smoke.trans smoky)]
      · rw [shut.flow (smoke.trans clear) (fun none => shown (flow.symm.trans none))]
    · have idle : (markPurge u).purge.phase = .idle := by
        obtain ⟨purge, -⟩ := markPurge_of_end (ends (by rwa [ticked])) (by rw [same, armed]; exact PurgePhase.noConfusion)
        rw [purge]
      have last : t.purge = (markPurge u).purge :=
        after.kept fun still => PurgePhase.noConfusion (idle.symm.trans still.1)
      rw [last, idle]
      exact ⟨PurgePhase.noConfusion, fun early => absurd early (Nat.not_lt_of_le late),
        fun early => absurd early (Nat.not_lt_of_le late)⟩

end around

theorem scopeOpen_iff_exists (s : State) :
    s.scopeOpen = true ↔ ∃ sc, s.purge.scope = some sc ∧ DoorOpenIn sc s := by
  constructor
  · intro wide
    cases scope : s.purge.scope with
    | none => simp [State.scopeOpen, State.scopeOpenIn, scope] at wide
    | some sc => exact ⟨sc, rfl, (scopeOpen_iff scope).mp wide⟩
  · rintro ⟨sc, scope, wide⟩
    exact (scopeOpen_iff scope).mpr wide

/-- The four limit rows (R80, R88). -/
theorem purgeLimit_rows (s : State) :
    (∃ t, exec .purgeArmedLimit s = .next t ∧
      (s.purge.phase = .armed → 30000 ≤ s.purge.armed → PurgeEnds .abortedDoors s t) ∧
      (¬(s.purge.phase = .armed ∧ 30000 ≤ s.purge.armed) → t = s)) ∧
    (∃ t, exec .purgeDeferredLimit s = .next t ∧
      (s.purge.phase = .deferred → 90000 ≤ s.purge.deferred → PurgeEnds .abortedSmoke s t) ∧
      (¬(s.purge.phase = .deferred ∧ 90000 ≤ s.purge.deferred) → t = s)) ∧
    (∃ t, exec .fallbackFlushExpiry s = .next t ∧
      (s.purge.phase = .flushing → FallbackDue s s.purge.flushing → PurgeEnds .doneTimed s t) ∧
      (¬(s.purge.phase = .flushing ∧ FallbackDue s s.purge.flushing) → t = s)) ∧
    (∃ t, exec .purgeFlushingLimit s = .next t ∧
      (s.purge.phase = .flushing → FallbackDue s s.purge.flushing → PurgeEnds .doneTimed s t) ∧
      (s.purge.phase = .flushing → 60000 ≤ s.purge.flushing → ¬FallbackDue s s.purge.flushing →
        PurgeEnds .abortedTime s t) ∧
      (s.purge.phase ≠ .flushing → t = s) ∧
      (s.purge.flushing < 60000 → ¬FallbackDue s s.purge.flushing → t = s)) := by
  have way {p : PurgePhase} (h : s.purge.phase = p) (ne : p ≠ .idle) : s.purge.phase ≠ .idle := h ▸ ne
  obtain ⟨fallback, late, still⟩ := flushingTests_spec s
  refine ⟨⟨_, rfl, fun phase due => ?_, fun short => ?_⟩, ⟨_, rfl, fun phase due => ?_, fun short => ?_⟩,
    ⟨_, rfl, fun phase due => ?_, fun short => ?_⟩, ⟨_, rfl, fun phase due => ?_, fun phase over' undue => ?_,
      fun other => ?_, fun early undue => ?_⟩⟩
  · exact purgeEvent_of_end (if_pos ⟨phase, due⟩) (way phase (by decide))
  · exact purgeEvent_of_same (if_neg short)
  · exact purgeEvent_of_end (if_pos ⟨phase, due⟩) (way phase (by decide))
  · exact purgeEvent_of_same (if_neg short)
  · exact purgeEvent_of_end (fallbackTest_of_due phase due) (way phase (by decide))
  · exact purgeEvent_of_same (fallbackTest_of_not short)
  · exact purgeEvent_of_end (fallback phase due) (way phase (by decide))
  · exact purgeEvent_of_end (late phase over' undue) (way phase (by decide))
  · exact purgeEvent_of_same (still (.inl other))
  · exact purgeEvent_of_same (still (.inr ⟨early, undue⟩))

/-- Settles O30. -/
theorem timeLimitsEndThePurge : Obligations.TimeLimitsEndThePurge := by
  intro s fallback
  obtain ⟨armedRow, deferredRow, expiryRow, flushingRow⟩ := purgeLimit_rows s
  refine ⟨armedRow, deferredRow, expiryRow, flushingRow, fun fb order turn released => ?_⟩
  obtain ⟨u, around⟩ := frameMark_around s fb order turn .purge
  set t := frameMark fb order turn s with ht
  refine ⟨t, exec_frameMark fb order turn released, ?_⟩
  intro goesOn ends closes
  have closes_iff : closes ↔ VehicleLost s t ∧ s.scopeOpen = true := by
    rw [scopeOpen_iff_exists]
    exact Iff.rfl
  obtain ⟨flow, settings, -⟩ := around.flow
  have apart (h : ¬(s.purge.phase = .armed ∧ closes)) : u.purge = s.purge ∧ t.purge = (markPurge u).purge := by
    refine around.apart fun both => h ⟨both.1, closes_iff.mpr ⟨both.2.2, both.2.1⟩⟩
  have due (k : Nat) : FallbackDue (tickedPurge u) k ↔ fallback k := by
    show (u.flowShown = none ∧ 100 * u.settings.fallbackFlush ≤ k) ↔ _
    rw [flow, settings]
  have ticked {p : Purge} (hp : s.purge.tick = p) (same : u.purge = s.purge) : (tickedPurge u).purge = p := by
    rw [tickedPurge, State.setPurge_purge, same, hp]
  have goes {p : Purge} (hp : s.purge.tick = p) (both : u.purge = s.purge ∧ t.purge = (markPurge u).purge)
      (limits : purgeLimits (tickedPurge u) = tickedPurge u) : goesOn p := by
    subst hp
    exact around.goesOn both.1 both.2 limits
  have ended {p : Purge} (r : PurgeResult) (hp : s.purge.tick = p)
      (both : u.purge = s.purge ∧ t.purge = (markPurge u).purge) (phase : s.purge.phase ≠ .idle)
      (limits : purgeLimits (tickedPurge u) = endPurge r (tickedPurge u))
      (result : decide (r = .abortedDoors ∨ r = .abortedSmoke ∨ r = .abortedTime) = decide (r ≠ .doneTimed)) :
      ends r p.flushing p.deferred := by
    subst hp
    obtain ⟨purge, incomplete, current, marked⟩ := around.ends both.1 both.2 phase limits
    exact ⟨purge, result ▸ incomplete, current, marked⟩
  obtain ⟨restIdle, restArmed, restDeferred, restFlushing⟩ := purgeLimits_spec (tickedPurge u)
  obtain ⟨timed, late, still⟩ := flushingTests_spec (tickedPurge u)
  refine ⟨fun phase => ?_, fun phase => ?_, fun phase => ?_, fun phase ajar => ?_, fun phase shut => ?_⟩
  · have both := apart (by simp [phase])
    have tick := Purge.tick_of_idle phase
    exact goes tick both (restIdle (by rw [ticked tick both.1, phase]))
  · have both := apart (by simp [phase])
    have tick := Purge.tick_of_deferred phase
    have now := ticked tick both.1
    obtain ⟨before, limit⟩ := restDeferred (by rw [now]; exact phase)
    rw [now] at before limit
    exact ⟨fun early => goes tick both (before early),
      fun due => ended _ tick both (by simp [phase]) (limit due) (by decide)⟩
  · have both := apart (by simp [phase])
    have tick := Purge.tick_of_flushing phase
    have now := ticked tick both.1
    have limits := restFlushing (by rw [now]; exact phase)
    rw [now] at timed late still
    simp only [due] at timed late still
    exact ⟨fun back => ended _ tick both (by simp [phase]) (limits.trans (timed phase back)) (by decide),
      fun undue over' => ended _ tick both (by simp [phase]) (limits.trans (late phase over' undue)) (by decide),
      fun undue early => goes tick both (limits.trans (still (.inr ⟨early, undue⟩)))⟩
  · have both := apart fun h => ajar h.2
    have tick := Purge.tick_of_armed phase
    have now := ticked tick both.1
    obtain ⟨before, limit⟩ := restArmed (by rw [now]; exact phase)
    rw [now] at before limit
    exact ⟨fun early => goes tick both (before early),
      fun due => ended (p := { s.purge with armed := s.purge.armed + 1 }) _ tick both (by simp [phase]) (limit due) (by decide)⟩
  · obtain ⟨lost, wide⟩ := closes_iff.mp shut
    exact around.shut phase wide lost

end Sys2Proof.Machine
end

section
/-! Conversions and passes: which conditions a sample moves, what becomes of the record, and the pass that follows (O37,
O38). -/

namespace Sys2Proof.Machine

open Sys2Proof

/-! ## The conditions that a sample moves -/

/-- The conditions that a sample, or the loss of a channel, can move: the Scene Evaluator's own, those that follow them,
and those of the Hold Regulator and of the Purge Controller (R65, R84, R120, R130). -/
def sceneConditions : List Condition :=
  [.smokeOutside, .heavySmoke, .outsideCoHigh, .cabCoHigh, .coUnderSeal, .filterLoaded, .supplyLow, .holdShortfall,
   .purgeIncomplete]

theorem setCondition_changes {c : Condition} {cs : List Condition} (hc : c ∈ cs) (v : Bool) (s : State) :
    ConditionsChangeOnly cs s (setCondition c v s) := fun d hd => by
  rw [setCondition_get, if_neg fun same : d = c => hd (same ▸ hc)]

theorem withRegulator_conditions (r : Regulator) (s : State) :
    ConditionsChangeOnly [.holdShortfall, .coUnderSeal] s (withRegulator r s) := (withRegulator_handedOn r s).conditions

theorem putCabCo_conditions (front rear : TimerPair) (raised : Bool) (s : State) :
    ConditionsChangeOnly sceneConditions s (putCabCo front rear raised s) := by
  have high : ConditionsChangeOnly sceneConditions s
      (setCondition .cabCoHigh raised (s.setScene { s.scene with frontCo := front, rearCo := rear })) := fun c hc =>
    (setCondition_changes (by decide) _ (s.setScene _) c hc).trans rfl
  exact high.trans (setCondition_changes (by decide) _ _)

theorem evaluateScene_conditions (c : CalChannel) (s : State) :
    ConditionsChangeOnly sceneConditions s (evaluateScene c s) := by
  have judged {c : Condition} (hc : c ∈ sceneConditions) (v : Bool) (sc : SceneTimers) (u : State) :
      ConditionsChangeOnly sceneConditions u (setCondition c v (u.setScene sc)) := fun d hd =>
    (setCondition_changes hc v (u.setScene sc) d hd).trans rfl
  cases c with
  | outsideSmoke => exact (judged (by decide) _ _ s).trans (judged (by decide) _ _ _)
  | outsideCo => exact judged (by decide) _ _ s
  | frontCo => exact putCabCo_conditions _ _ _ s
  | rearCo => exact putCabCo_conditions _ _ _ s
  | filterDrop => exact judged (by decide) _ _ s
  | supply => exact judged (by decide) _ _ s
  | cabPressure | intakeFlow | frontTemp | rearTemp | coolantTemp => exact fun _ _ => rfl

theorem regulate_conditions (s : State) : ConditionsChangeOnly sceneConditions s (regulate s) := by
  have taken (r : Regulator) (u : State) : ConditionsChangeOnly sceneConditions u (withRegulator r u) :=
    (withRegulator_conditions r u).mono (by decide)
  have judged (v : Bool) (r : Regulator) (u : State) :
      ConditionsChangeOnly sceneConditions u (setCondition .holdShortfall v (u.setReg r)) := fun d hd =>
    (setCondition_changes (cs := sceneConditions) (by decide) v (u.setReg r) d hd).trans rfl
  unfold regulate
  split
  · unfold regulateFresh
    dsimp only
    split
    · exact (taken _ s).trans (judged _ _ _)
    · exact taken _ s
  · exact fun _ _ => rfl
  · exact taken _ s
  · exact taken _ s

theorem handSample_conditions (c : CalChannel) (s : State) :
    ConditionsChangeOnly sceneConditions s (handSample c s) := by
  unfold handSample
  split
  · exact (evaluateScene_conditions c s).trans (regulate_conditions _)
  · exact evaluateScene_conditions c s

theorem resolveEvent_conditions (before : Conditions) (trigger : Bool) (s : State) :
    ConditionsChangeOnly [.holdShortfall, .coUnderSeal] s (resolveEvent before trigger s) := by
  unfold resolveEvent
  split
  · exact (resolve_resolved s).conditions
  · exact fun _ _ => rfl

theorem purgeSample_conditions (k : CalChannel) (heavy : Bool) (previous : Option (BitVec 32)) (time : BitVec 32)
    (s : State) : ConditionsChangeOnly [.purgeIncomplete, .holdShortfall, .coUnderSeal] s
      (purgeSample k heavy previous time s) := by
  have step := (PurgeStep.sampleStep k heavy previous time s).conditions
  have hands := (purgeEvent_hands (sampleStep k heavy previous time) s).2
  rw [purgeSample_eq]
  exact (step.mono (by decide)).trans (hands.mono (by decide))

theorem handOnSample_conditions (k : CalChannel) (now : BitVec 32) (turn : Turn) (before s : State) :
    ConditionsChangeOnly sceneConditions s (handOnSample k now turn before s) := by
  have handed : ConditionsChangeOnly sceneConditions s
      (updateLatch before.conditions.smokeOutside (handSample k s)) := fun c hc => by
    rw [show (updateLatch before.conditions.smokeOutside (handSample k s)).conditions = (handSample k s).conditions by
      simp]
    exact handSample_conditions k s c hc
  have resolved (b : Conditions) (tr : Bool) (u : State) : ConditionsChangeOnly sceneConditions u (resolveEvent b tr u) :=
    (resolveEvent_conditions b tr u).mono (by decide)
  have purged (h : Bool) (p : Option (BitVec 32)) (u : State) :
      ConditionsChangeOnly sceneConditions u (purgeSample k h p now u) :=
    (purgeSample_conditions k h p now u).mono (by decide)
  unfold handOnSample
  cases turn with
  | resolverFirst => exact (handed.trans (resolved _ _ _)).trans (purged _ _ _)
  | purgeFirst => exact (handed.trans (purged _ _ _)).trans (resolved _ _ _)

end Sys2Proof.Machine
end

section
/-! What CONVERSION_END makes of its sample (R115 to R120). -/

namespace Sys2Proof.Machine

open Sys2Proof

/-! ## The clock -/

theorem advanceTo_clock {due : BitVec 32} {s : State} (tenths : s.clock.tenths < 10)
    (ahead : (due - s.clock.ms).toNat < 2 ^ 31) : (advanceTo due s).clock.ms = due :=
  Clock.advance_tenthsTo tenths ahead

theorem advanceTo_parts (due : BitVec 32) (s : State) : ChangesOnly [.clock, .blowers] s (advanceTo due s) :=
  (elapse_spec _ s).2.2

/-! ## The sample -/

/-- A converter check (R115). -/
def Channel.isCheck (c : Channel) : Bool := decide (c = .reference ∨ c = .ground)

/-- What a conversion's end leaves of the scan and the record before the walk goes on (R115 to R119). -/
structure Sampled (c : Channel) (good : Bool) (r : ChannelRecord) (s t : State) : Prop where
  record : t.record = s.record.set c r
  scan : t.scan = { s.scan with
    checkSeen := s.scan.checkSeen || Channel.isCheck c, checkBad := s.scan.checkBad || (Channel.isCheck c && !good) }
  drift : t.conditions.converterDrift = (s.conditions.converterDrift || (Channel.isCheck c && !good))
  failed : t.conditions.sensorFailed = t.sensorFailedNow

/-- Sensor Failed told of the record and the working list, as both stand after the sample (R119). -/
theorem updateSensorFailed_spec (s : State) :
    (updateSensorFailed s).conditions.sensorFailed = s.sensorFailedNow ∧
    ConditionsChangeOnly [.sensorFailed] s (updateSensorFailed s) :=
  ⟨(setCondition_get .sensorFailed .sensorFailed s.sensorFailedNow s).trans (if_pos rfl),
    setCondition_changes List.mem_cons_self _ _⟩

theorem sensorFailedNow_congr {s t : State} (working : t.scan.working = s.scan.working) (record : t.record = s.record) :
    t.sensorFailedNow = s.sensorFailedNow := by
  rw [State.sensorFailedNow, working, record, State.sensorFailedNow]

theorem recordSample_failed (c : Channel) (raw : Nat) (now : BitVec 32) (s : State) :
    (recordSample c raw now s).conditions.sensorFailed = (recordSample c raw now s).sensorFailedNow := by
  set u := s.setRecord (s.record.set c ((s.record.get c).take (sampleGood c raw s.conditions.converterDrift)
    (sampleValue s.settings c raw) now)) with hu
  have eq : recordSample c raw now s = updateSensorFailed u := rfl
  rw [eq, (updateSensorFailed_spec u).1]
  exact (sensorFailedNow_congr (by simp) (by simp)).symm

theorem recordSample_conditions (c : Channel) (raw : Nat) (now : BitVec 32) (s : State) :
    ConditionsChangeOnly [.sensorFailed] s (recordSample c raw now s) := fun d hd =>
  ((updateSensorFailed_spec (s.setRecord _)).2 d hd).trans rfl

/-- A check's part: what the pass knows of its checks, and Converter Drift raised by a Bad one (R115). -/
theorem judgeCheck_spec {c : Channel} (check : Channel.isCheck c = true) (good : Bool) (s : State) :
    (judgeCheck c good s).scan = { s.scan with checkSeen := true, checkBad := s.scan.checkBad || !good } ∧
    (judgeCheck c good s).conditions.converterDrift = (s.conditions.converterDrift || !good) := by
  have eq : judgeCheck c good s =
      if good then s.setScan { s.scan with checkSeen := true, checkBad := s.scan.checkBad || !good }
      else setCondition .converterDrift true
        (s.setScan { s.scan with checkSeen := true, checkBad := s.scan.checkBad || !good }) := by
    cases c with
    | cal k => simp [Channel.isCheck] at check
    | reference => rfl
    | ground => rfl
  rw [eq]
  cases good with
  | true => exact ⟨by simp, by simp⟩
  | false =>
    have raised := setCondition_get .converterDrift .converterDrift true
      (s.setScan { s.scan with checkSeen := true, checkBad := s.scan.checkBad || !false })
    rw [if_pos rfl] at raised
    exact ⟨by simp, raised.trans (Bool.or_true _).symm⟩

theorem sampleGood_of_check {c : Channel} (check : Channel.isCheck c = true) (raw : Nat) (drift drift' : Bool) :
    sampleGood c raw drift = sampleGood c raw drift' := by
  cases c with
  | cal k => simp [Channel.isCheck] at check
  | reference => rfl
  | ground => rfl

theorem sampleEnd_of_check {c : Channel} (check : Channel.isCheck c = true) (raw : Nat) (now : BitVec 32) (turn : Turn)
    (s : State) : sampleEnd c raw now turn s =
      resolveEvent s.conditions false (recordSample c raw now (judgeCheck c (sampleGood c raw false) s)) := by
  cases c with
  | cal k => simp [Channel.isCheck] at check
  | reference => rfl
  | ground => rfl

/-- The sample of a conversion, as it leaves the record, the scan, Converter Drift and Sensor Failed (R115 to R119). -/
theorem sampleEnd_sampled (c : Channel) (raw : Nat) (now : BitVec 32) (turn : Turn) (s : State) :
    Sampled c (sampleGood c raw s.conditions.converterDrift) ((s.record.get c).take
      (sampleGood c raw s.conditions.converterDrift) (sampleValue s.settings c raw) now) s
      (sampleEnd c raw now turn s) := by
  by_cases check : Channel.isCheck c = true
  · rw [sampleEnd_of_check check, sampleGood_of_check check raw s.conditions.converterDrift false]
    set good := sampleGood c raw false with hgood
    set j := judgeCheck c good s with hj
    obtain ⟨scan, drift⟩ := judgeCheck_spec check good s
    have resolved := resolveEvent_conditions s.conditions false (recordSample c raw now j)
    have record : (recordSample c raw now j).record =
        s.record.set c ((s.record.get c).take good (sampleValue s.settings c raw) now) := by
      rw [recordSample_record, sampleGood_of_check check raw j.conditions.converterDrift false]
      simp [hj, hgood]
    exact
      { record := by simpa using record
        scan := by
          rw [check, Bool.or_true, Bool.true_and, ← scan]
          simp [hj]
        drift := by
          rw [check, Bool.true_and, ← drift]
          exact (resolved .converterDrift (by decide)).trans
            (recordSample_conditions c raw now j .converterDrift (by decide))
        failed := by
          refine (resolved .sensorFailed (by decide)).trans ((recordSample_failed c raw now j).trans ?_)
          exact (sensorFailedNow_congr (by simp) (by simp)).symm }
  · cases c with
    | reference => exact absurd rfl check
    | ground => exact absurd rfl check
    | cal k =>
      have eq : sampleEnd (.cal k) raw now turn s = handOnSample k now turn s (recordSample (.cal k) raw now s) := rfl
      have handed := handOnSample_conditions k now turn s (recordSample (.cal k) raw now s)
      have no : Channel.isCheck (.cal k) = false := by simp [Channel.isCheck]
      rw [eq]
      exact
        { record := by simp [recordSample_record]
          scan := by simp [no]
          drift := by
            rw [no, Bool.false_and, Bool.or_false]
            exact (handed .converterDrift (by decide)).trans
              (recordSample_conditions _ raw now s .converterDrift (by decide))
          failed := by
            refine (handed .sensorFailed (by decide)).trans ((recordSample_failed _ raw now s).trans ?_)
            exact (sensorFailedNow_congr (by simp) (by simp)).symm }

/-! ## The sample judged -/

theorem sampleGood_iff (c : Channel) (raw : BitVec 14) (drift : Bool) : sampleGood c raw.toNat drift = true ↔
    match c with
    | .cal _ => raw ≠ 0#14 ∧ raw ≠ 16383#14 ∧ drift = false
    | .reference => 8032 ≤ raw.toNat ∧ raw.toNat ≤ 8352
    | .ground => raw.toNat ≤ 80 := by
  have word (k : Nat) (hk : k < 2 ^ 14) : raw.toNat ≠ k ↔ raw ≠ BitVec.ofNat 14 k := by
    rw [ne_eq, ne_eq, ← BitVec.toNat_inj, BitVec.toNat_ofNat, Nat.mod_eq_of_lt hk]
  cases c with
  | cal k => simp [sampleGood, ← word 0 (by decide), ← word 16383 (by decide), and_assoc]
  | reference => simp [sampleGood, referenceGood]
  | ground => simp [sampleGood, groundGood]

/-- The value of a sample (R113). -/
theorem sampleValue_spec (g : Settings) (c : Channel) (raw : Nat) :
    match c with
    | .cal k => ∃ q : Int, RoundsTo (raw * g.gain.get k) 16384 q ∧
        sampleValue g c raw = within (channelRange c).1 (channelRange c).2 (q + g.offset.get k)
    | .reference => sampleValue g c raw = raw
    | .ground => sampleValue g c raw = raw := by
  cases c with
  | cal k =>
    refine ⟨_, roundHalfAway_spec _ _ (by decide), ?_⟩
    have range : channelRange (.cal k) = CalChannel.range k := by cases k <;> rfl
    rw [range]
    exact clampInt_eq_within _ _ _ (by cases k <;> decide)
  | reference => rfl
  | ground => rfl

/-- The channel's entry after a conversion, by the table of R117. -/
theorem take_spec (r : ChannelRecord) (good : Bool) (v : Int) (now : BitVec 32) :
    (good = true → r.take good v now = ⟨.fresh, some v, some now, 0⟩) ∧
    (good = false →
      (r.take good v now).sampleTime = some now ∧ (r.take good v now).bad = min 255 (r.bad + 1) ∧
      (3 ≤ r.bad → (r.take good v now).status = .failed ∧ (r.take good v now).value = none) ∧
      (r.bad < 3 → r.status = .unsampled →
        (r.take good v now).status = .unsampled ∧ (r.take good v now).value = none) ∧
      (r.bad < 3 → r.status = .fresh ∨ r.status = .held →
        (r.take good v now).status = .held ∧ (r.take good v now).value = r.value)) := by
  refine ⟨fun yes => if_pos yes, fun no => ?_⟩
  have eq : r.take good v now =
      { status := badStatus r.status (min 255 (r.bad + 1))
        value := if badStatus r.status (min 255 (r.bad + 1)) = .held then r.value else none
        sampleTime := some now
        bad := min 255 (r.bad + 1) } := by
    rw [ChannelRecord.take, no]
    rfl
  rw [eq]
  refine ⟨rfl, rfl, fun fourth => ?_, fun few status => ?_, fun few status => ?_⟩
  · have failed : badStatus r.status (min 255 (r.bad + 1)) = .failed := if_pos (by omega)
    simp [failed]
  · have stays : badStatus r.status (min 255 (r.bad + 1)) = .unsampled := by
      unfold badStatus
      rw [if_neg (by omega), status]
    simp [stays]
  · have held : badStatus r.status (min 255 (r.bad + 1)) = .held := by
      unfold badStatus
      rw [if_neg (by omega)]
      rcases status with fresh | held
      · rw [fresh]
      · rw [held]
    simp [held]

end Sys2Proof.Machine
end

section
/-! The end of a pass and the start of the next (R108, R111, R112, R115, R121, R177; O37, O38). -/

namespace Sys2Proof.Machine

open Sys2Proof

/-! ## The end of a pass -/

/-- Converter Drift cleared by a pass with a check and no Bad one (R115). -/
theorem judgeDrift_conditions (s : State) :
    (judgeDrift s).conditions.converterDrift =
      (s.conditions.converterDrift && !(s.scan.checkSeen && !s.scan.checkBad)) ∧
    ConditionsChangeOnly [.converterDrift, .holdShortfall, .coUnderSeal] s (judgeDrift s) := by
  unfold judgeDrift
  cases clears : s.scan.checkSeen && !s.scan.checkBad with
  | true =>
    have resolved := resolveEvent_conditions s.conditions false (setCondition .converterDrift false s)
    have cleared := setCondition_get .converterDrift .converterDrift false s
    rw [if_pos rfl] at cleared
    rw [if_pos rfl, Bool.not_true, Bool.and_false]
    exact ⟨(resolved .converterDrift (by decide)).trans cleared,
      (setCondition_changes (by decide) _ s).trans (resolved.mono (by decide))⟩
  | false =>
    rw [if_neg Bool.noConfusion, Bool.not_false, Bool.and_true]
    exact ⟨rfl, fun _ _ => rfl⟩

/-- The pass counter one on, with a capture at the decimation (R121, R177). -/
theorem trendPassEnd_counted (s : State) : PassCounted s (trendPassEnd s) := by
  refine ⟨fun none => ?_, fun h hold => ?_⟩
  · rw [trendPassEnd, none]
  · set u := s.setTrend { s.trend with passCounter := s.trend.passCounter + 1 } with hu
    have eq : trendPassEnd s = captureTrend u := by rw [trendPassEnd, hold]
    have held : u.trend.hold = some h := hold
    refine ⟨fun short => ?_, fun due => ?_⟩
    · rw [eq, captureTrend_of_not_due fun k hk => ?_]
      · rfl
      · rw [Option.some_inj.mp (hk.symm.trans held)]
        exact short
    · rw [eq, captureTrend_of_due held due]
      exact enqueueTrend_captured _ _

theorem PassCounted.congr {s s' t t' : State} (h : PassCounted s t) (trend : s'.trend = s.trend)
    (record : s'.record = s.record) (pass : s'.scan.pass = s.scan.pass) (frame : s'.loop.frame = s.loop.frame)
    (after : t'.trend = t.trend) : PassCounted s' t' := by
  have same (k : Hold) : capturedRecord k s' = capturedRecord k s := by
    rw [capturedRecord, record, pass, frame, capturedRecord]
  unfold PassCounted
  simp only [trend, after, same]
  exact h

theorem endPass_counted (s : State) : PassCounted s (endPass s) :=
  (trendPassEnd_counted (judgeDrift s)).congr (by simp) (by simp) (by simp) (by simp) rfl

theorem endPass_conditions (s : State) :
    (endPass s).conditions.converterDrift =
      (s.conditions.converterDrift && !(s.scan.checkSeen && !s.scan.checkBad)) ∧
    (endPass s).conditions.sensorFailed = s.conditions.sensorFailed := by
  obtain ⟨drift, others⟩ := judgeDrift_conditions s
  have eq : (endPass s).conditions = (judgeDrift s).conditions := by simp [endPass]
  rw [eq]
  exact ⟨drift, others .sensorFailed (by decide)⟩

/-! ## The next list -/

/-- A new working list adopted (R111, R115, R119). -/
structure ListAdopted (list : List ScanEntry) (s t : State) : Prop where
  scan : t.scan = { s.scan with working := list }
  record : ∀ c, t.record.get c = if listHas list c then s.record.get c else ChannelRecord.blank
  drift : t.conditions.converterDrift = (s.conditions.converterDrift && listHasCheck list)
  failed : t.conditions.sensorFailed = t.sensorFailedNow

theorem listConditions_spec (list : List ScanEntry) (s : State) :
    (listConditions list s).conditions.converterDrift = (s.conditions.converterDrift && listHasCheck list) ∧
    (listConditions list s).conditions.sensorFailed = (listConditions list s).sensorFailedNow := by
  have followed (u : State) : (updateSensorFailed u).conditions.converterDrift = u.conditions.converterDrift ∧
      (updateSensorFailed u).conditions.sensorFailed = (updateSensorFailed u).sensorFailedNow := by
    obtain ⟨failed, others⟩ := updateSensorFailed_spec u
    exact ⟨others .converterDrift (by decide), failed.trans (sensorFailedNow_congr (by simp) (by simp)).symm⟩
  unfold listConditions
  cases checks : listHasCheck list with
  | true =>
    rw [if_pos rfl, Bool.and_true]
    exact followed s
  | false =>
    have cleared := setCondition_get .converterDrift .converterDrift false s
    rw [if_pos rfl] at cleared
    rw [if_neg Bool.noConfusion, Bool.and_false]
    exact ⟨(followed _).1.trans cleared, (followed _).2⟩

/-- What the loss of a channel, and the events that follow a new list, do to the conditions (R111, R120). -/
theorem adoptList_adopted (list : List ScanEntry) (turn : Turn) (s : State) :
    ListAdopted list s (adoptList list turn s) := by
  set first := listConditions list (dropChannels list (s.setScan { s.scan with working := list })) with hfirst
  set lost := lostChannels s.record first.record with hlost
  set second := lost.foldl (fun t k => handSample k t) first with hsecond
  have scan : second.scan = first.scan := foldl_keeps State.scan _ (by simp) lost first
  have record : second.record = first.record := foldl_keeps State.record _ (by simp) lost first
  have losses : ConditionsChangeOnly sceneConditions first second :=
    List.foldlRecOn (motive := ConditionsChangeOnly sceneConditions first) _ _ (fun _ _ => rfl)
      fun u hu k _ => hu.trans (handSample_conditions k u)
  have resolved (b : Conditions) (tr : Bool) (u : State) : ConditionsChangeOnly sceneConditions u (resolveEvent b tr u) :=
    (resolveEvent_conditions b tr u).mono (by decide)
  have purged (u : State) : ConditionsChangeOnly sceneConditions u
      (if lost.any (fun k => decide (k = .intakeFlow)) then purgeEvent fallbackTest u else u) := by
    split
    · exact ((PurgeStep.fallbackTest u).conditions.mono (by decide)).trans
        ((purgeEvent_hands fallbackTest u).2.mono (by decide))
    · exact fun _ _ => rfl
  have after : ConditionsChangeOnly sceneConditions second (adoptList list turn s) := by
    cases turn with
    | resolverFirst => exact (resolved _ _ second).trans (purged _)
    | purgeFirst => exact (purged second).trans (resolved _ _ _)
  have kept : (adoptList list turn s).scan = first.scan ∧ (adoptList list turn s).record = first.record := by
    rw [← scan, ← record]
    cases turn with
    | resolverFirst =>
      simp only [adoptList, shareEvent, ← hfirst, ← hlost, ← hsecond]
      split <;> simp
    | purgeFirst =>
      simp only [adoptList, shareEvent, ← hfirst, ← hlost, ← hsecond]
      split <;> simp
  obtain ⟨drift, failed⟩ := listConditions_spec list (dropChannels list (s.setScan { s.scan with working := list }))
  have moved := losses.trans after
  exact
    { scan := by rw [kept.1, hfirst]; simp
      record := fun c => by
        rw [kept.2, hfirst]
        simp [dropChannels]
      drift := (moved .converterDrift (by decide)).trans (drift.trans (by simp))
      failed := (moved .sensorFailed (by decide)).trans
        (failed.trans (sensorFailedNow_congr (by rw [kept.1]) kept.2).symm) }

/-! ## The start of a pass -/

theorem nextDue_eq_none {pass : BitVec 8} {l : List ScanEntry} (h : ∀ e ∈ l, pass.toNat % e.divider ≠ 0) :
    nextDue pass l = none := by
  induction l with
  | nil => rfl
  | cons e l ih =>
    have early : ¬entryDue pass e = true := by simpa [entryDue] using h e List.mem_cons_self
    rw [nextDue, if_neg early]
    exact ih fun x hx => h x (List.mem_cons_of_mem e hx)

theorem nextDue_append {pass : BitVec 8} {before after : List ScanEntry} {e : ScanEntry}
    (h : ∀ x ∈ before, pass.toNat % x.divider ≠ 0) (due : pass.toNat % e.divider = 0) :
    nextDue pass (before ++ e :: after) = some (e, after) := by
  induction before with
  | nil => exact if_pos (by simpa [entryDue] using due)
  | cons x l ih =>
    have early : ¬entryDue pass x = true := by simpa [entryDue] using h x List.mem_cons_self
    rw [List.cons_append, nextDue, if_neg early]
    exact ih fun y hy => h y (List.mem_cons_of_mem x hy)

theorem startWalk_of_next {pass : BitVec 8} {list : List ScanEntry} (filled : list ≠ []) (since : BitVec 32) :
    (nextDue pass list = none → startWalk pass list since = .empty since) ∧
    ∀ e rest, nextDue pass list = some (e, rest) → startWalk pass list since = .converting e rest since := by
  rw [startWalk, if_neg filled]
  exact ⟨fun none => by rw [none], fun e rest next => by rw [next]⟩

/-- The list of a pass that starts (R111). -/
structure ListTaken (s t : State) : Prop where
  scan : t.scan = { s.scan with working := stagedList s.settings }
  same : stagedList s.settings = s.scan.working → t = s
  new : stagedList s.settings ≠ s.scan.working → ListAdopted (stagedList s.settings) s t

theorem takeStaged_taken (turn : Turn) (s : State) : ListTaken s (takeStaged turn s) := by
  by_cases same : stagedList s.settings = s.scan.working
  · have eq : takeStaged turn s = s := if_pos same
    rw [eq]
    exact ⟨by rw [same], fun _ => rfl, fun ne => absurd same ne⟩
  · have eq : takeStaged turn s = adoptList (stagedList s.settings) turn s := if_neg same
    have adopted := adoptList_adopted (stagedList s.settings) turn s
    rw [eq]
    exact ⟨adopted.scan, fun eq => absurd eq same, fun _ => adopted⟩

/-- A pass ended and the next begun (R108, R111, R112, R115, R119, R121). -/
structure PassTurned (now : BitVec 32) (s t : State) : Prop where
  next : NextPass now s t
  counted : PassCounted s t
  drift : DriftJudged (s.conditions.converterDrift = true) (s.scan.checkSeen = true) (s.scan.checkBad = true) s t
  failed : t.scan.working ≠ s.scan.working → t.conditions.sensorFailed = t.sensorFailedNow
  kept : t.scan.working = s.scan.working → t.conditions.sensorFailed = s.conditions.sensorFailed

theorem listHasCheck_iff (l : List ScanEntry) :
    listHasCheck l = true ↔ ∃ e ∈ l, e.channel = .reference ∨ e.channel = .ground := by
  simp only [listHasCheck, listHas, Bool.or_eq_true, List.any_eq_true, decide_eq_true_eq]
  constructor
  · rintro (⟨e, he, h⟩ | ⟨e, he, h⟩)
    · exact ⟨e, he, .inl h⟩
    · exact ⟨e, he, .inr h⟩
  · rintro ⟨e, he, h | h⟩
    · exact .inl ⟨e, he, h⟩
    · exact .inr ⟨e, he, h⟩

theorem passTurned (now : BitVec 32) (turn : Turn) (s : State) :
    PassTurned now s (nextPass now turn (endPass s)) := by
  set u := (endPass s).setScan { (endPass s).scan with pass := (endPass s).scan.pass + 1#8 } with hu
  set v := takeStaged turn u with hv
  set t := nextPass now turn (endPass s) with ht
  have eq : t = v.setScan { v.scan with
    walk := startWalk v.scan.pass v.scan.working now, checkSeen := false, checkBad := false } := rfl
  have taken : ListTaken u v := takeStaged_taken turn u
  obtain ⟨drift, failed⟩ := endPass_conditions s
  have settings : u.settings = s.settings := by simp [hu]
  have scan : u.scan = { s.scan with pass := s.scan.pass + 1#8 } := by simp [hu]
  have record : u.record = s.record := by simp [hu]
  have working : t.scan.working = stagedList s.settings := by
    rw [eq, State.setScan_scan, taken.scan, settings]
  have pass : t.scan.pass = s.scan.pass + 1#8 := by
    rw [eq, State.setScan_scan, taken.scan, scan]
  have walk : t.scan.walk = startWalk t.scan.pass t.scan.working now := by rw [eq]; rfl
  have same_iff : t.scan.working = s.scan.working ↔ stagedList u.settings = u.scan.working := by
    rw [working, settings, scan]
  have recordAfter : t.record = v.record := by rw [eq]; rfl
  have conditions : t.conditions = v.conditions := by rw [eq]; rfl
  have unlisted : u.conditions = (endPass s).conditions := by rw [hu]; rfl
  have counted : PassCounted s t := (endPass_counted s).congr rfl rfl rfl rfl (by simp [ht])
  refine ⟨⟨pass, working, ?_, fun none => ?_, fun some none => ?_, fun before e after parts early due => ?_, fun same => ?_,
    fun new c => ?_⟩, counted, ?_, fun new => ?_, fun same => ?_⟩
  · rw [eq]
    exact ⟨rfl, rfl⟩
  · rw [walk, none]
    rfl
  · rw [walk]
    exact (startWalk_of_next some now).1 (nextDue_eq_none none)
  · rw [walk]
    refine (startWalk_of_next (by simp [parts]) now).2 e after ?_
    rw [parts]
    exact nextDue_append early due
  · rw [recordAfter, taken.same (same_iff.mp same), record]
  · rw [recordAfter, (taken.new (mt same_iff.mpr new)).record c, record, working, settings]
    rfl
  · have ended : (endPass s).conditions.converterDrift = true ↔
        s.conditions.converterDrift = true ∧ ¬(s.scan.checkSeen = true ∧ ¬s.scan.checkBad = true) := by
      rw [drift]
      cases s.scan.checkSeen <;> simp
    unfold DriftJudged
    rw [conditions]
    by_cases same : t.scan.working = s.scan.working
    · rw [taken.same (same_iff.mp same), unlisted, ended]
      simp [same]
    · rw [(taken.new (mt same_iff.mpr same)).drift, Bool.and_eq_true, unlisted, ended, listHasCheck_iff, settings,
        ← working]
      simp only [same, false_or, and_assoc]
  · rw [conditions, (taken.new (mt same_iff.mpr new)).failed]
    exact sensorFailedNow_congr (by rw [eq]; rfl) recordAfter.symm
  · rw [conditions, taken.same (same_iff.mp same), unlisted, failed]

/-! ## The rows -/

theorem NextPass.congr {now : BitVec 32} {s s' t : State} (h : NextPass now s t) (pass : s'.scan.pass = s.scan.pass)
    (working : s'.scan.working = s.scan.working) (settings : s'.settings = s.settings) (record : s'.record = s.record) :
    NextPass now s' t :=
  ⟨by rw [pass]; exact h.pass, by rw [settings]; exact h.working, h.checks, h.stop, h.empty, h.first,
    by rw [working, record]; exact h.kept, by rw [working, record]; exact h.dropped⟩

/-- Settles O38. -/
theorem emptyPassEndStartsTheNextPass : Obligations.EmptyPassEndStartsTheNextPass := by
  intro turn s
  refine ⟨fun since empty released => ?_, fun other => ?_⟩
  · set u := advanceTo (since + 1#32) s with hu
    have parts := advanceTo_parts (since + 1#32) s
    have scan : u.scan = s.scan := parts .scan (by decide)
    have record : u.record = s.record := parts .record (by decide)
    have row : exec (.emptyPassEnd turn) s = .next (nextPass (since + 1#32) turn (endPass u)) := by
      refine congrArg Host.Outcome.next ((unlessHeld_of_released _ released).trans ?_)
      rw [emptyPassEnd, empty]
    have turned := passTurned (since + 1#32) turn u
    refine ⟨_, row, turned.next.congr (by rw [scan]) (by rw [scan]) (parts .settings (by decide)).symm record.symm,
      turned.counted.congr (parts .trend (by decide)).symm record.symm (by rw [scan])
        (by rw [parts .loop (by decide)]) rfl, ?_, fun new => ?_, fun p hp => ?_⟩
    · have drift := turned.drift
      unfold DriftJudged at drift ⊢
      rwa [scan, parts .conditions (by decide)] at drift
    · rw [turned.failed (by rwa [scan]), sensorFailedNow_iff]
    · cases p <;> first | exact absurd (by decide) hp | simp [Part.same, hu]
  · refine congrArg Host.Outcome.next ?_
    have still : emptyPassEnd turn s = s := by
      unfold emptyPassEnd
      split
      · next since empty => exact absurd empty (other since)
      · rfl
      · rfl
    unfold unlessHeld
    split
    · rfl
    · exact still

end Sys2Proof.Machine
end

section
/-! CONVERSION_END as a whole (O37). -/

namespace Sys2Proof.Machine

open Sys2Proof

theorem isCheck_iff (c : Channel) : Channel.isCheck c = true ↔ c = .reference ∨ c = .ground := by
  simp [Channel.isCheck]

/-- What the walk makes of a sample taken: the next entry, or the end of the pass and the next pass (R108, R109). -/
theorem continueWalk_of_next {rest rest' : List ScanEntry} {e' : ScanEntry} {s : State}
    (next : nextDue s.scan.pass rest = some (e', rest')) (now : BitVec 32) (turn : Turn) :
    continueWalk rest now turn s = s.setScan { s.scan with walk := .converting e' rest' now } := by
  rw [continueWalk, next]

theorem continueWalk_of_end {rest : List ScanEntry} {s : State} (last : nextDue s.scan.pass rest = none)
    (now : BitVec 32) (turn : Turn) : continueWalk rest now turn s = nextPass now turn (endPass s) := by
  rw [continueWalk, last]

/-- Sensor Failed stands with the record after the walk went on (R119). -/
theorem continueWalk_failed {s : State} (failed : s.conditions.sensorFailed = s.sensorFailedNow)
    (rest : List ScanEntry) (now : BitVec 32) (turn : Turn) :
    (continueWalk rest now turn s).conditions.sensorFailed = (continueWalk rest now turn s).sensorFailedNow := by
  cases next : nextDue s.scan.pass rest with
  | some due =>
    rw [continueWalk_of_next (e' := due.1) (rest' := due.2) next]
    exact failed
  | none =>
    rw [continueWalk_of_end next]
    have turned := passTurned now turn s
    by_cases same : (nextPass now turn (endPass s)).scan.working = s.scan.working
    · rw [turned.kept same, failed]
      exact (sensorFailedNow_congr same (turned.next.kept same)).symm
    · exact turned.failed same

/-- Settles O37. -/
theorem conversionEndTakesTheSample : Obligations.ConversionEndTakesTheSample := by
  intro raw turn s e rest since walk tenths released
  set now := since + BitVec.ofNat 32 e.timeClass with hnow
  set u := advanceTo now s with hu
  have parts := advanceTo_parts now s
  have scan : u.scan = s.scan := parts .scan (by decide)
  have record : u.record = s.record := parts .record (by decide)
  have settings : u.settings = s.settings := parts .settings (by decide)
  have conditions : u.conditions = s.conditions := parts .conditions (by decide)
  set w := sampleEnd e.channel raw.toNat now turn u with hw
  set t := continueWalk rest now turn w with ht
  have row : exec (.conversionEnd raw turn) s = .next t := by
    refine congrArg Host.Outcome.next ((unlessHeld_of_released _ released).trans ?_)
    rw [conversionEnd, walk]
  have taken := sampleEnd_sampled e.channel raw.toNat now turn u
  rw [conditions, settings, record, ← hw] at taken
  set good := sampleGood e.channel raw.toNat s.conditions.converterDrift with hgood
  set v := sampleValue s.settings e.channel raw.toNat with hv
  set entry := (s.record.get e.channel).take good v now with hentry
  have sampled : w.record = s.record.set e.channel entry := taken.record.trans (by rw [record])
  obtain ⟨fresh, bad⟩ := take_spec (s.record.get e.channel) good v now
  have check := isCheck_iff e.channel
  have pass : w.scan.pass = s.scan.pass := by rw [taken.scan, scan]
  have working : w.scan.working = s.scan.working := by rw [taken.scan, scan]
  have trend : w.trend = s.trend := by simp [hw, hu]
  have badCheck : (Channel.isCheck e.channel && !good) = true ↔
      good = false ∧ (e.channel = .reference ∨ e.channel = .ground) := by
    rw [Bool.and_eq_true, check, Bool.not_eq_true', and_comm]
  have raised : w.conditions.converterDrift = true ↔ s.conditions.converterDrift = true ∨
      (good = false ∧ (e.channel = .reference ∨ e.channel = .ground)) := by
    rw [taken.drift, conditions, Bool.or_eq_true, badCheck]
  refine ⟨t, good, v, now, s.record.set e.channel entry, row, rfl, sampleGood_iff _ _ _, ?_, ⟨?_, ?_⟩, fun c ne => ?_,
    fun ahead => ?_, ?_, ⟨fun e' rest' next => ?_, fun last => ?_⟩, fun p hp => ?_⟩
  · exact sampleValue_spec s.settings e.channel raw.toNat
  · rw [PerChannel.get_set, if_pos rfl]
    exact fresh
  · rw [PerChannel.get_set, if_pos rfl]
    exact bad
  · rw [PerChannel.get_set, if_neg ne]
  · have clock : t.clock = u.clock := by simp [ht, hw]
    rw [clock]
    exact advanceTo_clock tenths ahead
  · rw [← sensorFailedNow_iff, ← continueWalk_failed taken.failed]
  · have goes : t = w.setScan { w.scan with walk := .converting e' rest' now } :=
      continueWalk_of_next (by rwa [pass]) now turn
    rw [goes]
    exact ⟨sampled, rfl, pass, working, raised, trend⟩
  · have ends : t = nextPass now turn (endPass w) := continueWalk_of_end (by rwa [pass]) now turn
    have turned := passTurned now turn w
    rw [ends]
    refine ⟨turned.next.congr pass.symm working.symm (by simp [hw, hu]) sampled.symm,
      turned.counted.congr trend.symm sampled.symm pass.symm (by simp [hw, hu]) rfl, ?_⟩
    have seen : w.scan.checkSeen = true ↔ s.scan.checkSeen = true ∨ (e.channel = .reference ∨ e.channel = .ground) := by
      rw [taken.scan, scan, ← check]
      simp
    have bad' : w.scan.checkBad = true ↔ s.scan.checkBad = true ∨
        (good = false ∧ (e.channel = .reference ∨ e.channel = .ground)) := by
      rw [taken.scan, scan, ← badCheck]
      simp
    have drift := turned.drift
    unfold DriftJudged at drift ⊢
    rwa [seen, bad', raised, working] at drift
  · cases p <;> first | exact absurd (by decide) hp | simp [Part.same, ht, hw, hu]

end Sys2Proof.Machine
end

section
/-! A raise of Heavy Smoke under a shelter source seals the cab in its own event (O36). -/

namespace Sys2Proof.Machine

open Sys2Proof

/-! ## A resolution under Sealed -/

/-- A shelter source is on and Heavy Smoke is Raised: the plan that is formed is Sealed (R29, R31). -/
structure Sealing (s : State) : Prop where
  asked : (s.requestSource || s.resolver.autoLatch || s.pumpSource) = true
  smoke : s.conditions.heavySmoke = true

theorem Sealing.shelterNow {s : State} (h : Sealing s) : s.shelterNow = .sealed := by
  rw [State.shelterNow, if_pos h.asked, if_pos h.smoke]

theorem Sealing.congr {s t : State} (h : Sealing s) (table : t.table = s.table)
    (latch : t.resolver.autoLatch = s.resolver.autoLatch) (settings : t.settings = s.settings)
    (vehicle : t.vehicle = s.vehicle) (smoke : t.conditions.heavySmoke = s.conditions.heavySmoke) : Sealing t where
  asked := by
    rw [State.requestSource, table, latch, State.pumpSource, settings, vehicle]
    exact h.asked
  smoke := smoke.trans h.smoke

/-- The Sealed plan's air path (R36). -/
structure SealedPlan (phase : PurgePhase) (b : PlanBody) : Prop where
  shelter : b.shelter = .sealed
  shutter : b.shutter = 0
  relief : b.relief = 0
  intake : b.intake = .off
  phase : b.phase = phase

theorem formPlan_sealed {s : State} (h : Sealing s) : SealedPlan s.purge.phase (formPlan s) := by
  have path := s.layered_path
  rw [if_pos h.shelterNow] at path
  have shutter : s.layered.shutter = some 0 := congrArg Prod.fst path
  have relief : s.layered.relief = some 0 := congrArg (fun p => p.2.1) path
  have intake : s.layered.intake = some .off := congrArg (fun p => p.2.2) path
  exact ⟨h.shelterNow, by simp [formPlan, shutter], by simp [formPlan, relief], by simp [formPlan, intake, shedIntake], rfl⟩

/-- From `s` to `t` the Sealed plan is installed as the next version and handed on: the intake is off (R36, R52). -/
structure Seals (s t : State) : Prop where
  plan : SealedPlan t.purge.phase t.plan.body
  mode : t.reg.mode = .off
  target : (t.blowers.get .intake).target = 0
  version : t.plan.version = s.plan.version + 1#16

theorem resolve_seals {s : State} (h : Sealing s) (moved : formPlan (updateHeater s) ≠ s.plan.body) :
    Seals s (resolve s) := by
  have heater : Sealing (updateHeater s) := h.congr rfl rfl rfl rfl rfl
  have body : (resolve s).plan.body = formPlan (updateHeater s) := by
    rw [resolve_of_changed moved]
    simp [install]
  have formed := formPlan_sealed heater
  have purge : (updateHeater s).purge.phase = (resolve s).purge.phase := by simp [updateHeater]
  rw [← body, purge] at formed
  set u := install (formPlan (updateHeater s)) (updateHeater s) with hu
  have eq : resolve s = handOver u := resolve_of_changed moved
  have reg : u.plannedReg = u.reg.leave 0 u.plan.body.cap := by
    have off : u.plan.body.intake = .off := (formPlan_sealed heater).intake
    rw [State.plannedReg, Regulator.takePlan, off]
  refine ⟨formed, ?_, ?_, ?_⟩
  · rw [eq, handOver_reg, reg]
    split <;> rfl
  · rw [eq, handOver_blowers, reg]
    rfl
  · rw [(resolve_resolved s).version, if_neg (by rwa [body])]

theorem Sealing.resolve {s : State} (h : Sealing s) : Sealing (resolve s) := by
  have on := resolve_resolved s
  exact h.congr (by simp) on.latch (by simp) (by simp) (on.conditions .heavySmoke (by decide))

/-! ## The Purge Controller's part -/

/-- A purge deferred by smoke (R78). -/
def deferredPurge (s : State) : State := s.setPurge { s.purge with phase := .deferred, armed := 0 }

theorem purgeSample_of_smoke {s : State} (smoke : s.conditions.heavySmoke = true) (previous : Option (BitVec 32))
    (now : BitVec 32) :
    (s.purge.phase = .flushing →
      purgeSample .outsideSmoke false previous now s = resolve (markAll .purge (deferredPurge s))) ∧
    (s.purge.phase ≠ .flushing → purgeSample .outsideSmoke false previous now s = s) := by
  have step : sampleStep .outsideSmoke false previous now s = purgeHeavy s := by
    rw [sampleStep, if_neg (by decide), if_neg (by simp [smoke])]
  constructor
  · intro flushing
    have entered : purgeHeavy s = deferredPurge s := by
      unfold purgeHeavy
      rw [flushing]
      simp [smoke, enterPhase, fallbackTest, deferredPurge]
    rw [purgeSample_eq, purgeEvent, step, entered]
    exact if_neg fun same => by simp [deferredPurge, flushing] at same
  · intro other
    have still : purgeHeavy s = s := by
      unfold purgeHeavy
      split
      · next flushing => exact absurd flushing other
      · rw [if_pos smoke]
      · rfl
      · rfl
    rw [purgeSample_eq]
    exact purgeEvent_of_same (step.trans still)

theorem Sealing.deferred {s : State} (h : Sealing s) : Sealing (markAll .purge (deferredPurge s)) :=
  h.congr (by simp [deferredPurge]) (by simp [deferredPurge]) (by simp [deferredPurge]) (by simp [deferredPurge])
    (by simp [deferredPurge])

theorem resolveEvent_of_smoke {before : Conditions} {s : State} (clear : before.heavySmoke = false)
    (smoke : s.conditions.heavySmoke = true) (trigger : Bool) : resolveEvent before trigger s = resolve s := by
  have moved : s.conditions ≠ before := fun same => by simp [same, clear] at smoke
  simp [resolveEvent, moved]

/-! ## The event shared out -/

/-- What the event of a raise of Heavy Smoke leaves of the state `h` in which it was raised (section 2.10). -/
structure SmokeShared (turn : Turn) (h t : State) : Prop where
  plan : SealedPlan t.purge.phase t.plan.body
  mode : t.reg.mode = .off
  target : (t.blowers.get .intake).target = 0
  version : t.plan.version =
    if turn = .resolverFirst ∧ h.purge.phase = .flushing then h.plan.version + 2#16 else h.plan.version + 1#16
  defers : h.purge.phase = .flushing → t.purge = { h.purge with phase := .deferred, armed := 0 }
  kept : h.purge.phase ≠ .flushing → t.purge = h.purge
  smoke : t.conditions.heavySmoke = true
  marks : MarkStands .conditions h t

theorem smokeShared (turn : Turn) {before : Conditions} {h : State} (sealing : Sealing h)
    (unsealedBefore : h.plan.body.shelter ≠ .sealed) (clear : before.heavySmoke = false) (trigger : Bool)
    (previous : Option (BitVec 32)) (now : BitVec 32) :
    SmokeShared turn h (shareEvent turn (resolveEvent before trigger)
      (purgeSample .outsideSmoke before.heavySmoke previous now) h) := by
  have unsealed {u : State} (su : Sealing u) (plan : u.plan = h.plan) : formPlan (updateHeater u) ≠ u.plan.body :=
    fun same => by
      have shelter := (formPlan_sealed (su.congr (t := updateHeater u) rfl rfl rfl rfl rfl)).shelter
      rw [same, plan] at shelter
      exact unsealedBefore shelter
  have first := resolve_seals sealing (unsealed sealing rfl)
  have event {u : State} (su : Sealing u) : resolveEvent before trigger u = resolve u :=
    resolveEvent_of_smoke clear su.smoke trigger
  rw [clear]
  by_cases flushing : h.purge.phase = .flushing
  · cases turn with
    | resolverFirst =>
      set u := markAll .purge (deferredPurge (resolve h)) with hu
      have purge : (resolve h).purge = h.purge := by simp
      have eq : shareEvent .resolverFirst (resolveEvent before trigger) (purgeSample .outsideSmoke false previous now) h =
          resolve u := by
        rw [shareEvent, event sealing, (purgeSample_of_smoke sealing.resolve.smoke previous now).1 (by rwa [purge])]
      have plan : u.plan = (resolve h).plan := by simp [hu, deferredPurge]
      have deferred : u.purge = { h.purge with phase := .deferred, armed := 0 } := by simp [hu, deferredPurge]
      have moved : formPlan (updateHeater u) ≠ u.plan.body := fun same => by
        have now := first.plan.phase
        rw [← plan, ← same, purge, flushing] at now
        exact PurgePhase.noConfusion ((congrArg Purge.phase deferred).symm.trans now)
      have second := resolve_seals sealing.resolve.deferred moved
      rw [eq]
      exact
        { plan := second.plan
          mode := second.mode
          target := second.target
          version := by
            rw [if_pos ⟨rfl, flushing⟩, second.version, plan, first.version, BitVec.add_assoc]
            rfl
          defers := fun _ => by rw [← deferred]; simp
          kept := fun other => absurd flushing other
          smoke := sealing.resolve.deferred.resolve.smoke
          marks := ((MarkStands.resolve h).trans ((MarkStands.of_marks (t := deferredPurge (resolve h))
            (by simp [deferredPurge])).trans (.markAll _ _))).trans (.resolve _) }
    | purgeFirst =>
      set u := markAll .purge (deferredPurge h) with hu
      have plan : u.plan = h.plan := by simp [hu, deferredPurge]
      have deferred : u.purge = { h.purge with phase := .deferred, armed := 0 } := by simp [hu, deferredPurge]
      have once := resolve_seals sealing.deferred (unsealed sealing.deferred plan)
      have current : PlanCurrent (resolve u) := (resolve_resolved u).current
      have eq : shareEvent .purgeFirst (resolveEvent before trigger) (purgeSample .outsideSmoke false previous now) h =
          updateHeater (resolve u) := by
        rw [shareEvent, (purgeSample_of_smoke sealing.smoke previous now).1 flushing, event sealing.deferred.resolve,
          resolve_of_current current]
      rw [eq]
      exact
        { plan := once.plan
          mode := once.mode
          target := once.target
          version := by
            rw [if_neg fun both => Turn.noConfusion both.1, ← plan]
            exact once.version
          defers := fun _ => by rw [← deferred]; simp [updateHeater]
          kept := fun other => absurd flushing other
          smoke := sealing.deferred.resolve.smoke
          marks := (((MarkStands.of_marks (t := deferredPurge h) (by simp [deferredPurge])).trans
            (.markAll _ _)).trans (.resolve _)).trans (.of_marks rfl) }
  · have still {u : State} (su : Sealing u) (purge : u.purge = h.purge) :
        purgeSample .outsideSmoke false previous now u = u :=
      (purgeSample_of_smoke su.smoke previous now).2 (by rwa [purge])
    have purge : (resolve h).purge = h.purge := by simp
    have eq : shareEvent turn (resolveEvent before trigger) (purgeSample .outsideSmoke false previous now) h =
        resolve h := by
      cases turn with
      | resolverFirst => rw [shareEvent, event sealing, still sealing.resolve purge]
      | purgeFirst => rw [shareEvent, still sealing rfl, event sealing]
    rw [eq]
    exact
      { plan := first.plan
        mode := first.mode
        target := first.target
        version := by rw [first.version, if_neg fun both => flushing both.2]
        defers := fun yes => absurd yes flushing
        kept := fun _ => purge
        smoke := sealing.resolve.smoke
        marks := .resolve h }

/-! ## The sample judged -/

/-- A raise timer that has met its limit raises (R125). -/
theorem judgeSample_raises {r : ChannelRecord} {v : Int} (status : r.status = .fresh) (value : r.value = some v)
    {pair : TimerPair} {k : Nat} (timer : pair.raise = some k) {forRaise : Int → Bool} (qualifies : forRaise v = true)
    {raiseTime : Nat} (met : raiseTime ≤ k) (forClear : Int → Bool) (clearTime : Nat) :
    judgeSample r false pair forRaise forClear raiseTime clearTime = (⟨none, none⟩, true) := by
  have run : runTimer pair.raise true raiseTime = (none, true) := by
    simp [runTimer, timer, met]
  unfold judgeSample
  simp [status, value, judgeFresh, qualifies, run]

/-- Heavy Smoke raised by a sample (R127). -/
theorem judgeHeavy_raises {s : State} {v : Int} (status : (s.channel .outsideSmoke).status = .fresh)
    (value : (s.channel .outsideSmoke).value = some v) (clear : s.conditions.heavySmoke = false)
    (high : (s.settings.thresholds.heavyRaise : Int) ≤ v) {m : Nat} (timer : s.scene.heavy.raise = some m)
    (met : 100 ≤ m) : judgeHeavy s =
      setCondition .heavySmoke true (s.setScene { s.scene with heavy := ⟨none, none⟩ }) := by
  have judged := judgeSample_raises status value timer
    (forRaise := fun v => decide ((s.settings.thresholds.heavyRaise : Int) ≤ v)) (by simpa using high) met
    (fun v => decide (v < (s.settings.thresholds.heavyClear : Int))) 1000
  unfold judgeHeavy
  simp only [clear, judged]

theorem judgeSmoke_raises {s : State} {v : Int} (status : (s.channel .outsideSmoke).status = .fresh)
    (value : (s.channel .outsideSmoke).value = some v) (clear : s.conditions.smokeOutside = false)
    (high : (s.settings.thresholds.smokeRaise : Int) ≤ v) {k : Nat} (timer : s.scene.smoke.raise = some k)
    (met : 200 ≤ k) : (judgeSmoke s).conditions.smokeOutside = true := by
  have judged := judgeSample_raises status value timer
    (forRaise := fun v => decide ((s.settings.thresholds.smokeRaise : Int) ≤ v)) (by simpa using high) met
    (fun v => decide (v < (s.settings.thresholds.smokeClear : Int))) 6000
  have eq : judgeSmoke s = setCondition .smokeOutside true (s.setScene { s.scene with smoke := ⟨none, none⟩ }) := by
    unfold judgeSmoke
    simp only [clear, judged]
  rw [eq]
  exact (setCondition_get .smokeOutside .smokeOutside true _).trans (if_pos rfl)

/-- The judgement of Smoke Outside leaves what Heavy Smoke is judged by. -/
theorem judgeSmoke_leaves (s : State) : (judgeSmoke s).conditions.heavySmoke = s.conditions.heavySmoke ∧
    (judgeSmoke s).scene.heavy = s.scene.heavy ∧ (judgeSmoke s).record = s.record ∧
    (judgeSmoke s).settings = s.settings := by
  refine ⟨?_, ?_, by simp, by simp⟩
  · exact (setCondition_get .smokeOutside .heavySmoke _ (s.setScene _)).trans (if_neg (by decide))
  · simp [judgeSmoke]

/-- A sample of Outside Smoke that raises Heavy Smoke, before it is handed on (R127). -/
structure HeavyRaised (s h : State) : Prop where
  smoke : h.conditions.heavySmoke = true
  scene : h.scene.heavy = ⟨none, none⟩
  marked : MarkedAll .conditions h
  parts : ChangesOnly [.scene, .conditions, .alert, .marks] s h

theorem handSample_raises {s : State} {v : Int} (status : (s.channel .outsideSmoke).status = .fresh)
    (value : (s.channel .outsideSmoke).value = some v) (clear : s.conditions.heavySmoke = false)
    (high : (s.settings.thresholds.heavyRaise : Int) ≤ v) {m : Nat} (timer : s.scene.heavy.raise = some m)
    (met : 100 ≤ m) : HeavyRaised s (handSample .outsideSmoke s) := by
  obtain ⟨smoke, scene, record, settings⟩ := judgeSmoke_leaves s
  have channel : (judgeSmoke s).channel .outsideSmoke = s.channel .outsideSmoke := by
    rw [State.channel, record]
    rfl
  have eq : handSample .outsideSmoke s = setCondition .heavySmoke true
      ((judgeSmoke s).setScene { (judgeSmoke s).scene with heavy := ⟨none, none⟩ }) := by
    refine Eq.trans ?_ (judgeHeavy_raises (s := judgeSmoke s) (channel ▸ status) (channel ▸ value) (smoke.trans clear)
      (by rwa [settings]) (by rwa [scene]) met)
    rfl
  set u := (judgeSmoke s).setScene { (judgeSmoke s).scene with heavy := ⟨none, none⟩ } with hu
  obtain ⟨get, -, changed, -, parts⟩ := setCondition_spec .heavySmoke true u
  have before : u.conditions.get .heavySmoke = false := smoke.trans clear
  have first : ChangesOnly [.scene, .conditions, .alert, .marks] s u := fun p hp => by
    cases p <;> first | exact absurd (by decide) hp | simp [hu, Part.same]
  rw [eq]
  exact
    { smoke := (get .heavySmoke).trans (if_pos rfl)
      scene := by simp [hu]
      marked := (changed (by rw [before]; exact Bool.noConfusion)).2
      parts := first.trans (parts.mono (by decide)) }

theorem handSample_smokeOutside (s : State) :
    (handSample .outsideSmoke s).conditions.smokeOutside = (judgeSmoke s).conditions.smokeOutside :=
  (setCondition_get .heavySmoke .smokeOutside _ ((judgeSmoke s).setScene _)).trans (if_neg (by decide))

/-- The auto latch set with the raise of Smoke Outside under Auto Shelter (R30). -/
theorem updateLatch_sets {s : State} (raised : s.conditions.smokeOutside = true) (auto : s.settings.autoShelter = true) :
    (updateLatch false s).resolver.autoLatch = true := by
  rw [updateLatch, if_neg (by simp [raised]), if_pos raised, if_pos auto]
  rfl

/-- Settles O36. -/
theorem heavySmokeSealsTheCab : Obligations.HeavySmokeSealsTheCab := by
  intro raw turn s e rest since m walk channel next low high drift clear shelter released heavy timer met source
  set now := since + BitVec.ofNat 32 e.timeClass with hnow
  set v := calibrate .outsideSmoke s.settings.gain.outsideSmoke s.settings.offset.outsideSmoke raw.toNat with hv
  set u := advanceTo now s with hu
  have parts := advanceTo_parts now s
  set r := recordSample (.cal .outsideSmoke) raw.toNat now u with hr
  set h := updateLatch u.conditions.smokeOutside (handSample .outsideSmoke r) with hh
  have good : sampleGood (.cal .outsideSmoke) raw.toNat u.conditions.converterDrift = true :=
    (sampleGood_iff _ raw _).mpr ⟨low, high, by rw [parts .conditions (by decide)]; exact drift⟩
  have sample : r.channel .outsideSmoke = ⟨.fresh, some v, some now, 0⟩ := by
    rw [channel_eq_get, hr, recordSample_record, good, parts .settings (by decide)]
    simp [ChannelRecord.take, sampleValue, hv]
    rfl
  have conditions (c : Condition) (hc : c ≠ .sensorFailed) : r.conditions.get c = s.conditions.get c :=
    (recordSample_conditions _ _ now u c (by simpa using hc)).trans (by rw [parts .conditions (by decide)])
  have settings : r.settings = s.settings := by simp [hr, hu]
  have scene : r.scene = s.scene := by simp [hr, hu]
  have raised := handSample_raises (s := r) (v := v) (by rw [sample]) (by rw [sample])
    ((conditions .heavySmoke (by decide)).trans clear) (by rwa [settings]) (by rwa [scene]) met
  have latched : h.conditions = (handSample .outsideSmoke r).conditions := by simp [hh]
  have sealing : Sealing h := by
    refine ⟨?_, by rw [latched]; exact raised.smoke⟩
    rcases source with ⟨en, mem, demand⟩ | ⟨auto, outside, smoke, k, running, due⟩
    · have request : h.requestSource = true := by
        have table : h.table = s.table := by simp [hh, hr, hu]
        rw [State.requestSource, table]
        exact List.any_eq_true.mpr ⟨en, mem, by simpa using demand⟩
      rw [request]
      rfl
    · have latch : h.resolver.autoLatch = true := by
        have before : u.conditions.smokeOutside = false := by
          rw [parts .conditions (by decide)]
          exact outside
        rw [hh, before]
        refine updateLatch_sets ?_ (by simpa [hr, hu] using auto)
        rw [handSample_smokeOutside]
        exact judgeSmoke_raises (s := r) (v := v) (by rw [sample]) (by rw [sample])
          ((conditions .smokeOutside (by decide)).trans outside) (by rwa [settings]) (by rwa [scene]) due
      rw [latch, Bool.or_true]
      rfl
  have plan : h.plan = s.plan := by simp [hh, hr, hu]
  have purge : h.purge = s.purge := by simp [hh, hr, hu]
  set trigger := sampleTrigger .outsideSmoke (u.channel .outsideSmoke) (r.channel .outsideSmoke) with htrigger
  have shared := smokeShared turn sealing (by rwa [plan])
    (show u.conditions.heavySmoke = false by rw [parts .conditions (by decide)]; exact clear) trigger
    (u.channel .outsideSmoke).sampleTime now
  set w := shareEvent turn (resolveEvent u.conditions trigger)
    (purgeSample .outsideSmoke u.conditions.heavySmoke (u.channel .outsideSmoke).sampleTime now) h with hw
  have sampled : sampleEnd e.channel raw.toNat now turn u = w := by
    rw [channel]
    rfl
  obtain ⟨⟨e', rest'⟩, due⟩ := Option.ne_none_iff_exists'.mp next
  have pass : w.scan.pass = s.scan.pass := by
    rw [← sampled, (sampleEnd_sampled _ _ _ _ _).scan, parts .scan (by decide)]
  set t := w.setScan { w.scan with walk := .converting e' rest' now } with ht
  have row : exec (.conversionEnd raw turn) s = .next t := by
    refine congrArg Host.Outcome.next ((unlessHeld_of_released _ released).trans ?_)
    rw [conversionEnd, walk]
    show continueWalk rest now turn (sampleEnd e.channel raw.toNat now turn u) = t
    rw [sampled, continueWalk_of_next (by rw [pass]; exact due)]
  have marked : MarkedAll .conditions h := fun n on => by
    have marks : h.marks = (handSample .outsideSmoke r).marks := by simp [hh]
    have stations : h.stations = (handSample .outsideSmoke r).stations := by simp [hh]
    rw [State.modeOf, stations] at on
    rw [marks]
    exact raised.marked n on
  have stations : w.stations = h.stations := by
    rw [hw]
    cases turn <;> simp [shareEvent]
  have sceneAfter : w.scene = h.scene := by
    rw [hw]
    cases turn <;> simp [shareEvent]
  have plan' := shared.plan
  refine ⟨t, row, shared.smoke, ?_, plan'.shelter, plan'.shutter, plan'.relief, plan'.intake, shared.mode, shared.target, ?_,
    fun flushing => ?_, fun other => ?_, plan'.phase, ?_⟩
  · show w.scene.heavy = _
    rw [sceneAfter, hh]
    simpa using raised.scene
  · rw [← purge, ← plan]
    exact shared.version
  · have defers := shared.defers (by rwa [purge])
    refine ⟨(congrArg Purge.phase defers).trans rfl, (congrArg Purge.litres defers).trans ?_⟩
    rw [← purge]
  · exact (shared.kept (by rwa [purge])).trans purge
  · exact marked.stand (t := t) shared.marks stations

end Sys2Proof.Machine
end
